-- ==== Sys2Proof/Word.lean ====
section
/-! DEFINITION. The byte of the configuration image, the maintenance port and the reply buffer. Every other quantity of
the SC240 is a count, a set or a name, and has its own type. -/

namespace Sys2Proof

/-- One byte of the configuration image (R157), of a maintenance write (R173) or of a reply (R175). -/
abbrev Byte := BitVec 8

end Sys2Proof
end

