-- ==== Sys2Proof/Config.lean ====
section
/-! DEFINITION. The configuration parameters (00_scope.md, Configuration parameters; R159) and the one free value of the
model. -/

namespace Sys2Proof

/-- The configuration parameters of one leg, by the symbols of 00_scope.md. -/
structure LegConfig where
  gmin : Nat
  amber : Nat
  rin : Nat
  walk : Nat
  ext : Nat
  clear : Nat
  rout : Nat
  maxWait : Nat
  wmin : Nat
  kp : Nat
  band : Nat
  deriving DecidableEq, Repr

/-- The configuration parameters of the station. `leg1` is absent where the legs field is 1 (R20, R189), so that the
legs count and the presence of leg 1's parameters cannot disagree. -/
structure StationConfig where
  station : Nat
  position : Nat
  radius : Nat
  coupling : Nat
  clearwayRange : Nat
  join : Nat
  guard : Nat
  aidHold : Nat
  ref : Nat
  base : Nat
  floor : Nat
  ceiling : Nat
  nightcap : Nat
  isocap : Nat
  locoffset : Nat
  boost : Nat
  envStep : Nat
  koff : Nat
  enable : BitVec 14
  leg0 : LegConfig
  leg1 : Option LegConfig
  deriving DecidableEq, Repr

/-- What the accessors answer while no configuration is loaded. No rule reads it: "while it is absent, no block acts on
a configuration value" (R156). Log entry 16. -/
def LegConfig.blank : LegConfig :=
  { gmin := 0, amber := 0, rin := 0, walk := 0, ext := 0, clear := 0, rout := 0, maxWait := 0, wmin := 0, kp := 0, band := 0 }

/-- See `LegConfig.blank`. -/
def StationConfig.blank : StationConfig :=
  { station := 0, position := 0, radius := 0, coupling := 0, clearwayRange := 0, join := 0, guard := 0, aidHold := 0, ref := 0,
    base := 0, floor := 0, ceiling := 0, nightcap := 0, isocap := 0, locoffset := 0, boost := 0, envStep := 0, koff := 0,
    enable := 0, leg0 := LegConfig.blank, leg1 := none }

/-- The legs parameter (R20). -/
def StationConfig.legs (c : StationConfig) : Nat := if c.leg1.isSome then 2 else 1

/-- FREE VALUE (log entry 6). "Where both legs are placed at the same instant [...] either may be placed first" (R79):
whether leg 1 is placed first at the nth such choice. Nothing constrains it. -/
opaque Config.leg1First : Nat → Bool

end Sys2Proof
end

