-- ==== Sys2Proof/Syntax.lean ====
section
/-! DEFINITION. The commands of the SC240: one constructor per row of spec/opcode_table.json, with the operands the row's
rule names, and the fields of the street line's frames (12_formats.md, R188). -/

namespace Sys2Proof

/-- A leg of a station (00_scope.md, Crossing identity). -/
inductive LegId where
  | leg0
  | leg1
  deriving DecidableEq, Repr

/-- The two kerbs of a leg. -/
inductive Side where
  | a
  | b
  deriving DecidableEq, Repr

/-- The five signal lamps of a leg (R2). -/
inductive LampId where
  | red
  | amber
  | green
  | walk
  | dontWalk
  deriving DecidableEq, Repr

/-- The leg block of a BEACON as carried (R46, 12.1). `keyNormal` is the key class bit: 0 urgent, 1 normal. -/
structure LegBlock where
  phase : BitVec 4
  stage : BitVec 2
  startIn : BitVec 12
  endIn : BitVec 12
  aid : Bool
  band : BitVec 3
  keyNormal : Bool
  rank : BitVec 5
  deriving DecidableEq, Repr

/-- A BEACON as carried (R46). The legs field is 1 where `block1` is present. The header's rank 31 and leg 0 are fixed
(R42, R56). -/
structure BeaconFrame where
  station : BitVec 4
  position : BitVec 11
  radius : BitVec 8
  block0 : LegBlock
  block1 : Option LegBlock
  deriving DecidableEq, Repr

/-- A BID as carried (R47). `urgent` is header class 1, otherwise class 4; `rank` is the header rank. -/
structure BidFrame where
  station : BitVec 4
  leg : LegId
  urgent : Bool
  rank : BitVec 5
  position : BitVec 11
  radius : BitVec 8
  startIn : BitVec 12
  endIn : BitVec 12
  aid : Bool
  band : BitVec 3
  deriving DecidableEq, Repr

/-- A KEEP as carried (R48). The header rank equals the key rank carried (R56). -/
structure KeepFrame where
  station : BitVec 4
  leg : LegId
  position : BitVec 11
  radius : BitVec 8
  stage : BitVec 2
  startIn : BitVec 12
  endIn : BitVec 12
  aid : Bool
  band : BitVec 3
  keyNormal : Bool
  rank : BitVec 5
  deriving DecidableEq, Repr

/-- A CEDE as carried (R48): the header alone. -/
structure CedeFrame where
  station : BitVec 4
  leg : LegId
  deriving DecidableEq, Repr

/-- The fields of a CLEARWAY or a CLEAR_END (R49). The end flag is the kind. -/
structure ClearwayFrame where
  station : BitVec 4
  position : BitVec 11
  range : BitVec 11
  deriving DecidableEq, Repr

/-- A frame of the street line, one of the six kinds of section 3.3. -/
inductive Frame where
  | beacon (f : BeaconFrame)
  | bid (f : BidFrame)
  | keep (f : KeepFrame)
  | cede (f : CedeFrame)
  | clearway (f : ClearwayFrame)
  | clearEnd (f : ClearwayFrame)
  deriving DecidableEq, Repr

/-- A dominant stretch of the line, in µs: what of it came before the line watch began, and what since. "Where the line is dominant
at the moment the line watch begins, the 1 ms of a line fault is counted from that moment" (R41; log entry 28). -/
structure Dominant where
  before : Nat
  watched : Nat
  deriving DecidableEq, Repr

/-- The whole length of a dominant stretch. -/
def Dominant.length (d : Dominant) : Nat := d.before + d.watched

/-- A RSTRT write: the bytes after its command byte, and the level of the QUIET pin in the event of its end, which RESTART samples
(R136; log entry 22). -/
structure RstrtWrite where
  bytes : List Byte
  quiet : Bool
  deriving DecidableEq, Repr

/-- The commands, in the order of spec/opcode_table.json. The commands of the maintenance port carry the operand bytes
written after the command byte, however many (R173). -/
inductive Instr where
  | start (straps : BitVec 2) (phq prq quiet : Bool)
  | resetPinAssert
  | configurationRead (bytes : List Byte)
  | joinExpiry
  | pressDeclared (leg : LegId) (side : Side)
  | releaseDeclared (leg : LegId) (side : Side)
  | aidClassification (leg : LegId) (side : Side)
  | stuck (leg : LegId) (side : Side)
  | blinkExpiry (leg : LegId)
  | flashCountdownExpiry (leg : LegId)
  | minGreenExpiry (leg : LegId)
  | startNear (leg : LegId)
  | amberExpiry (leg : LegId)
  | allRedInExpiry (leg : LegId)
  | walkExpiry (leg : LegId)
  | clearanceExpiry (leg : LegId)
  | allRedOutExpiry (leg : LegId)
  | slotEndInExpiry (leg : LegId)
  | contestExpiry (leg : LegId)
  | transmissionStart
  | arbitrationLoss
  | collisionError
  | ownFrameCompleted
  | bidCompleted
  | keepCompleted
  | cedeCompleted
  | beaconCountdownExpiry
  | lineFault
  | lineClear
  | brokenFrame
  | invalidFrameReceived (bits : List Bool)
  | duplicateFrameReceived (f : Frame)
  | beaconReceived (f : BeaconFrame)
  | bidReceived (f : BidFrame)
  | keepReceived (f : KeepFrame)
  | cedeReceived (f : CedeFrame)
  | clearwayReceived (f : ClearwayFrame)
  | clearEndReceived (f : ClearwayFrame)
  | heardExpiry (station : BitVec 4)
  | tableSlotExpiry (station : BitVec 4) (leg : LegId)
  | burstDue (leg : LegId) (side : Side)
  | soundingExpiry (leg : LegId) (side : Side)
  | beepEnd (leg : LegId) (side : Side)
  | envelopeStep (leg : LegId) (side : Side)
  | ambientWord (leg : LegId) (side : Side) (value : BitVec 7)
  | stalenessExpiry (leg : LegId) (side : Side)
  | quietInputChange (high : Bool)
  | phqRise
  | phqFall
  | prqRise
  | prqFall
  | clearwayRepeatExpiry
  | refreshExpiry (station : BitVec 4)
  | lampReadbackChange (leg : LegId) (lamp : LampId) (on : Bool)
  | mismatchExpiry (leg : LegId) (lamp : LampId)
  | stat (operands : List Byte)
  | leg (operands : List Byte)
  | tread (operands : List Byte)
  | holders (operands : List Byte)
  | cnts (operands : List Byte)
  | fclr (operands : List Byte)
  | call (operands : List Byte)
  | hold (operands : List Byte)
  | quiet (operands : List Byte)
  | flash (operands : List Byte)
  | resume (operands : List Byte)
  | isol (operands : List Byte)
  | join (operands : List Byte)
  | rstrt (operands : RstrtWrite)
  | unknownCommand (code : Byte) (operands : List Byte)
  | buttonSample (leg : LegId) (side : Side) (high : Bool)
  | decisecondTick
  | startPulse (recessive : Nat) (dominant : Dominant)
  deriving DecidableEq, Repr

end Sys2Proof
end

