-- ==== Sys2Proof/Machine/State.lean ====
section
/-! DEFINITION. Everything the SC240 holds (INVENTORY.md, State), the reasons a step can stop, and the state right after
power-on START. Plain data throughout. -/

namespace Sys2Proof.Machine

/-- One value per leg. -/
structure Legs (α : Type) where
  leg0 : α
  leg1 : α
  deriving DecidableEq, Repr

/-- One value per kerb of a leg. -/
structure Kerbs (α : Type) where
  a : α
  b : α
  deriving DecidableEq, Repr

/-- One value per signal lamp of a leg (R2). -/
structure Lamps (α : Type) where
  red : α
  amber : α
  green : α
  walk : α
  dontWalk : α
  deriving DecidableEq, Repr

def Legs.get {α : Type} (p : Legs α) : LegId → α
  | .leg0 => p.leg0
  | .leg1 => p.leg1

def Legs.set {α : Type} (p : Legs α) (l : LegId) (v : α) : Legs α :=
  match l with
  | .leg0 => { p with leg0 := v }
  | .leg1 => { p with leg1 := v }

def Kerbs.get {α : Type} (p : Kerbs α) : Side → α
  | .a => p.a
  | .b => p.b

def Kerbs.set {α : Type} (p : Kerbs α) (k : Side) (v : α) : Kerbs α :=
  match k with
  | .a => { p with a := v }
  | .b => { p with b := v }

def Lamps.get {α : Type} (p : Lamps α) : LampId → α
  | .red => p.red
  | .amber => p.amber
  | .green => p.green
  | .walk => p.walk
  | .dontWalk => p.dontWalk

def Lamps.set {α : Type} (p : Lamps α) (i : LampId) (v : α) : Lamps α :=
  match i with
  | .red => { p with red := v }
  | .amber => { p with amber := v }
  | .green => { p with green := v }
  | .walk => { p with walk := v }
  | .dontWalk => { p with dontWalk := v }

/-- A countdown, running or stopped, with its count (00_scope.md, Time). Its expiry is due while it runs at 0. -/
structure Countdown where
  running : Bool
  count : Nat
  deriving DecidableEq, Repr

/-- "0, stopped". -/
def Countdown.stopped : Countdown := { running := false, count := 0 }

/-- The twelve leg states (R1). -/
inductive LegState where
  | start | rest | called | claimed | committed | amber | allRedIn | walk | clearance | allRedOut | held | flash
  deriving DecidableEq, Repr

/-- The leg record (R1). `walkAid` records whether the walk length was fixed as W + X at WALK entry (R9): the aid walk
that R10, R32 and R119 speak of. Log entry 20. -/
structure LegRec where
  state : LegState
  interval : Countdown
  minGreen : Countdown
  walkElapsed : Nat
  walkLength : Nat
  walkCancelled : Bool
  clearanceCut : Bool
  walkAid : Bool
  flashOn : Bool
  flash : Countdown
  deriving DecidableEq, Repr

/-- The debounced state of a button (R21). -/
inductive InputState where
  | released | held | stuck
  deriving DecidableEq, Repr

/-- The button record (R21). -/
structure Button where
  input : InputState
  pressCount : Nat
  releaseCount : Nat
  heldTime : Nat
  classified : Bool
  deriving DecidableEq, Repr

/-- The kind of a press or call (R24, R26). -/
inductive Kind where
  | plain | aid
  deriving DecidableEq, Repr

/-- The call record (R26). -/
structure Call where
  kind : Kind
  waited : Nat
  firstKerb : Side
  deriving DecidableEq, Repr

/-- What the Call List holds for a leg (R26, R37). -/
structure CallRec where
  call : Option Call
  blinkOn : Bool
  blink : Countdown
  deriving DecidableEq, Repr

/-- How far a slot has come (R76). -/
inductive Stage where
  | claimed | committed | running
  deriving DecidableEq, Repr

/-- A slot, own or foreign (R60, R76). `urgent` is key class urgent. -/
structure Slot where
  startIn : Nat
  endIn : Nat
  aid : Bool
  band : Nat
  urgent : Bool
  rank : Nat
  stage : Stage
  deriving DecidableEq, Repr

/-- The result of a placement (R90) and the pending bid (R77): a slot without a stage, which does not count down. -/
structure Bid where
  startIn : Nat
  endIn : Nat
  aid : Bool
  band : Nat
  urgent : Bool
  rank : Nat
  deriving DecidableEq, Repr

/-- A member of a challenger set (R96). -/
structure Challenger where
  station : Nat
  leg : LegId
  told : Bool
  deriving DecidableEq, Repr

/-- A received BID or KEEP as the Slot Engine takes it (R101, R102): its sender crossing, the position and radius it
carries, the carried slot, whose stage is claimed for a BID, and whether it is a BID. -/
structure Carried where
  station : Nat
  leg : LegId
  position : Nat
  radius : Nat
  slot : Slot
  isBid : Bool
  deriving DecidableEq, Repr

/-- An entry of a deferred list (R96): a received frame, or an aid upgrade of the own other leg's slot. -/
inductive Deferred where
  | frame (c : Carried)
  | upgrade
  deriving DecidableEq, Repr

/-- What the Slot Engine holds for a leg (R76, R77, R96). -/
structure SlotRec where
  slot : Option Slot
  bid : Option Bid
  contest : Countdown
  challengers : List Challenger
  deferred : List Deferred
  deriving DecidableEq, Repr

/-- A crossing record (R60). -/
structure Crossing where
  station : Nat
  leg : LegId
  position : Nat
  radius : Nat
  phase : LegState
  slot : Option Slot
  deriving DecidableEq, Repr

/-- A running heard countdown (R71). A stopped one is not listed. -/
structure HeardCount where
  station : Nat
  left : Nat
  deriving DecidableEq, Repr

/-- An entry of the holders set (R142). -/
structure Holder where
  station : Nat
  left : Nat
  deriving DecidableEq, Repr

/-- A transmit request (R50): its kind, its time of queueing and whether its frame is in transmission. `renews` is the model's own:
a BID request by which an aid upgrade in CALLED replaced one that waited (R95; log entry 35). -/
structure Entry (α : Type) where
  kind : α
  stamp : Nat
  sending : Bool
  renews : Bool := false
  deriving DecidableEq, Repr

/-- The kinds of request that concern a leg. -/
inductive LegReq where
  | bid | keep | cede
  deriving DecidableEq, Repr

/-- The kinds of clearway request. -/
inductive ClearReq where
  | clearway | clearEnd
  deriving DecidableEq, Repr

/-- The transmit queue (R50): "at most one request per leg, one BEACON request and one clearway request". The order is
computed from the entries when a head is chosen. -/
structure Queue where
  legs : Legs (Option (Entry LegReq))
  beacon : Option (Entry Unit)
  clear : Option (Entry ClearReq)
  deriving DecidableEq, Repr

/-- What the bit monitor is doing with the line (R39, R40, R44, R55): nothing begun; collecting a foreign frame; waiting
for 500 µs of recessive line with nothing to take. Log entry 12. -/
inductive Monitor where
  | idle | receiving | waiting
  deriving DecidableEq, Repr

/-- The Line Controller (chapter 3, introduction; R41, R44, R50, R52, R59).. -/
structure Line where
  queue : Queue
  tx : Option Frame
  monitor : Monitor
  faulted : Bool
  beacon : Countdown
  collisions : Nat
  arbLoss : Nat
  collision : Nat
  crcErr : Nat
  formatErr : Nat
  deriving DecidableEq, Repr

/-- The station modes (R156). -/
inductive Mode where
  | start | listen | run | isolated | flash
  deriving DecidableEq, Repr

/-- The causes an ISOLATED station can have, which are also the pending isolations of a FLASH station (R156). -/
inductive Isolation where
  | line | duplicate | command
  deriving DecidableEq, Repr

/-- The mode cause (R156). -/
inductive Cause where
  | none | line | duplicate | command | config | lamp | conflict
  deriving DecidableEq, Repr

/-- The first check a configuration image failed (R156, R158). -/
inductive FaultCheck where
  | none | noAnswer | tag | sum | station | legs
  deriving DecidableEq, Repr

/-- Progress of the hold request (R142). -/
inductive HoldSide where
  | idle | waiting | acknowledged
  deriving DecidableEq, Repr

/-- Progress of the release request (R142). -/
inductive ReleaseSide where
  | idle | deferred | acknowledged | spent
  deriving DecidableEq, Repr

/-- The Hold Unit (R142). The source set is three marks. -/
structure Hold where
  preempt : Bool
  street : Bool
  maint : Bool
  holders : List Holder
  side : HoldSide
  release : ReleaseSide
  pha : Bool
  pra : Bool
  clearway : Countdown
  deriving DecidableEq, Repr

/-- The patterns of a kerb (R115). -/
inductive Pattern where
  | silent | locator | walk | clearance
  deriving DecidableEq, Repr

/-- The beep in progress on a kerb (R115). -/
inductive Beep where
  | none | short | long
  deriving DecidableEq, Repr

/-- The tones of a burst word (R116). -/
inductive Tone where
  | locator | band | beep
  deriving DecidableEq, Repr

/-- A burst word (R116); length 0 is a stop word. -/
structure BurstWord where
  kerb : Side
  tone : Tone
  band : Nat
  level : Nat
  length : Nat
  deriving DecidableEq, Repr

/-- The kerb record (R115). Burst phase, sounding and beep countdown are in eighths of a millisecond, in which every
koff offset of R120 is whole. `late` is the model's own: how long ago the burst fell due that no command has taken yet (log
entry 3). -/
structure Kerb where
  pattern : Pattern
  phase : Countdown
  late : Nat
  sounding : Nat
  shadow : Nat
  envelope : Nat
  step : Countdown
  beep : Beep
  beepLeft : Countdown
  deriving DecidableEq, Repr

/-- The outgoing words of an audio link (R116): those on or waiting for the link, in the order produced, and the link
time left of the first, in eighths of a millisecond. -/
structure Link where
  words : List BurstWord
  left : Nat
  deriving DecidableEq, Repr

/-- The ambient record (R132). -/
structure Ambient where
  average : Option Nat
  staleness : Countdown
  stale : Bool
  deriving DecidableEq, Repr

/-- What the Lamp Monitor holds for a lamp (R167), with the level of the lamp's readback input. -/
structure LampRec where
  readback : Bool
  mismatch : Countdown
  failed : Bool
  deriving DecidableEq, Repr

/-- The quiet mode (R136). -/
inductive QuietMode where
  | follow | forceOn | forceOff
  deriving DecidableEq, Repr

/-- The Maintenance Port (R172, R184): the strap value, the reply buffer, the event flags and the quiet mode. -/
structure Port where
  straps : BitVec 2
  reply : Option (List Byte)
  flags : BitVec 14
  quietMode : QuietMode
  deriving DecidableEq, Repr

/-- The SC240. `sinceTick`, `clock` and `choices` are the model's own (log entries 3, 5 and 6); `pending` is the queue of the
commands that wait, first in, first out. -/
structure State where
  resetHeld : Bool
  reading : Bool
  mode : Mode
  cause : Cause
  faultCheck : FaultCheck
  isolation : Option Isolation
  join : Countdown
  cfg : Option StationConfig
  legs : Legs LegRec
  buttons : Legs (Kerbs Button)
  calls : Legs CallRec
  slots : Legs SlotRec
  table : List Crossing
  heard : List HeardCount
  line : Line
  hold : Hold
  kerbs : Legs (Kerbs Kerb)
  links : Legs Link
  ambient : Legs (Kerbs Ambient)
  lamps : Legs (Lamps LampRec)
  port : Port
  phq : Bool
  prq : Bool
  quietPin : Bool
  quietInput : Bool
  sinceTick : Nat
  clock : Nat
  choices : Nat
  pending : List Instr
  deriving DecidableEq, Repr

/-- No rule of the spec stops the part: a configuration fault, a lamp fault, a line fault and a duplicate number are
states of the station with event flags. No meaning raises a fault. -/
inductive Fault where
  deriving DecidableEq, Repr

/-- Why a command has no meaning. -/
inductive Refusal where
  /-- Raised by exec's arm of a command that has no meaning yet. No arm of this model raises it. Safe. -/
  | notModelled (mnemonic : String)
  deriving DecidableEq, Repr

/-- The leg record at START and RESTART (R1). -/
def LegRec.atStart : LegRec :=
  { state := .start, interval := .stopped, minGreen := .stopped, walkElapsed := 0, walkLength := 0, walkCancelled := false,
    clearanceCut := false, walkAid := false, flashOn := true, flash := { running := true, count := 5 } }

/-- The button record at START and RESTART (R21). -/
def Button.atStart : Button :=
  { input := .released, pressCount := 0, releaseCount := 0, heldTime := 0, classified := false }

/-- The call list of a leg at START and RESTART (R26, R37). -/
def CallRec.atStart : CallRec := { call := none, blinkOn := true, blink := { running := false, count := 3 } }

/-- The Slot Engine's record of a leg at START and RESTART (R76, R77, R96). -/
def SlotRec.atStart : SlotRec := { slot := none, bid := none, contest := .stopped, challengers := [], deferred := [] }

/-- The empty transmit queue (R50). -/
def Queue.empty : Queue := { legs := { leg0 := none, leg1 := none }, beacon := none, clear := none }

/-- The Hold Unit at START and RESTART with PHQ and PRQ as they read (R142). -/
def Hold.atStart (phq prq : Bool) : Hold :=
  { preempt := phq, street := false, maint := false, holders := [], side := if phq then .waiting else .idle,
    release := if prq then .spent else .idle, pha := false, pra := false, clearway := .stopped }

/-- The kerb record at START and RESTART (R115). -/
def Kerb.atStart : Kerb :=
  { pattern := .silent, phase := .stopped, late := 0, sounding := 0, shadow := 0, envelope := 0, step := .stopped, beep := .none,
    beepLeft := .stopped }

/-- The ambient record at START and RESTART (R132). -/
def Ambient.atStart : Ambient := { average := none, staleness := .stopped, stale := false }

/-- A stop word (R116, R117) of the given level. -/
def BurstWord.stop (k : Side) (level : Nat) : BurstWord := { kerb := k, tone := .locator, band := 0, level := level, length := 0 }

/-- The machine right after power-on (R157, R170): START begun with the configuration read in flight, every block at its
START values, and the stop words of R129 on the links (level 0, no configuration being loaded: R117). The input levels
and the strap value, which the spec cannot give, are 0 (log entry 7). -/
def State.reset : State :=
  { resetHeld := false
    reading := true
    mode := .start
    cause := .none
    faultCheck := .none
    isolation := none
    join := .stopped
    cfg := none
    legs := { leg0 := .atStart, leg1 := .atStart }
    buttons := { leg0 := { a := .atStart, b := .atStart }, leg1 := { a := .atStart, b := .atStart } }
    calls := { leg0 := .atStart, leg1 := .atStart }
    slots := { leg0 := .atStart, leg1 := .atStart }
    table := []
    heard := []
    line := { queue := .empty, tx := none, monitor := .idle, faulted := false, beacon := .stopped, collisions := 0, arbLoss := 0,
              collision := 0, crcErr := 0, formatErr := 0 }
    hold := .atStart false false
    kerbs := { leg0 := { a := .atStart, b := .atStart }, leg1 := { a := .atStart, b := .atStart } }
    links := { leg0 := { words := [.stop .a 0, .stop .b 0], left := 4 }, leg1 := { words := [.stop .a 0, .stop .b 0], left := 4 } }
    ambient := { leg0 := { a := .atStart, b := .atStart }, leg1 := { a := .atStart, b := .atStart } }
    lamps :=
      let r : LampRec := { readback := false, mismatch := .stopped, failed := false }
      { leg0 := { red := r, amber := r, green := r, walk := r, dontWalk := r },
        leg1 := { red := r, amber := r, green := r, walk := r, dontWalk := r } }
    port := { straps := 0, reply := none, flags := 0, quietMode := .follow }
    phq := false
    prq := false
    quietPin := false
    quietInput := false
    sinceTick := 0
    clock := 0
    choices := 0
    pending := [] }

end Sys2Proof.Machine
end

