-- ==== Sys2Proof/Machine/Ops.lean ====
section
/-! DEFINITION. The operations every block uses: countdowns, the two legs and their configuration, and one update per piece
of State. -/

namespace Sys2Proof.Machine

/-! ### Countdowns (00_scope.md, Time) -/

/-- A countdown loaded with n, running. -/
def Countdown.load (n : Nat) : Countdown := { running := true, count := n }

/-- A countdown stopped with its count kept. -/
def Countdown.freeze (c : Countdown) : Countdown := { c with running := false }

/-- One step of a running countdown. At 0 it stays, its expiry due (log entry 2). -/
def Countdown.tick (c : Countdown) : Countdown := if c.running then { c with count := c.count - 1 } else c

/-- The expiry of the countdown is due: it runs and its count has reached 0. -/
def Countdown.due (c : Countdown) : Bool := c.running && decide (c.count = 0)

/-! ### One of two, one of five -/

def Legs.upd {α : Type} (p : Legs α) (l : LegId) (f : α → α) : Legs α := p.set l (f (p.get l))

def Legs.map {α β : Type} (f : α → β) (p : Legs α) : Legs β := { leg0 := f p.leg0, leg1 := f p.leg1 }

def Kerbs.upd {α : Type} (p : Kerbs α) (k : Side) (f : α → α) : Kerbs α := p.set k (f (p.get k))

def Kerbs.map {α β : Type} (f : α → β) (p : Kerbs α) : Kerbs β := { a := f p.a, b := f p.b }

def Lamps.upd {α : Type} (p : Lamps α) (i : LampId) (f : α → α) : Lamps α := p.set i (f (p.get i))

/-- The other leg of the station. -/
def otherLeg : LegId → LegId
  | .leg0 => .leg1
  | .leg1 => .leg0

/-- Both legs, leg 0 first. -/
def bothLegs : List LegId := [.leg0, .leg1]

/-- The five lamps of a leg in the order of R2. -/
def allLamps : List LampId := [.red, .amber, .green, .walk, .dontWalk]

/-! ### Configuration (R20, R156) -/

/-- The loaded configuration. While none is loaded no rule reads it (log entry 16). -/
def conf (s : State) : StationConfig := s.cfg.getD StationConfig.blank

/-- A leg's loaded configuration (log entry 16). -/
def legConf (s : State) (l : LegId) : LegConfig :=
  match l with
  | .leg0 => (conf s).leg0
  | .leg1 => (conf s).leg1.getD LegConfig.blank

/-- The legs in use (R20). Before a configuration is loaded both legs are in START, and after a configuration fault
"both legs are taken as in use" (R160). -/
def inUse (s : State) (l : LegId) : Bool :=
  match s.cfg with
  | none => true
  | some c => decide (l = .leg0) || c.leg1.isSome

/-- The leg is in use and a configuration is loaded: its inputs are active (R21) and its kerbs are tracked (R132). -/
def served (s : State) (l : LegId) : Bool := s.cfg.isSome && inUse s l

/-! ### Updates of one piece of State -/

def updLeg (l : LegId) (f : LegRec → LegRec) (s : State) : State := { s with legs := s.legs.upd l f }

def updButton (l : LegId) (k : Side) (f : Button → Button) (s : State) : State :=
  { s with buttons := s.buttons.upd l (fun p => p.upd k f) }

def updCall (l : LegId) (f : CallRec → CallRec) (s : State) : State := { s with calls := s.calls.upd l f }

def updSlot (l : LegId) (f : SlotRec → SlotRec) (s : State) : State := { s with slots := s.slots.upd l f }

def updLine (f : Line → Line) (s : State) : State := { s with line := f s.line }

def updHold (f : Hold → Hold) (s : State) : State := { s with hold := f s.hold }

def updKerb (l : LegId) (k : Side) (f : Kerb → Kerb) (s : State) : State :=
  { s with kerbs := s.kerbs.upd l (fun p => p.upd k f) }

def updLink (l : LegId) (f : Link → Link) (s : State) : State := { s with links := s.links.upd l f }

def updAmbient (l : LegId) (k : Side) (f : Ambient → Ambient) (s : State) : State :=
  { s with ambient := s.ambient.upd l (fun p => p.upd k f) }

def updLamp (l : LegId) (i : LampId) (f : LampRec → LampRec) (s : State) : State :=
  { s with lamps := s.lamps.upd l (fun p => p.upd i f) }

def updPort (f : Port → Port) (s : State) : State := { s with port := f s.port }

/-- The leg state of a leg. -/
def legState (s : State) (l : LegId) : LegState := (s.legs.get l).state

/-- The call record of a leg, if it holds one (R26). -/
def callOf (s : State) (l : LegId) : Option Call := (s.calls.get l).call

/-- The own slot of a leg, if it holds one (R76). -/
def slotOf (s : State) (l : LegId) : Option Slot := (s.slots.get l).slot

/-- Run an update for each leg in use of the list, in its order. -/
def forLegs (ls : List LegId) (f : LegId → State → State) (s : State) : State :=
  ls.foldl (fun s l => if inUse s l then f l s else s) s

/-- "The absolute difference of their station positions" (00_scope.md, R61). -/
def distance (a b : Nat) : Nat := (a - b) + (b - a)

end Sys2Proof.Machine
end

