-- ==== Sys2Proof/Machine/Flags.lean ====
section
/-! DEFINITION. The event flags and SRQ (R184, R186). -/

namespace Sys2Proof.Machine

/-- The fourteen event flags, in the order of their numbers (R184). -/
inductive Flag where
  | cfgClamped | cfgFault | lampFail | conflict | stuck | tableFull | doubleCommit | truncated | urgent | isolated
  | duplicate | lineFault | clearwayExpired | ambientStale
  deriving DecidableEq, Repr

/-- The flag's number (R184), which is its bit in the flags, the FCLR mask and the enable mask (12.3). -/
def flagNumber : Flag → Nat
  | .cfgClamped => 0
  | .cfgFault => 1
  | .lampFail => 2
  | .conflict => 3
  | .stuck => 4
  | .tableFull => 5
  | .doubleCommit => 6
  | .truncated => 7
  | .urgent => 8
  | .isolated => 9
  | .duplicate => 10
  | .lineFault => 11
  | .clearwayExpired => 12
  | .ambientStale => 13

/-- The word with the flag's bit alone. -/
def flagBit (f : Flag) : BitVec 14 := BitVec.ofNat 14 (2 ^ flagNumber f)

/-- The flag is set. -/
def flagSet (s : State) (f : Flag) : Bool := s.port.flags.getLsbD (flagNumber f)

/-- "Setting a flag that is already set leaves it set" (R184). -/
def setFlag (f : Flag) (s : State) : State := updPort (fun p => { p with flags := p.flags ||| flagBit f }) s

/-- Set a flag where the condition holds. -/
def setFlagIf (c : Bool) (f : Flag) (s : State) : State := if c then setFlag f s else s

/-- SRQ (R186): a set flag that the enable mask enables; every flag counts as enabled while no configuration is loaded. -/
def srq (s : State) : Bool :=
  match s.cfg with
  | some c => decide (s.port.flags &&& c.enable ≠ 0#14)
  | none => decide (s.port.flags ≠ 0#14)

end Sys2Proof.Machine
end

