-- ==== Sys2Proof/Machine/Formats.lean ====
section
/-! DEFINITION. The layouts a bus partner sees (12_formats.md): the street line's frames and their CRC, the checks a taken
frame meets, the configuration image with its checks, defaults and clamps, and the words of the audio links. -/

namespace Sys2Proof.Machine

/-! ### Bits, most significant first -/

/-- The low n bits of v, most significant first (chapter 12, introduction). -/
def natBits : Nat → Nat → List Bool
  | 0, _ => []
  | n + 1, v => v.testBit n :: natBits n v

/-- The number that bits spell, most significant first. -/
def bitsNat (bits : List Bool) : Nat := bits.foldl (fun acc b => 2 * acc + b.toNat) 0

/-- The number in `len` bits from offset `off`. -/
def field (bits : List Bool) (off len : Nat) : Nat := bitsNat ((bits.drop off).take len)

/-- The single bit at an offset. -/
def bitAt (bits : List Bool) (off : Nat) : Bool := bits.getD off false

/-! ### The CRC (R42) -/

/-- One bit through the register of the generator x⁸ + x² + x + 1 (R42). -/
def crcStep (r : BitVec 8) (b : Bool) : BitVec 8 :=
  if r.msb != b then (r <<< 1) ^^^ 0x07#8 else r <<< 1

/-- "The register starts at all ones" and runs over every header and payload bit in transmission order (R42). -/
def crc (bits : List Bool) : BitVec 8 := bits.foldl crcStep 0xFF#8

/-! ### Codes -/

/-- The phase codes of 12.1. -/
def phaseCode : LegState → Nat
  | .start => 0
  | .rest => 1
  | .called => 2
  | .claimed => 3
  | .committed => 4
  | .amber => 5
  | .allRedIn => 6
  | .walk => 7
  | .clearance => 8
  | .allRedOut => 9
  | .held => 10
  | .flash => 11

/-- The leg state of a phase code; codes 12 to 15 name none (R188). -/
def phaseOf : Nat → Option LegState
  | 0 => some .start
  | 1 => some .rest
  | 2 => some .called
  | 3 => some .claimed
  | 4 => some .committed
  | 5 => some .amber
  | 6 => some .allRedIn
  | 7 => some .walk
  | 8 => some .clearance
  | 9 => some .allRedOut
  | 10 => some .held
  | 11 => some .flash
  | _ => none

/-- The stage codes of 12.1; 0 is no slot. -/
def stageCode : Stage → Nat
  | .claimed => 1
  | .committed => 2
  | .running => 3

def stageOf : Nat → Option Stage
  | 1 => some .claimed
  | 2 => some .committed
  | 3 => some .running
  | _ => none

def legCode : LegId → Nat
  | .leg0 => 0
  | .leg1 => 1

def legOfBit (b : Bool) : LegId := if b then .leg1 else .leg0

/-! ### Building frames (R42, R46 to R49, R188) -/

/-- The 13 header bits (R42). -/
def headerBits (cls rank station leg : Nat) : List Bool :=
  natBits 3 cls ++ (natBits 5 rank ++ (natBits 4 station ++ natBits 1 leg))

/-- The 40 bits of a BEACON leg block (12.1). -/
def legBlockBits (b : LegBlock) : List Bool :=
  natBits 4 b.phase.toNat ++ (natBits 2 b.stage.toNat ++ (natBits 12 b.startIn.toNat ++ (natBits 12 b.endIn.toNat ++
    (b.aid :: (natBits 3 b.band.toNat ++ (b.keyNormal :: natBits 5 b.rank.toNat))))))

/-- The header and payload of a frame, in transmission order. -/
def frameBody : Frame → List Bool
  | .beacon f =>
    headerBits 5 31 f.station.toNat 0 ++ (natBits 11 f.position.toNat ++ (natBits 8 f.radius.toNat ++
      (f.block1.isSome :: (legBlockBits f.block0 ++
        (match f.block1 with
         | some b => legBlockBits b
         | none => [])))))
  | .bid f =>
    headerBits (if f.urgent then 1 else 4) f.rank.toNat f.station.toNat (legCode f.leg) ++ (natBits 11 f.position.toNat ++
      (natBits 8 f.radius.toNat ++ (natBits 12 f.startIn.toNat ++ (natBits 12 f.endIn.toNat ++ (f.aid :: natBits 3 f.band.toNat)))))
  | .keep f =>
    headerBits 2 f.rank.toNat f.station.toNat (legCode f.leg) ++ (natBits 11 f.position.toNat ++ (natBits 8 f.radius.toNat ++
      (natBits 2 f.stage.toNat ++ (natBits 12 f.startIn.toNat ++ (natBits 12 f.endIn.toNat ++
        (f.aid :: (natBits 3 f.band.toNat ++ (f.keyNormal :: natBits 5 f.rank.toNat))))))))
  | .cede f => headerBits 3 0 f.station.toNat (legCode f.leg)
  | .clearway f =>
    headerBits 0 0 f.station.toNat 0 ++ (natBits 11 f.position.toNat ++ (natBits 11 f.range.toNat ++ [false]))
  | .clearEnd f =>
    headerBits 0 0 f.station.toNat 0 ++ (natBits 11 f.position.toNat ++ (natBits 11 f.range.toNat ++ [true]))

/-- The whole frame: header, payload and the eight CRC bits (R42). -/
def encodeFrame (f : Frame) : List Bool := frameBody f ++ natBits 8 (crc (frameBody f)).toNat

/-! ### Checking and reading a taken frame (R56, R188) -/

/-- The four checks of R56, in order. -/
inductive FrameFault where
  | size | crc | classLength | fields
  deriving DecidableEq, Repr

/-- The leg block at a bit offset. -/
def readLegBlock (bits : List Bool) (off : Nat) : LegBlock :=
  { phase := BitVec.ofNat 4 (field bits off 4)
    stage := BitVec.ofNat 2 (field bits (off + 4) 2)
    startIn := BitVec.ofNat 12 (field bits (off + 6) 12)
    endIn := BitVec.ofNat 12 (field bits (off + 18) 12)
    aid := bitAt bits (off + 30)
    band := BitVec.ofNat 3 (field bits (off + 31) 3)
    keyNormal := bitAt bits (off + 34)
    rank := BitVec.ofNat 5 (field bits (off + 35) 5) }

/-- "Every band 0 to 5; every start_in at most 1200 and every end_in at most 1900" (R56 step 4). -/
def slotCodesOk (startIn endIn : BitVec 12) (band : BitVec 3) : Bool :=
  decide (startIn.toNat ≤ 1200) && decide (endIn.toNat ≤ 1900) && decide (band.toNat ≤ 5)

/-- The field check of a leg block; a block of stage 0 "is checked as carried" (R188). -/
def legBlockOk (b : LegBlock) : Bool :=
  decide (b.phase.toNat ≤ 11) && slotCodesOk b.startIn b.endIn b.band

/-- The field check of R56 step 4 on a frame's own fields. The header fields it also names (rank 31 and leg 0 in a BEACON,
rank 0 in a CEDE or clearway frame, the rank of a KEEP) are fixed in `Frame` and checked in `readBody`. -/
def frameOk : Frame → Bool
  | .beacon f => legBlockOk f.block0 && (match f.block1 with | some b => legBlockOk b | none => true)
  | .bid f => slotCodesOk f.startIn f.endIn f.band
  | .keep f => slotCodesOk f.startIn f.endIn f.band && decide (f.stage.toNat ≠ 0)
  | .cede _ => true
  | .clearway _ => true
  | .clearEnd _ => true

/-- The station number in a frame's header. -/
def frameStation : Frame → Nat
  | .beacon f => f.station.toNat
  | .bid f => f.station.toNat
  | .keep f => f.station.toNat
  | .cede f => f.station.toNat
  | .clearway f => f.station.toNat
  | .clearEnd f => f.station.toNat

/-- Steps 3 and 4 of R56 on the header and payload bits: "the bit count must be the length the Formats chapter gives for
that class", less the eight CRC bits. -/
def readBody (b : List Bool) : Except FrameFault Frame :=
  let cls := field b 0 3
  let rank := field b 3 5
  let station := BitVec.ofNat 4 (field b 8 4)
  let legBit := bitAt b 12
  let leg := legOfBit legBit
  let position := BitVec.ofNat 11 (field b 13 11)
  let radius := BitVec.ofNat 8 (field b 24 8)
  if cls = 5 then
    if b.length = (if bitAt b 32 then 113 else 73) then
      let f : Frame := .beacon { station := station, position := position, radius := radius, block0 := readLegBlock b 33,
                                 block1 := if bitAt b 32 then some (readLegBlock b 73) else none }
      if rank = 31 ∧ legBit = false ∧ frameOk f = true then .ok f else .error .fields
    else .error .classLength
  else if cls = 1 ∨ cls = 4 then
    if b.length = 60 then
      let f : Frame := .bid { station := station, leg := leg, urgent := decide (cls = 1), rank := BitVec.ofNat 5 rank,
                              position := position, radius := radius, startIn := BitVec.ofNat 12 (field b 32 12),
                              endIn := BitVec.ofNat 12 (field b 44 12), aid := bitAt b 56, band := BitVec.ofNat 3 (field b 57 3) }
      if frameOk f = true then .ok f else .error .fields
    else .error .classLength
  else if cls = 2 then
    if b.length = 68 then
      let f : Frame := .keep { station := station, leg := leg, position := position, radius := radius,
                               stage := BitVec.ofNat 2 (field b 32 2), startIn := BitVec.ofNat 12 (field b 34 12),
                               endIn := BitVec.ofNat 12 (field b 46 12), aid := bitAt b 58,
                               band := BitVec.ofNat 3 (field b 59 3), keyNormal := bitAt b 62,
                               rank := BitVec.ofNat 5 (field b 63 5) }
      if rank = field b 63 5 ∧ frameOk f = true then .ok f else .error .fields
    else .error .classLength
  else if cls = 3 then
    if b.length = 13 then
      if rank = 0 then .ok (.cede { station := station, leg := leg }) else .error .fields
    else .error .classLength
  else if cls = 0 then
    if b.length = 36 then
      let f : ClearwayFrame := { station := station, position := position, range := BitVec.ofNat 11 (field b 24 11) }
      if rank = 0 ∧ legBit = false then .ok (if bitAt b 35 then .clearEnd f else .clearway f) else .error .fields
    else .error .classLength
  else .error .classLength

/-- The checks of R56 in order, on the bits of a taken frame. -/
def decodeFrame (bits : List Bool) : Except FrameFault Frame :=
  if bits.length < 21 then .error .size
  else
    let body := bits.take (bits.length - 8)
    if bitsNat (bits.drop (bits.length - 8)) = (crc body).toNat then readBody body else .error .crc

/-! ### The configuration image (R158, R159, R189; 12.2) -/

/-- The unsigned byte at an offset of the image. -/
def imageByte (img : List Byte) (off : Nat) : Nat := (img.getD off 0).toNat

/-- The two-byte field at an offset, high byte first. -/
def imageWord (img : List Byte) (off : Nat) : Nat := imageByte img off * 256 + imageByte img (off + 1)

/-- The sum of bytes 0 to 61, modulo 65536 (R158, R189). -/
def imageSum (img : List Byte) : Nat := ((img.take 62).foldl (fun acc b => acc + b.toNat) 0) % 65536

/-- The checks of R158 in order; `none` where the image passes all five. -/
def imageFault (bytes : List Byte) : FaultCheck :=
  if bytes.length < 64 then .noAnswer
  else if imageByte bytes 0 ≠ 0xC2 then .tag
  else if imageWord bytes 62 ≠ imageSum bytes then .sum
  else if imageByte bytes 1 > 15 then .station
  else if imageByte bytes 8 ≠ 1 ∧ imageByte bytes 8 ≠ 2 then .legs
  else .none

/-- A field that takes its default where it holds the unprogrammed code (R159 step 1). -/
def orDefault (code dflt v : Nat) : Nat := if v = code then dflt else v

/-- The leg block at an offset of the image, unprogrammed fields given their defaults (R159 step 1). -/
def readLegConfig (img : List Byte) (off : Nat) : LegConfig :=
  { gmin := orDefault 0xFFFF 150 (imageWord img off)
    amber := imageByte img (off + 2)
    rin := imageByte img (off + 3)
    walk := orDefault 0xFFFF 70 (imageWord img (off + 4))
    ext := imageByte img (off + 6)
    clear := imageWord img (off + 7)
    rout := imageByte img (off + 9)
    maxWait := imageWord img (off + 10)
    wmin := imageWord img (off + 12)
    kp := imageWord img (off + 14)
    band := imageByte img (off + 16) }

/-- The image's fields, unprogrammed fields given their defaults (12.2, R159 step 1). -/
def readImage (img : List Byte) : StationConfig :=
  { station := imageByte img 1
    position := imageWord img 2
    radius := imageByte img 4
    coupling := imageByte img 5
    clearwayRange := imageWord img 6
    join := orDefault 0xFF 40 (imageByte img 9)
    guard := orDefault 0xFF 20 (imageByte img 10)
    aidHold := orDefault 0xFF 10 (imageByte img 11)
    ref := imageByte img 12
    base := imageByte img 13
    floor := imageByte img 14
    ceiling := imageByte img 15
    nightcap := imageByte img 16
    isocap := imageByte img 17
    locoffset := imageByte img 18
    boost := imageByte img 19
    envStep := imageByte img 20
    koff := imageByte img 21
    enable := BitVec.ofNat 14 (imageWord img 22)
    leg0 := readLegConfig img 24
    leg1 := if imageByte img 8 = 2 then some (readLegConfig img 41) else none }

/-- "Set to the nearer end of that range" (R159 step 2). -/
def clampTo (lo hi v : Nat) : Nat := max lo (min hi v)

/-- The range clamps of a leg (R159 step 2). -/
def clampLegRange (c : LegConfig) : LegConfig :=
  { gmin := clampTo 50 600 c.gmin
    amber := clampTo 30 50 c.amber
    rin := clampTo 10 50 c.rin
    walk := clampTo 40 300 c.walk
    ext := clampTo 0 100 c.ext
    clear := clampTo 30 300 c.clear
    rout := clampTo 10 50 c.rout
    maxWait := clampTo 200 1200 c.maxWait
    wmin := clampTo 40 300 c.wmin
    kp := clampTo 30 300 c.kp
    band := clampTo 0 5 c.band }

/-- The range clamps of the station (R159 step 2). Station number, legs count and enable mask are never clamped. -/
def clampRange (c : StationConfig) : StationConfig :=
  { c with
    position := clampTo 0 2047 c.position
    radius := clampTo 0 255 c.radius
    coupling := clampTo 0 255 c.coupling
    clearwayRange := clampTo 0 2047 c.clearwayRange
    join := clampTo 0 100 c.join
    guard := clampTo 0 50 c.guard
    aidHold := clampTo 8 20 c.aidHold
    ref := clampTo 40 80 c.ref
    base := clampTo 0 11 c.base
    floor := clampTo 0 11 c.floor
    ceiling := clampTo 0 11 c.ceiling
    nightcap := clampTo 0 11 c.nightcap
    isocap := clampTo 0 11 c.isocap
    locoffset := clampTo 0 4 c.locoffset
    boost := clampTo 0 3 c.boost
    envStep := if c.envStep < 8 then 5 else 10
    koff := clampTo 0 7 c.koff
    leg0 := clampLegRange c.leg0
    leg1 := c.leg1.map clampLegRange }

/-- The relation clamps of a leg (R159 step 3). -/
def clampLegRelation (c : LegConfig) : LegConfig := { c with wmin := min c.wmin c.walk, kp := min c.kp c.clear }

/-- The relation clamps (R159 step 3, R139): floor against ceiling first, then both caps against floor as left. -/
def clampRelation (c : StationConfig) : StationConfig :=
  let floor := min c.floor c.ceiling
  { c with
    floor := floor
    nightcap := max c.nightcap floor
    isocap := max c.isocap floor
    leg0 := clampLegRelation c.leg0
    leg1 := c.leg1.map clampLegRelation }

/-- The loaded configuration of an image that passes its checks (R159). -/
def loadImage (img : List Byte) : StationConfig := clampRelation (clampRange (readImage img))

/-- "Each field changed by step 2 or step 3 sets CFG_CLAMPED" (R159). -/
def imageClamped (img : List Byte) : Bool :=
  clampRange (readImage img) ≠ readImage img ∨ loadImage img ≠ clampRange (readImage img)

/-! ### Words of the audio links (12.4) -/

def toneCode : Tone → Nat
  | .locator => 0
  | .band => 1
  | .beep => 2

/-- The 24 bits of a burst word (12.4). -/
def burstBits (w : BurstWord) : List Bool :=
  decide (w.kerb = .b) :: (natBits 2 (toneCode w.tone) ++ (natBits 3 w.band ++ (natBits 4 w.level ++ (natBits 6 0 ++ natBits 8 w.length))))

end Sys2Proof.Machine
end

