-- ==== Sys2Proof/Machine/Table.lean ====
section
/-! DEFINITION. The Crossing Table (chapter 4). -/

namespace Sys2Proof.Machine

/-! ### Records (R60 to R62) -/

/-- The order of the records: station number, then leg (R74). -/
def crossingKey (c : Crossing) : Nat := 2 * c.station + legCode c.leg

/-- Put a record in its place, over one for the same crossing: the records stay in rising key order. -/
def putCrossing (c : Crossing) : List Crossing → List Crossing
  | [] => [c]
  | d :: ds =>
    if crossingKey c < crossingKey d then c :: d :: ds
    else if crossingKey c = crossingKey d then c :: ds
    else d :: putCrossing c ds

/-- The record of a crossing. -/
def findCrossing (t : List Crossing) (st : Nat) (l : LegId) : Option Crossing :=
  t.find? (fun c => decide (c.station = st) && decide (c.leg = l))

/-- The station holds a record. -/
def hasRecord (t : List Crossing) (st : Nat) : Bool := t.any (fun c => decide (c.station = st))

/-- The distance of a position from the own position (R61). -/
def distanceTo (s : State) (position : Nat) : Nat := distance position (conf s).position

/-- A foreign crossing is relevant (R61): within the largest of the own Ra, the own Dc and the radius it carries. -/
def relevant (s : State) (position radius : Nat) : Bool :=
  decide (distanceTo s position ≤ max (max (conf s).radius (conf s).coupling) radius)

/-- An acoustic neighbour (R62). -/
def acoustic (s : State) (position radius : Nat) : Bool := decide (distanceTo s position ≤ max (conf s).radius radius)

/-- A coupling neighbour (R62). -/
def couples (s : State) (position : Nat) : Bool := decide (distanceTo s position ≤ (conf s).coupling)

/-! ### Heard countdowns (R71) -/

/-- Load a station's heard countdown, in rising order of station. -/
def putHeard (h : HeardCount) : List HeardCount → List HeardCount
  | [] => [h]
  | d :: ds =>
    if h.station < d.station then h :: d :: ds
    else if h.station = d.station then h :: ds
    else d :: putHeard h ds

/-- A station's heard countdown stopped. -/
def dropHeard (st : Nat) (hs : List HeardCount) : List HeardCount := hs.filter (fun h => !decide (h.station = st))

/-- The count of a station's heard countdown; 0 where it is stopped. -/
def heardOf (s : State) (st : Nat) : Nat :=
  match s.heard.find? (fun h => decide (h.station = st)) with
  | some h => h.left
  | none => 0

/-- Every record of a station is removed with its slot, and its heard countdown is stopped (R63, R72). -/
def removeStation (st : Nat) (s : State) : State :=
  { s with table := s.table.filter (fun c => !decide (c.station = st)), heard := dropHeard st s.heard }

/-- One record is removed; the heard countdown is stopped where it was the station's last (R64, R65, R71). -/
def removeCrossing (st : Nat) (l : LegId) (s : State) : State :=
  let t := s.table.filter (fun c => !(decide (c.station = st) && decide (c.leg = l)))
  { s with table := t, heard := if hasRecord t st then s.heard else dropHeard st s.heard }

/-- The table emptied (R73). -/
def emptyTable (s : State) : State := { s with table := [], heard := [] }

/-! ### Making a record (R64) -/

/-- The capacity of the table (R60). -/
def tableCapacity : Nat := 24

/-- The farthest record (R64): the greatest distance; of those that share it, the last in (station, leg) order. -/
def farthest (s : State) : Option Crossing :=
  s.table.foldl (fun best c =>
    match best with
    | none => some c
    | some b => if distanceTo s b.position ≤ distanceTo s c.position then some c else some b) none

/-- A record is made (R64): added while there is space, in place of a farther record, or dropped. -/
def makeRecord (c : Crossing) (s : State) : State :=
  if s.table.length < tableCapacity then { s with table := putCrossing c s.table }
  else
    let s := setFlag .tableFull s
    match farthest s with
    | none => s
    | some f =>
      if distanceTo s c.position < distanceTo s f.position then
        let s := removeCrossing f.station f.leg s
        { s with table := putCrossing c s.table }
      else s

/-- Set a crossing's phase and slot, making its record where it has none. -/
def setCrossing (st : Nat) (l : LegId) (position radius : Nat) (phase : Option LegState → LegState) (slot : Option Slot)
    (s : State) : State :=
  match findCrossing s.table st l with
  | some c => { s with table := putCrossing { c with phase := phase (some c.phase), slot := slot } s.table }
  | none => makeRecord { station := st, leg := l, position := position, radius := radius, phase := phase none, slot := slot } s

/-! ### Slots as frames carry them -/

/-- A carried slot; none where its end_in is 0 (R65 to R67). -/
def carriedSlot (startIn endIn : BitVec 12) (aid : Bool) (band : BitVec 3) (urgent : Bool) (rank : BitVec 5) (stage : Option Stage) :
    Option Slot :=
  match stage with
  | none => none
  | some g =>
    if endIn.toNat = 0 then none
    else some { startIn := startIn.toNat, endIn := endIn.toNat, aid := aid, band := band.toNat, urgent := urgent,
                rank := rank.toNat, stage := g }

/-- The phase of a leg block. The field check has refused codes 12 to 15 (R56). -/
def blockPhase (b : LegBlock) : LegState := (phaseOf b.phase.toNat).getD .start

/-- The slot of a leg block (R65): none in phase HELD or FLASH. -/
def blockSlot (b : LegBlock) : Option Slot :=
  if blockPhase b = .held ∨ blockPhase b = .flash then none
  else carriedSlot b.startIn b.endIn b.aid b.band (!b.keyNormal) b.rank (stageOf b.stage.toNat)

/-- The phase after a KEEP (R67): kept where it can hold a slot, otherwise derived from the stage carried. -/
def keepPhase (stage : Nat) (before : Option LegState) : LegState :=
  match before with
  | some .claimed => .claimed
  | some .committed => .committed
  | some .amber => .amber
  | some .allRedIn => .allRedIn
  | some .walk => .walk
  | some .clearance => .clearance
  | _ =>
    match stageOf stage with
    | some .committed => .committed
    | some .running => .walk
    | _ => .claimed

/-! ### Taking a frame (R63) -/

/-- Step 1 of R63: the relevance of a sender that carries a position and a radius. `none`: the frame is taken no further. -/
def placeSender (st position radius : Nat) (s : State) : Option State :=
  if relevant s position radius then
    some { s with table := s.table.map (fun c => if c.station = st then { c with position := position, radius := radius } else c) }
  else none

/-- Step 3 of R63: the sender's heard countdown is loaded with 45 ds where it holds a record, and stopped otherwise. -/
def hearSender (st : Nat) (s : State) : State :=
  { s with heard := if hasRecord s.table st then putHeard { station := st, left := 45 } s.heard else dropHeard st s.heard }

/-- Step 2 of R63 for a BEACON (R65): leg 0 first; then a one-leg BEACON removes the record of leg 1 (the order: log entry 31). -/
def takeBeacon (f : BeaconFrame) (s : State) : State :=
  let put := fun l (b : LegBlock) => setCrossing f.station.toNat l f.position.toNat f.radius.toNat (fun _ => blockPhase b) (blockSlot b)
  let s := put .leg0 f.block0 s
  match f.block1 with
  | some b => put .leg1 b s
  | none => removeCrossing f.station.toNat .leg1 s

/-- The slot that a BID carries: stage claimed, key class from the header class (R66). -/
def bidSlot (f : BidFrame) : Option Slot := carriedSlot f.startIn f.endIn f.aid f.band f.urgent f.rank (some .claimed)

/-- The slot that a KEEP carries (R67). -/
def keepSlot (f : KeepFrame) : Option Slot :=
  carriedSlot f.startIn f.endIn f.aid f.band (!f.keyNormal) f.rank (stageOf f.stage.toNat)

/-- Step 2 of R63 for a BID (R66). -/
def takeBid (f : BidFrame) (s : State) : State :=
  setCrossing f.station.toNat f.leg f.position.toNat f.radius.toNat (fun _ => .claimed) (bidSlot f) s

/-- Step 2 of R63 for a KEEP (R67). -/
def takeKeep (f : KeepFrame) (s : State) : State :=
  setCrossing f.station.toNat f.leg f.position.toNat f.radius.toNat (keepPhase f.stage.toNat) (keepSlot f) s

/-- Step 2 of R63 for a CEDE (R68): the slot of an existing record goes; the phase stays. -/
def takeCede (f : CedeFrame) (s : State) : State :=
  match findCrossing s.table f.station.toNat f.leg with
  | some c => { s with table := putCrossing { c with slot := none } s.table }
  | none => s

/-- Steps 1 and 2 where the frame carries a position and a radius. -/
def takePlaced (st position radius : Nat) (f : State → State) (s : State) : State :=
  match placeSender st position radius s with
  | some s => hearSender st (f s)
  | none => removeStation st s

/-- The Crossing Table takes a dispatched frame (R63). -/
def tableTakes (f : Frame) (s : State) : State :=
  match f with
  | .beacon f => takePlaced f.station.toNat f.position.toNat f.radius.toNat (takeBeacon f) s
  | .bid f => takePlaced f.station.toNat f.position.toNat f.radius.toNat (takeBid f) s
  | .keep f => takePlaced f.station.toNat f.position.toNat f.radius.toNat (takeKeep f) s
  | .cede f => hearSender f.station.toNat (takeCede f s)
  | .clearway f => hearSender f.station.toNat s
  | .clearEnd f => hearSender f.station.toNat s

end Sys2Proof.Machine
end

