-- ==== Sys2Proof/Machine/Placement.lean ====
section
/-! DEFINITION. Slot placement: the eight stages of chapter 5 and the keys of slots. -/

namespace Sys2Proof.Machine

/-! ### Keys (R76) -/

/-- A slot's key: (class, rank, station, leg). -/
structure Key where
  urgent : Bool
  rank : Nat
  station : Nat
  leg : LegId
  deriving DecidableEq, Repr

/-- The first field of a key as a number: class 0 is urgent and class 1 is normal. -/
def classCode (urgent : Bool) : Nat := if urgent then 0 else 1

/-- "Compared field by field from the left, and the first unequal field decides" (R76). -/
def keyLt (a b : Key) : Bool :=
  if classCode a.urgent ≠ classCode b.urgent then decide (classCode a.urgent < classCode b.urgent)
  else if a.rank ≠ b.rank then decide (a.rank < b.rank)
  else if a.station ≠ b.station then decide (a.station < b.station)
  else decide (legCode a.leg < legCode b.leg)

/-- The key of an own slot. -/
def ownKey (s : State) (l : LegId) (x : Slot) : Key := { urgent := x.urgent, rank := x.rank, station := (conf s).station, leg := l }

/-- The key of a foreign slot. -/
def foreignKey (st : Nat) (l : LegId) (x : Slot) : Key := { urgent := x.urgent, rank := x.rank, station := st, leg := l }

/-! ### The exclusion list (R85) -/

/-- An entry of the exclusion list. -/
structure Excl where
  startIn : Nat
  endIn : Nat
  band : Nat
  key : Key
  deriving DecidableEq, Repr

/-- The order of the list: start_in, then end_in, then key. -/
def exclLt (a b : Excl) : Bool :=
  if a.startIn ≠ b.startIn then decide (a.startIn < b.startIn)
  else if a.endIn ≠ b.endIn then decide (a.endIn < b.endIn)
  else keyLt a.key b.key

def insertExcl (x : Excl) : List Excl → List Excl
  | [] => [x]
  | y :: ys => if exclLt x y then x :: y :: ys else y :: insertExcl x ys

def sortExcl (xs : List Excl) : List Excl := xs.foldr insertExcl []

/-- The entry of a slot: every aid slot with end_in above 0. -/
def exclOf (key : Key) (x : Slot) : Option Excl :=
  if x.aid && decide (0 < x.endIn) then some { startIn := x.startIn, endIn := x.endIn, band := x.band, key := key } else none

/-- The members that the Crossing Table gives: the aid slots of acoustic neighbours. -/
def foreignExcl (s : State) : List Excl :=
  s.table.filterMap (fun c =>
    if acoustic s c.position c.radius then c.slot.bind (fun x => exclOf (foreignKey c.station c.leg x) x) else none)

/-- The member that the own other leg gives. -/
def ownExcl (s : State) (l : LegId) : Option Excl := (slotOf s (otherLeg l)).bind (fun x => exclOf (ownKey s (otherLeg l) x) x)

/-- The exclusion list for a leg (R85), in its order. -/
def exclusionList (s : State) (l : LegId) : List Excl := sortExcl (foreignExcl s ++ (ownExcl s l).toList)

/-! ### The exclusion scan (R86) -/

/-- The collision test of R86, S − G < end_in written without subtraction. -/
def collides (guard len start : Nat) (x : Excl) : Bool :=
  decide (x.startIn < start + len + guard) && decide (start < x.endIn + guard)

/-- One pass over the list: each entry that collides moves S to its end_in + G. -/
def scanPass (guard len : Nat) (xs : List Excl) (start : Nat) : Nat :=
  xs.foldl (fun t x => if collides guard len t x then x.endIn + guard else t) start

/-- Passes until one moves nothing. The scan "ends after at most one more pass than it made moves", and each entry moves S
at most once, so one pass more than the list has entries is enough. -/
def scan (guard len : Nat) (xs : List Excl) : Nat → Nat → Nat
  | 0, start => start
  | n + 1, start =>
    let t := scanPass guard len xs start
    if t = start then start else scan guard len xs n t

/-! ### Coupling (R84) -/

/-- The start_in of every candidate: coupling neighbours' slots and the own other leg's, of every kind and stage. -/
def couplingStarts (s : State) (l : LegId) : List Nat :=
  s.table.filterMap (fun c => if couples s c.position then c.slot.map Slot.startIn else none) ++
    ((slotOf s (otherLeg l)).map Slot.startIn).toList

/-- The smallest candidate in the window from lo to hi, or lo where none qualifies. -/
def couple (lo hi : Nat) (starts : List Nat) : Nat :=
  ((starts.filter (fun t => decide (lo ≤ t) && decide (t ≤ hi))).min?).getD lo

/-! ### Band (R89) -/

/-- The lowest-numbered band not among those used. -/
def lowestBand (used : List Nat) : Option Nat := (List.range 6).find? (fun b => !used.contains b)

/-- The eighth stage for an aid slot from `start` to `start + len` (R89): the preferred band where free, the lowest free
band, or the exceptions where all six are used. -/
def aidBand (s : State) (l : LegId) (start len : Nat) : Nat :=
  let xs := (exclusionList s l).filter (fun x => decide (x.startIn < start + len) && decide (start < x.endIn))
  let used := xs.map Excl.band
  let own := (legConf s l).band
  if !used.contains own then own
  else
    match lowestBand used with
    | some b => b
    | none =>
      let otherHasIt :=
        match ownExcl s l with
        | some x => decide (x.startIn < start + len) && decide (start < x.endIn) && decide (x.band = own)
        | none => false
      if otherHasIt then (lowestBand [own]).getD own else own

/-! ### The stages (R81 to R90) -/

/-- The contest time C (00_scope.md). -/
def contestTime : Nat := 5

/-- Stage 1 (R81): the earliest walk start that the leg's sequence allows. -/
def earliestStart (s : State) (l : LegId) : Nat :=
  max (s.legs.get l).minGreen.count contestTime + (legConf s l).amber + (legConf s l).rin

/-- Stage 2 (R82): the time from walk start to clearance end. -/
def slotLength (c : LegConfig) : Kind → Nat
  | .plain => c.walk + c.clear
  | .aid => c.walk + c.ext + c.clear

/-- Stage 3 (R83): Smax = max(S0, M − waited); where the deadline has passed it is S0. -/
def latestStart (s : State) (l : LegId) (waited : Nat) : Nat := max (earliestStart s l) ((legConf s l).maxWait - waited)

/-- Stage 7 (R88): the rank. -/
def rankOf (waited maxWait : Nat) : Nat := 31 - min 31 (32 * waited / maxWait)

/-- Stages 4 and 5 (R84 to R86): the start of a call that is not urgent by waited, before it is compared with Smax. -/
def chosenStart (s : State) (l : LegId) (c : Call) : Nat :=
  let s0 := earliestStart s l
  match c.kind with
  | .plain => couple s0 (min (s0 + (conf s).join) (latestStart s l c.waited)) (couplingStarts s l)
  | .aid =>
    let xs := exclusionList s l
    scan (conf s).guard (slotLength (legConf s l) .aid) xs (xs.length + 1) s0

/-- Urgent by waited (R83), or by the result of the scan (R86). -/
def placedUrgent (s : State) (l : LegId) (c : Call) : Bool :=
  decide ((legConf s l).maxWait ≤ c.waited) || decide (latestStart s l c.waited < chosenStart s l c)

/-- A placement (R78 to R90): the result for a leg whose call is `c`, on the state as it stands. -/
def place (s : State) (l : LegId) (c : Call) : Bid :=
  let urgent := placedUrgent s l c
  let start := if urgent then earliestStart s l else chosenStart s l c
  let len := slotLength (legConf s l) c.kind
  { startIn := start
    endIn := start + len
    aid := decide (c.kind = .aid)
    band :=
      match c.kind with
      | .plain => (legConf s l).band
      | .aid => aidBand s l start len
    urgent := urgent
    rank := rankOf c.waited (legConf s l).maxWait }

end Sys2Proof.Machine
end

