-- ==== Sys2Proof/Machine/Queue.lean ====
section
/-! DEFINITION. The transmit queue (R50, R51) and stopping the own frame (R54, R93). -/

namespace Sys2Proof.Machine

/-- The mode check of R51 for BEACON, CLEARWAY, CLEAR_END and CEDE: LISTEN, FLASH and RUN, with a valid configuration
("after a configuration fault [...] the Line Controller then accepts no request"). -/
def acceptsAny (s : State) : Bool :=
  s.cfg.isSome && (decide (s.mode = .listen) || decide (s.mode = .flash) || decide (s.mode = .run))

/-- The mode check of R51 for a request that concerns a leg: BID and KEEP in RUN alone. -/
def acceptsLeg (s : State) : LegReq → Bool
  | .cede => acceptsAny s
  | _ => s.cfg.isSome && decide (s.mode = .run)

/-- A new entry, its time of queueing now (log entry 5). -/
def newEntry {α : Type} (s : State) (k : α) : Entry α := { kind := k, stamp := s.clock, sending := false }

def updQueue (f : Queue → Queue) (s : State) : State := updLine (fun n => { n with queue := f n.queue }) s

/-- A BID, KEEP or CEDE request reaches the queue (R51): refused by mode, or replacing the leg's request, whatever the two
kinds. The new entry is not in transmission, also where the old one was. -/
def enqueueLeg (l : LegId) (k : LegReq) (s : State) : State :=
  if acceptsLeg s k then updQueue (fun q => { q with legs := q.legs.set l (some (newEntry s k)) }) s else s

/-- A BEACON request reaches the queue (R51): dropped where one is queued, in transmission or not (R52). -/
def enqueueBeacon (s : State) : State :=
  if acceptsAny s && s.line.queue.beacon.isNone then updQueue (fun q => { q with beacon := some (newEntry s ()) }) s else s

/-- A clearway request reaches the queue and replaces any clearway request there (R51). -/
def enqueueClear (k : ClearReq) (s : State) : State :=
  if acceptsAny s then updQueue (fun q => { q with clear := some (newEntry s k) }) s else s

/-- An entry that loses its in-transmission mark and is kept (R43, R44, R54). -/
def Entry.rest {α : Type} (e : Entry α) : Entry α := { e with sending := false }

/-- Every entry kept, none in transmission. -/
def Queue.rest (q : Queue) : Queue :=
  { legs := q.legs.map (fun o => o.map Entry.rest), beacon := q.beacon.map Entry.rest, clear := q.clear.map Entry.rest }

/-- The completed frame's request goes; an entry that was superseded during the transmission is not in transmission and
stays (R45, R51). -/
def dropSent {α : Type} (o : Option (Entry α)) : Option (Entry α) := o.filter (fun e => !e.sending)

def Queue.dropSent (q : Queue) : Queue :=
  { legs := q.legs.map Machine.dropSent, beacon := Machine.dropSent q.beacon, clear := Machine.dropSent q.clear }

/-- A pending bid goes, and its deferred list with it (R77, R96). -/
def SlotRec.dropBid (r : SlotRec) : SlotRec := { r with bid := none, deferred := [] }

def dropBids (s : State) : State := { s with slots := s.slots.map SlotRec.dropBid }

/-- The own frame stops being driven and its request is kept (R43, R44, R41, R54); no pending bid remains (R93). -/
def stopOwnFrame (s : State) : State := dropBids (updLine (fun n => { n with tx := none, queue := n.queue.rest }) s)

/-- "A frame whose reception is under way [...] is discarded without a count" (R55, R41). -/
def discardReception (s : State) : State :=
  updLine (fun n => { n with monitor := if n.monitor = .receiving then .waiting else n.monitor }) s

/-- A 16-bit counter that saturates at 65535 (R59). -/
def advance (n : Nat) : Nat := min 65535 (n + 1)

end Sys2Proof.Machine
end

