-- ==== Sys2Proof/Machine/Slots.lean ====
section
/-! DEFINITION. The Slot Engine after placement: contest, commitment, conflict, band separation, aid upgrade and
withdrawal (chapter 6), and what becomes of a placement's result (section 5.7). -/

namespace Sys2Proof.Machine

/-! ### The leg's part (R6, R7) -/

/-- AMBER entry (R7): min green is set to 0 and the interval loaded with A. -/
def amberEntry (l : LegId) (s : State) : State :=
  updLeg l (fun r => { r with state := .amber, minGreen := .stopped, interval := .load (legConf s l).amber }) s

/-- The own slot's start_in is at or below A + Rin (R7). -/
def startIsNear (s : State) (l : LegId) : Bool :=
  match slotOf s l with
  | some x => decide (x.startIn ≤ (legConf s l).amber + (legConf s l).rin)
  | none => false

/-- The leg takes a commit (R6): from CLAIMED, or from CALLED in ISOLATED, to COMMITTED, and on to AMBER in the same event
where the start is already near (R7). -/
def takeCommit (l : LegId) (s : State) : State :=
  if legState s l = .claimed ∨ (legState s l = .called ∧ s.mode = .isolated) then
    let s := updLeg l (fun r => { r with state := .committed }) s
    if startIsNear s l then amberEntry l s else s
  else s

/-! ### Slots and challengers (R96) -/

/-- The own slot goes, its contest countdown stops and its challenger set is emptied (R96). -/
def SlotRec.removeSlot (r : SlotRec) : SlotRec := { r with slot := none, contest := .stopped, challengers := [] }

def removeSlot (l : LegId) (s : State) : State := updSlot l SlotRec.removeSlot s

/-- Every told mark set to no (R98, R99, R110, R111). -/
def SlotRec.untell (r : SlotRec) : SlotRec := { r with challengers := r.challengers.map (fun c => { c with told := false }) }

/-- Every told mark set to yes (R103). -/
def SlotRec.tellAll (r : SlotRec) : SlotRec := { r with challengers := r.challengers.map (fun c => { c with told := true }) }

/-- Change the own slot, if there is one. -/
def onSlot (l : LegId) (f : Slot → Slot) (s : State) : State := updSlot l (fun r => { r with slot := r.slot.map f }) s

/-- Withdrawal (R113): a leg that holds an own slot loses it, and a CEDE is queued. -/
def withdraw (l : LegId) (s : State) : State :=
  if (slotOf s l).isSome then enqueueLeg l .cede (removeSlot l s) else s

/-- A cede (R104): the claimed slot goes, the leg returns from CLAIMED to CALLED, and a CEDE is queued. -/
def cede (l : LegId) (s : State) : State :=
  let s := removeSlot l s
  let s := if legState s l = .claimed then updLeg l (fun r => { r with state := .called }) s else s
  enqueueLeg l .cede s

/-! ### Conflict (R101 to R103) -/

/-- Collision with guard (R101). -/
def collideGuard (guard : Nat) (a b : Slot) : Bool :=
  decide (b.startIn < a.endIn + guard) && decide (a.startIn < b.endIn + guard)

/-- Overlap without guard (R109): each starts before the other ends. -/
def overlap (a b : Slot) : Bool := decide (a.startIn < b.endIn) && decide (b.startIn < a.endIn)

/-- The three outcomes of the table of R102. -/
inductive Answer where
  | cede | keep | keepDouble
  deriving DecidableEq, Repr

/-- The table of R102. `claim` is a BID, or a KEEP of stage claimed. -/
def answerOf (own : Slot) (key : Key) (claim : Bool) (received : Key) : Answer :=
  match own.stage with
  | .claimed =>
    if claim then (if keyLt received key then .cede else .keep)
    else if own.urgent then .keep
    else .cede
  | _ => if claim then .keep else .keepDouble

/-- The frame is a BID or a KEEP of stage claimed. -/
def isClaim (c : Carried) : Bool := c.isBid || decide (c.slot.stage = .claimed)

/-- A received BID or KEEP is in conflict with the own slot of a leg (R101). -/
def inConflict (s : State) (l : LegId) (c : Carried) : Bool :=
  match slotOf s l with
  | none => false
  | some own =>
    acoustic s c.position c.radius && c.slot.aid && decide (0 < c.slot.endIn) && own.aid &&
      collideGuard (conf s).guard own c.slot

/-- The sender crossing's place in a challenger set. -/
def findChallenger (cs : List Challenger) (st : Nat) (l : LegId) : Option Challenger :=
  cs.find? (fun c => decide (c.station = st) && decide (c.leg = l))

/-- A crossing in the challenger set with told mark no: added, or its mark set back. -/
def challenge (st : Nat) (l : LegId) (cs : List Challenger) : List Challenger :=
  match findChallenger cs st l with
  | some _ => cs.map (fun c => if c.station = st ∧ c.leg = l then { c with told := false } else c)
  | none => cs ++ [{ station := st, leg := l, told := false }]

/-- Answer with a KEEP (R103): a BID is always answered; a KEEP from a crossing already told is not. -/
def answerKeep (l : LegId) (c : Carried) (s : State) : State :=
  let cs := (s.slots.get l).challengers
  let told := (findChallenger cs c.station c.leg).any Challenger.told
  if !c.isBid && told then s
  else enqueueLeg l .keep (updSlot l (fun r => { r with challengers := challenge c.station c.leg r.challengers }) s)

/-- The reaction of one leg to a received BID or KEEP (R102, R106). -/
def react (l : LegId) (c : Carried) (s : State) : State :=
  match slotOf s l with
  | none => s
  | some own =>
    if inConflict s l c then
      match answerOf own (ownKey s l own) (isClaim c) (foreignKey c.station c.leg c.slot) with
      | .cede => cede l s
      | .keep => answerKeep l c s
      | .keepDouble => setFlag .doubleCommit (answerKeep l c s)
    else s

/-! ### Band separation (R109, R110) -/

/-- The acoustic-neighbour aid slots of the table, with their keys, other than one crossing's. -/
def neighbourSlots (s : State) (but : Option (Nat × LegId)) : List (Key × Slot) :=
  s.table.filterMap (fun c =>
    if acoustic s c.position c.radius && !decide (but = some (c.station, c.leg)) then
      c.slot.bind (fun x => if x.aid then some (foreignKey c.station c.leg x, x) else none)
    else none)

/-- The own other leg's aid slot, with its key. -/
def otherAid (s : State) (l : LegId) : Option (Key × Slot) :=
  (slotOf s (otherLeg l)).bind (fun x => if x.aid then some (ownKey s (otherLeg l) x, x) else none)

/-- The foreign aid slots that a band check in the event of a frame sees: the one carried, and those of the table other than the
sender's crossing (R58, R110); outside such an event those of the table. -/
def foreignSlots (s : State) (caller : Option Carried) : List (Key × Slot) :=
  (caller.map (fun c => (foreignKey c.station c.leg c.slot, c.slot))).toList ++
    neighbourSlots s (caller.map (fun c => (c.station, c.leg)))

/-- The used bands of R110: of every overlapping slot carried by the frame that called for the move, of the table other
than the sender's crossing, and of the own other leg. -/
def usedBands (s : State) (l : LegId) (own : Slot) (caller : Option Carried) : List Nat :=
  let foreign := (foreignSlots s caller).map Prod.snd
  let other := ((otherAid s l).map Prod.snd).toList
  ((foreign ++ other).filter (overlap own)).map Slot.band

/-- A band move (R110): the lowest band not used, every told mark set to no, and a KEEP queued. `none` where all six bands
are used and the slot keeps its band. -/
def moveBand (l : LegId) (caller : Option Carried) (s : State) : Option State :=
  match slotOf s l with
  | none => none
  | some own =>
    match lowestBand (usedBands s l own caller) with
    | none => none
    | some b => some (enqueueLeg l .keep (updSlot l SlotRec.untell (onSlot l (fun x => { x with band := b }) s)))

/-- The check calls for separation (R109): overlap without guard and the same band. -/
def callsFor (own x : Slot) : Bool := overlap own x && decide (own.band = x.band)

/-- The changed slot of leg l must move (R109): against a foreign slot, or the own other leg's, that calls for separation and has
the lower key. -/
def mustMove (s : State) (l : LegId) (own : Slot) (caller : Option Carried) : Bool :=
  (foreignSlots s caller ++ (otherAid s l).toList).any (fun p => callsFor own p.2 && keyLt p.1 (ownKey s l own))

/-- The own other leg's slot must move for the changed slot of leg l (R109): it calls for separation and has the greater key. -/
def otherMustMove (s : State) (l : LegId) (own : Slot) : Bool :=
  (otherAid s l).any (fun p => callsFor own p.2 && keyLt (ownKey s l own) p.1)

/-- The changed slot must move, and a band is free for it (R110). -/
def moveChanged (l : LegId) (own : Slot) (caller : Option Carried) (s : State) : Option State :=
  if mustMove s l own caller then moveBand l caller s else none

/-- The own other leg's slot must move, and a band is free for it (R110). -/
def moveOther (l : LegId) (own : Slot) (caller : Option Carried) (s : State) : Option State :=
  if otherMustMove s l own then moveBand (otherLeg l) caller s else none

/-- The band check for an own slot change (R109), made again for each slot that it moves (R110): the changed slot against the slots
with lower keys first; where it stays as it is, the own other leg's slot with the greater key against it (log entry 32). A moved
slot's band is unlike that of every slot it overlaps, so the check made for it finds nothing: two rounds are enough, and
`rounds` bounds them. -/
def checkOwnChange : Nat → LegId → Option Carried → State → State
  | 0, _, _, s => s
  | rounds + 1, l, caller, s =>
    match slotOf s l with
    | none => s
    | some own =>
      if own.aid then
        match moveChanged l own caller s with
        | some s => checkOwnChange rounds l caller s
        | none =>
          match moveOther l own caller s with
          | some s => checkOwnChange rounds (otherLeg l) caller s
          | none => s
      else s

/-- See `checkOwnChange`. -/
def bandRounds : Nat := 3

/-- The band check of one leg against a received frame (R109): for an aid slot and no pending bid, against an acoustic
neighbour's aid slot. A foreign slot that must move is its own station's matter. -/
def checkFrame (l : LegId) (c : Carried) (s : State) : State :=
  match slotOf s l with
  | none => s
  | some own =>
    if (s.slots.get l).bid.isNone && own.aid && c.slot.aid && acoustic s c.position c.radius && callsFor own c.slot &&
        keyLt (foreignKey c.station c.leg c.slot) (ownKey s l own) then
      match moveBand l (some c) s with
      | some s => checkOwnChange bandRounds l (some c) s
      | none => s
    else s

/-! ### Received BID and KEEP (R102, R107, R109) -/

/-- A received frame reaches one leg: deferred while the leg holds a pending bid (R107), otherwise answered (R102). -/
def takeConflict (l : LegId) (c : Carried) (s : State) : State :=
  if (s.slots.get l).bid.isSome then updSlot l (fun r => { r with deferred := r.deferred ++ [.frame c] }) s else react l c s

/-- The Slot Engine takes a received BID or KEEP: each leg reacts by R102, then each makes the band check of R109, "after
R102, where the own slot still exists" (log entry 14). -/
def slotsTake (c : Carried) (s : State) : State :=
  let s := takeConflict .leg1 c (takeConflict .leg0 c s)
  checkFrame .leg1 c (checkFrame .leg0 c s)

/-- A BID as the Slot Engine takes it. -/
def carriedBid (f : BidFrame) : Carried :=
  { station := f.station.toNat, leg := f.leg, position := f.position.toNat, radius := f.radius.toNat, isBid := true
    slot := { startIn := f.startIn.toNat, endIn := f.endIn.toNat, aid := f.aid, band := f.band.toNat, urgent := f.urgent,
              rank := f.rank.toNat, stage := .claimed } }

/-- A KEEP as the Slot Engine takes it. The field check has refused stage 0 (R56). -/
def carriedKeep (f : KeepFrame) : Carried :=
  { station := f.station.toNat, leg := f.leg, position := f.position.toNat, radius := f.radius.toNat, isBid := false
    slot := { startIn := f.startIn.toNat, endIn := f.endIn.toNat, aid := f.aid, band := f.band.toNat, urgent := !f.keyNormal,
              rank := f.rank.toNat, stage := (stageOf f.stage.toNat).getD .claimed } }

/-! ### Aid upgrade (R111, R112) -/

/-- The same-station check (R112): the table of R102 read from both legs on the slots as they stand. -/
def sameStation (l : LegId) (s : State) : State :=
  let o := otherLeg l
  match slotOf s l, slotOf s o with
  | some x, some y =>
    if x.aid && y.aid && collideGuard (conf s).guard x y then
      let mine := answerOf x (ownKey s l x) (decide (y.stage = .claimed)) (ownKey s o y)
      let its := answerOf y (ownKey s o y) (decide (x.stage = .claimed)) (ownKey s l x)
      let s := if mine = .cede then cede l s else s
      let s := if its = .cede then cede o s else s
      setFlagIf (decide (mine = .keepDouble) || decide (its = .keepDouble)) .doubleCommit s
    else s
  | _, _ => s

/-- Steps 1 and 2 of R111: the slot becomes aid, its end_in grows by X, and a band is chosen for the new length. -/
def upgradeSlot (l : LegId) (s : State) : State :=
  let s := onSlot l (fun x => { x with aid := true, endIn := x.endIn + (legConf s l).ext }) s
  match slotOf s l with
  | some x => onSlot l (fun y => { y with band := aidBand s l x.startIn (x.endIn - x.startIn) }) s
  | none => s

/-- Step 3 of R111: the same-station check, or an entry in the other leg's deferred list while its BID is in transmission
(R107). -/
def checkOther (l : LegId) (s : State) : State :=
  if (s.slots.get (otherLeg l)).bid.isSome then
    updSlot (otherLeg l) (fun r => { r with deferred := r.deferred ++ [.upgrade] }) s
  else sameStation l s

/-- The aid upgrade of an announced slot (R111), for a leg whose own slot is plain. -/
def aidUpgrade (l : LegId) (s : State) : State :=
  match slotOf s l with
  | none => s
  | some x =>
    if x.aid then s
    else
      let s := checkOther l (upgradeSlot l s)
      if (slotOf s l).isSome then checkOwnChange bandRounds l none (enqueueLeg l .keep (updSlot l SlotRec.untell s)) else s

/-! ### Placement's result (R92, R94, R97, R98) -/

/-- The own slot of a placement's result, in the given stage. -/
def slotOfBid (b : Bid) (g : Stage) : Slot :=
  { startIn := b.startIn, endIn := b.endIn, aid := b.aid, band := b.band, urgent := b.urgent, rank := b.rank, stage := g }

/-- In ISOLATED a leg in CALLED is placed at once and committed (R79, R94). -/
def placeIsolated (l : LegId) (s : State) : State :=
  match callOf s l with
  | none => s
  | some c =>
    if legState s l = .called then
      let b := place s l c
      let s := updSlot l (fun r => { r with slot := some (slotOfBid b .committed), contest := .stopped, challengers := [] }) s
      takeCommit l (setFlagIf b.urgent .urgent s)
    else s

/-- A leg in CALLED reports itself eligible to the Slot Engine (R5): placed at once in ISOLATED, otherwise a BID request, which the
queue accepts in RUN alone (R51). -/
def reportEligible (l : LegId) (s : State) : State :=
  if s.mode = .isolated then placeIsolated l s else enqueueLeg l .bid s

/-- An aid call's BID request of the leg waits in the queue, so that a further one renews it (R30, R51). -/
def bidWaits (s : State) (l : LegId) : Bool :=
  (s.line.queue.legs.get l).any (fun e => decide (e.kind = .bid) && !e.sending) && (callOf s l).any (fun c => decide (c.kind = .aid))

/-- The leg's request renews one that waited (R95; log entry 35). -/
def markRenewed (l : LegId) (s : State) : State :=
  updQueue (fun q => { q with legs := q.legs.upd l (fun o => o.map (fun e => { e with renews := true })) }) s

/-- A new call or an upgrade in CALLED is reported to the Slot Engine (R29, R30): as by `reportEligible`, the request marked where it
renews one. -/
def requestSlot (l : LegId) (s : State) : State :=
  let t := reportEligible l s
  if acceptsLeg s .bid && bidWaits s l then markRenewed l t else t

/-- A deferred entry is taken against the new claimed slot (R97 step 3, R107). -/
def takeDeferred (l : LegId) (d : Deferred) (s : State) : State :=
  match d with
  | .frame c => react l c s
  | .upgrade => sameStation (otherLeg l) s

/-- The completion of a BID is reported (R92, R97). -/
def bidReported (l : LegId) (s : State) : State :=
  match (s.slots.get l).bid with
  | none => s
  | some b =>
    let deferred := (s.slots.get l).deferred
    let s := updSlot l SlotRec.dropBid s
    if legState s l = .called then
      let s := updSlot l (fun r => { r with slot := some (slotOfBid b .claimed), contest := .load contestTime, challengers := [] }) s
      let s := setFlagIf b.urgent .urgent (updLeg l (fun r => { r with state := .claimed }) s)
      let aidCall := (callOf s l).any (fun c => decide (c.kind = .aid))
      let s := if aidCall then aidUpgrade l s else s
      let s := deferred.foldl (fun s d => takeDeferred l d s) s
      checkOwnChange bandRounds l none s
    else enqueueLeg l .cede s

/-- The contest is won (R98). -/
def contestWon (l : LegId) (s : State) : State :=
  let challenged := !(s.slots.get l).challengers.isEmpty
  let s := updSlot l (fun r => { r with contest := .stopped }) (onSlot l (fun x => { x with stage := .committed }) s)
  let s := if challenged then enqueueLeg l .keep (updSlot l SlotRec.untell s) else s
  takeCommit l s

/-- The walk start report (R99). -/
def walkStartReported (l : LegId) (len : Nat) (s : State) : State :=
  updSlot l SlotRec.untell
    (onSlot l (fun x => { x with stage := .running, startIn := 0, endIn := len + (legConf s l).clear }) s)

/-- Which leg goes first where both are placed at the same instant (R79): the free value; otherwise leg 0. -/
def placementOrder (both : Bool) (s : State) : List LegId :=
  if both then (if Config.leg1First s.choices then [.leg1, .leg0] else [.leg0, .leg1]) else bothLegs

end Sys2Proof.Machine
end

