-- ==== Sys2Proof/Machine/Sound.lean ====
section
/-! DEFINITION. Sound levels (chapter 8) and the Sound Unit (chapter 7). -/

namespace Sys2Proof.Machine

/-! ### Levels (R136 to R138, R123) -/

/-- Quiet active (R136). -/
def quietActive (s : State) : Bool :=
  match s.port.quietMode with
  | .follow => s.quietInput
  | .forceOn => true
  | .forceOff => false

/-- A level under the caps in force: nightcap while quiet is active, isocap while ISOLATED (R137, R138). -/
def capped (s : State) (v : Nat) : Nat :=
  let v := if quietActive s then min v (conf s).nightcap else v
  if s.mode = .isolated then min v (conf s).isocap else v

/-- The ambient in whole dB, or the reference where the average is unset or the kerb is stale (R137 step 1). -/
def ambientDb (s : State) (l : LegId) (k : Side) : Nat :=
  let r := (s.ambient.get l).get k
  match r.average with
  | none => (conf s).ref
  | some a => if r.stale then (conf s).ref else a / 16

/-- The raw level (R137 steps 2 and 3); the division rounds toward minus infinity. -/
def rawLevel (s : State) (l : LegId) (k : Side) : Int :=
  (conf s).base + ((ambientDb s l k : Int) - (conf s).ref) / 3

/-- The kerb level Lk (R137). -/
def kerbLevel (s : State) (l : LegId) (k : Side) : Nat :=
  capped s (max ((conf s).floor : Int) (min ((conf s).ceiling : Int) (rawLevel s l k))).toNat

/-- The combined cap Cap (R138). -/
def combinedCap (s : State) : Nat := capped s (conf s).ceiling

/-- The locator level (R138). -/
def locatorLevel (s : State) (l : LegId) (k : Side) : Nat := max (conf s).floor (kerbLevel s l k - (conf s).locoffset)

/-- The envelope start level (R138). -/
def envelopeStart (s : State) (l : LegId) (k : Side) : Nat := min (combinedCap s) (kerbLevel s l k + (conf s).boost)

/-- The walk level (R123). -/
def walkLevel (s : State) (l : LegId) (k : Side) : Nat :=
  max (kerbLevel s l k) (min ((s.kerbs.get l).get k).envelope (combinedCap s))

/-- The level field of a stop word (R117): floor, or 0 where no configuration is loaded. -/
def stopLevel (s : State) : Nat :=
  match s.cfg with
  | some c => c.floor
  | none => 0

/-! ### The audio link (R116) -/

/-- Eighths of a millisecond in n milliseconds. -/
def ms (n : Nat) : Nat := 8 * n

/-- A word is produced: it follows the words already on or waiting for the link. A word occupies the link for 0.5 ms. -/
def Link.push (w : BurstWord) (k : Link) : Link :=
  { words := k.words ++ [w], left := if k.words.isEmpty then 4 else k.left }

/-- Link time passes: words leave in order, each after its 0.5 ms. -/
def drain : Nat → Nat → List BurstWord → Link
  | _, _, [] => { words := [], left := 0 }
  | t, left, w :: ws => if t < left then { words := w :: ws, left := left - t } else drain (t - left) 4 ws

def sendWord (l : LegId) (w : BurstWord) (s : State) : State := updLink l (Link.push w) s

/-! ### Bursts (R118, R121) -/

/-- The period of a pattern (R118), in eighths of a millisecond. -/
def periodOf : Pattern → Nat
  | .silent => 0
  | .locator => ms 1000
  | .walk => ms 125
  | .clearance => ms 500

/-- The burst length of a pattern (R118), in milliseconds. -/
def burstLength : Pattern → Nat
  | .silent => 0
  | .locator => 40
  | .walk => 30
  | .clearance => 30

/-- The band of a walk or clearance burst (R121): the own slot's, or the kerb's shadow band where the leg holds none. -/
def toneBand (s : State) (l : LegId) (k : Side) : Nat :=
  match slotOf s l with
  | some x => x.band
  | none => ((s.kerbs.get l).get k).shadow

/-- The word of a kerb's burst (R118, R121); none on SILENT. -/
def burstWord (s : State) (l : LegId) (k : Side) : Option BurstWord :=
  match ((s.kerbs.get l).get k).pattern with
  | .silent => none
  | .locator => some { kerb := k, tone := .locator, band := 0, level := locatorLevel s l k, length := burstLength .locator }
  | .walk => some { kerb := k, tone := .band, band := toneBand s l k, level := walkLevel s l k, length := burstLength .walk }
  | .clearance =>
    some { kerb := k, tone := .band, band := toneBand s l k, level := kerbLevel s l k, length := burstLength .clearance }

/-- A word other than a stop word goes out: its band is the kerb's shadow and its length the sounding count (R121, R125), less
the time for which it was due before (log entry 3). -/
def soundWord (l : LegId) (k : Side) (late : Nat) (w : BurstWord) (s : State) : State :=
  sendWord l w (updKerb l k (fun r => { r with shadow := w.band, sounding := ms w.length - late }) s)

/-- A kerb's burst fell due `late` eighths of a millisecond ago (R121): nothing is sent while a beep is in progress (R126). -/
def sendBurst (l : LegId) (k : Side) (late : Nat) (s : State) : State :=
  match burstWord s l k with
  | none => s
  | some w => if ((s.kerbs.get l).get k).beep = .none then soundWord l k late w s else s

/-- A stop word for a kerb, which ends its burst or beep (R120, R127). -/
def stopKerb (l : LegId) (k : Side) (s : State) : State :=
  sendWord l (.stop k (stopLevel s))
    (updKerb l k (fun r => { r with sounding := 0, beep := .none, beepLeft := .stopped }) s)

/-- Step 1 of R120 for one kerb: a stop word where it is sounding or has a beep in progress (R127). -/
def cutKerb (l : LegId) (k : Side) (s : State) : State :=
  let r := (s.kerbs.get l).get k
  if r.sounding ≠ 0 ∨ r.beep ≠ .none then stopKerb l k s else s

/-- A beep in progress is cut at the start of a plain walk (R127). -/
def cutBeep (l : LegId) (k : Side) (s : State) : State :=
  if ((s.kerbs.get l).get k).beep ≠ .none then stopKerb l k s else s

/-- The kerb takes a pattern; WALK starts its envelope (R122), any other stops the step countdown. -/
def takePattern (l : LegId) (p : Pattern) (k : Side) (s : State) : State :=
  updKerb l k (fun r =>
    if p = .walk then { r with pattern := p, envelope := envelopeStart s l k, step := .load (conf s).envStep }
    else { r with pattern := p, step := .stopped }) s

/-- The kerb's burst phase is loaded with n (R120, R121), `late` of which has passed already: "A burst's schedule is kept from the
instant it falls due" (R116). -/
def loadPhase (l : LegId) (k : Side) (n late : Nat) (s : State) : State :=
  updKerb l k (fun r => { r with phase := .load (n - late), late := late - n }) s

/-- A change of a leg's pattern to LOCATOR, WALK or CLEARANCE (R119, R120). The pattern a kerb already has is no
change. -/
def changePattern (l : LegId) (p : Pattern) (s : State) : State :=
  if (s.kerbs.get l).a.pattern = p then s
  else
    let s := cutKerb l .b (cutKerb l .a s)
    let s := takePattern l p .b (takePattern l p .a s)
    let s := loadPhase l .a (periodOf p) 0 (sendBurst l .a 0 s)
    if (conf s).koff = 0 then loadPhase l .b (periodOf p) 0 (sendBurst l .b 0 s)
    else loadPhase l .b ((conf s).koff * (periodOf p / 8)) 0 s

/-! ### Beeps, the envelope and silence -/

/-- The kind of press gives the beep: short for plain, long for aid (R36). -/
def beepOf : Kind → Beep
  | .plain => .short
  | .aid => .long

/-- The length of a beep (R118), in milliseconds. -/
def beepLength : Kind → Nat
  | .plain => 60
  | .aid => 200

/-- A beep trigger (R125): dropped unless the kerb is on LOCATOR. -/
def triggerBeep (l : LegId) (k : Side) (kind : Kind) (s : State) : State :=
  if ((s.kerbs.get l).get k).pattern = .locator then
    updKerb l k (fun r => { r with beep := beepOf kind, beepLeft := .load (ms (beepLength kind)) })
      (soundWord l k 0 { kerb := k, tone := .beep, band := (legConf s l).band, level := kerbLevel s l k, length := beepLength kind } s)
  else s

/-- A kerb on WALK restarts its envelope (R124). -/
def resetEnvelope (l : LegId) (k : Side) (s : State) : State :=
  if ((s.kerbs.get l).get k).pattern = .walk then
    updKerb l k (fun r => { r with envelope := envelopeStart s l k, step := .load (conf s).envStep }) s
  else s

/-- One kerb at FLASH entry (R128): a stop word whether or not it is sounding; shadow and envelope level are kept. -/
def silenceKerb (l : LegId) (k : Side) (s : State) : State :=
  updKerb l k (fun r => { r with pattern := .silent, phase := .stopped, late := 0, step := .stopped }) (stopKerb l k s)

/-- The kerbs of a leg at FLASH entry, kerb A first (R128). -/
def silenceLeg (l : LegId) (s : State) : State := silenceKerb l .b (silenceKerb l .a s)

/-! ### Real time (log entry 3) -/

/-- Real time passes for a kerb: burst phase, sounding and beep countdown fall, each staying at 0 (R115). What passes beyond the
end of a running burst phase is kept as `late`. -/
def elapseKerb (t : Nat) (r : Kerb) : Kerb :=
  { r with
    phase := if r.phase.running then { r.phase with count := r.phase.count - t } else r.phase
    late := if r.phase.running then r.late + (t - r.phase.count) else r.late
    sounding := r.sounding - t
    beepLeft := if r.beepLeft.running then { r.beepLeft with count := r.beepLeft.count - t } else r.beepLeft }

/-- Real time passes for every kerb and both audio links, and toward the next decisecond tick. -/
def elapse (t : Nat) (s : State) : State :=
  { s with
    kerbs := s.kerbs.map (fun p => p.map (elapseKerb t))
    links := s.links.map (fun k => drain t k.left k.words)
    sinceTick := s.sinceTick + t }

/-- A decisecond, in eighths of a millisecond. -/
def decisecond : Nat := ms 100

/-- Real time passes up to the decisecond tick: what is left of the decisecond since the tick before. -/
def elapseToTick (s : State) : State :=
  let s := elapse (decisecond - s.sinceTick) s
  { s with sinceTick := s.sinceTick - decisecond }

end Sys2Proof.Machine
end

