-- ==== Sys2Proof/Machine/Legs.lean ====
section
/-! DEFINITION. The Leg Sequencer: the service cycle, the hold entry path and FLASH (chapter 1). -/

namespace Sys2Proof.Machine

/-- The hold source set is non-empty (R142). -/
def held (s : State) : Bool := s.hold.preempt || s.hold.street || s.hold.maint

/-- The walk conditions of R9: RUN or ISOLATED, and an empty hold source set. -/
def mayWalk (s : State) : Bool := (decide (s.mode = .run) || decide (s.mode = .isolated)) && !held s

/-- ALL_RED_OUT is entered with Rout (R8, R9, R10, R13, R18, R19); the flash countdown is stopped outside START, FLASH and
CLEARANCE and holds its last value (R3). -/
def enterAllRedOut (l : LegId) (s : State) : State :=
  updLeg l (fun r => { r with state := .allRedOut, interval := .load (legConf s l).rout, flash := r.flash.freeze }) s

/-- CLEARANCE is entered (R10): K, or Kp where clearance cut is yes, which is then set to no; the flash phase starts on;
after an aid walk the kerbs take the CLEARANCE pattern. -/
def enterClearance (l : LegId) (s : State) : State :=
  let r := s.legs.get l
  let c := legConf s l
  let s := updLeg l (fun r =>
    { r with state := .clearance, interval := .load (if r.clearanceCut then c.kp else c.clear), clearanceCut := false,
             flashOn := true, flash := .load 5 }) s
  if r.walkAid then changePattern l .clearance s else s

/-- The walk is skipped (R9): ALL_RED_OUT, the slot withdrawn as for a hold, the call kept. -/
def skipWalk (l : LegId) (s : State) : State := withdraw l (enterAllRedOut l s)

/-- The call record is removed and its wait lamps go off (R28); the blink countdown stops (R37). -/
def removeCall (l : LegId) (s : State) : State := updCall l (fun r => { r with call := none, blink := r.blink.freeze }) s

/-- The own slot of the leg is aid at this moment (R9). -/
def slotIsAid (s : State) (l : LegId) : Bool := (slotOf s l).any Slot.aid

/-- The walk starts (R9), in the order given there. Where a plain walk cuts a beep on both kerbs, kerb A's stop word goes first (log
entry 33). -/
def startWalk (l : LegId) (s : State) : State :=
  let c := legConf s l
  let aid := slotIsAid s l
  let len := if aid then c.walk + c.ext else c.walk
  let s := updLeg l (fun r => { r with state := .walk, interval := .load len, walkElapsed := 0, walkLength := len, walkAid := aid }) s
  let s := walkStartReported l len (removeCall l s)
  if aid then changePattern l .walk s else cutBeep l .b (cutBeep l .a s)

/-- ALL_RED_IN expiry (R9). -/
def allRedInDone (l : LegId) (s : State) : State := if mayWalk s then startWalk l s else skipWalk l s

/-- AMBER expiry (R8, R13). -/
def amberDone (l : LegId) (s : State) : State :=
  if (s.legs.get l).walkCancelled then enterAllRedOut l s
  else updLeg l (fun r => { r with state := .allRedIn, interval := .load (legConf s l).rin }) s

/-- CLEARANCE expiry (R10): ALL_RED_OUT, the kerbs to LOCATOR, and the clearance end that removes the own slot. -/
def clearanceDone (l : LegId) (s : State) : State := removeSlot l (changePattern l .locator (enterAllRedOut l s))

/-- The green state that R11 chooses. -/
def greenState (s : State) (l : LegId) : LegState :=
  if held s then .held else if (callOf s l).isSome then .called else .rest

/-- ALL_RED_OUT expiry (R11): walk cancelled to no, min green loaded with Gmin, and a leg that enters CALLED reports itself
eligible (R5). -/
def allRedOutDone (l : LegId) (s : State) : State :=
  let g := greenState s l
  let s := updLeg l (fun r =>
    { r with state := g, interval := .stopped, walkCancelled := false, minGreen := .load (legConf s l).gmin }) s
  if g = .called then reportEligible l s else s

/-! ### The hold entry path (R12 to R16) -/

/-- The remaining walk under a hold (R14): up to Wmin. -/
def remainingWalk (s : State) (l : LegId) : Nat := (legConf s l).wmin - (s.legs.get l).walkElapsed

/-- A hold reaches a leg in WALK (R14). -/
def holdInWalk (l : LegId) (s : State) : State :=
  let c := legConf s l
  let rest := remainingWalk s l
  let shorter := decide (rest < (s.legs.get l).interval.count) || decide (c.kp < c.clear)
  let s := updLeg l (fun r => { r with clearanceCut := true }) s
  let s :=
    if rest = 0 then enterClearance l s
    else updLeg l (fun r => { r with interval := .load rest, walkLength := c.wmin }) s
  onSlot l (fun x => { x with endIn := rest + c.kp }) (setFlagIf shorter .truncated s)

/-- A hold reaches a leg in CLEARANCE (R15). -/
def holdInClearance (l : LegId) (s : State) : State :=
  let c := legConf s l
  if c.kp < (s.legs.get l).interval.count then
    onSlot l (fun x => { x with endIn := c.kp }) (setFlag .truncated (updLeg l (fun r => { r with interval := .load c.kp }) s))
  else s

/-- A leg takes the report of a new hold (R12 to R15). -/
def holdLeg (l : LegId) (s : State) : State :=
  match legState s l with
  | .rest | .called => updLeg l (fun r => { r with state := .held }) s
  | .claimed | .committed => withdraw l (updLeg l (fun r => { r with state := .held }) s)
  | .amber => withdraw l (updLeg l (fun r => { r with walkCancelled := true }) s)
  | .allRedIn => withdraw l (enterAllRedOut l s)
  | .walk => holdInWalk l s
  | .clearance => holdInClearance l s
  | .allRedOut | .held | .start | .flash => s

/-- A leg takes the report of the end of a hold (R16). -/
def unholdLeg (l : LegId) (s : State) : State :=
  if legState s l = .held then
    if (callOf s l).isSome then reportEligible l (updLeg l (fun r => { r with state := .called }) s)
    else updLeg l (fun r => { r with state := .rest }) s
  else s

/-- A leg that leaves HELD for CALLED at the end of a hold. -/
def returnsCalled (s : State) (l : LegId) : Bool := inUse s l && decide (legState s l = .held) && (callOf s l).isSome

/-! ### FLASH and START (R18, R19) -/

/-- A leg enters FLASH (R18). -/
def flashLeg (l : LegId) (s : State) : State :=
  updLeg l (fun r =>
    { r with state := .flash, flashOn := true, flash := .load 5, interval := .stopped, minGreen := .stopped, walkElapsed := 0,
             walkCancelled := false, clearanceCut := false }) s

/-- A leg leaves FLASH or START for ALL_RED_OUT (R18, R19) and its kerbs take LOCATOR (R119). -/
def releaseLeg (l : LegId) (s : State) : State := changePattern l .locator (enterAllRedOut l s)

end Sys2Proof.Machine
end

