-- ==== Sys2Proof/Machine/Calls.lean ====
section
/-! DEFINITION. The Button Front End and the Call List (chapter 2). -/

namespace Sys2Proof.Machine

/-- The outcome the Call List gives for a press (R179). -/
inductive PressOutcome where
  | latched | upgraded | unchanged | envelope | ignored
  deriving DecidableEq, Repr

/-- A call is latched (R26): waited 0; an aid call blinks from its on phase (R37). -/
def latch (l : LegId) (k : Side) (kind : Kind) (s : State) : State :=
  updCall l (fun r =>
    { call := some { kind := kind, waited := 0, firstKerb := k }
      blinkOn := if kind = .aid then true else r.blinkOn
      blink := if kind = .aid then .load 3 else r.blink }) s

/-- A call becomes aid (R26): waited and first kerb stay; it blinks from its on phase (R37). -/
def upgradeCall (l : LegId) (s : State) : State :=
  updCall l (fun r => { call := r.call.map (fun c => { c with kind := .aid }), blinkOn := true, blink := .load 3 }) s

/-- Whether an aid press would change the leg's call (R30 to R33). -/
def wouldUpgrade (s : State) (l : LegId) (kind : Kind) : Bool :=
  decide (kind = .aid) && (callOf s l).any (fun c => decide (c.kind = .plain))

/-- A press on a leg in REST (R29). -/
def pressInRest (l : LegId) (k : Side) (kind : Kind) (s : State) : State × PressOutcome :=
  let s := updLeg l (fun r => { r with state := .called }) (latch l k kind s)
  (triggerBeep l k kind (requestSlot l s), .latched)

/-- A press on a leg in CALLED (R30). -/
def pressInCalled (l : LegId) (k : Side) (kind : Kind) (s : State) : State × PressOutcome :=
  if wouldUpgrade s l kind then (triggerBeep l k kind (requestSlot l (upgradeCall l s)), .upgraded)
  else (triggerBeep l k kind s, .unchanged)

/-- A press on a leg in CLAIMED, COMMITTED, AMBER or ALL_RED_IN (R31). -/
def pressInService (l : LegId) (k : Side) (kind : Kind) (s : State) : State × PressOutcome :=
  if wouldUpgrade s l kind then (triggerBeep l k kind (aidUpgrade l (upgradeCall l s)), .upgraded)
  else (triggerBeep l k kind s, .unchanged)

/-- A press on a leg in WALK (R32). -/
def pressInWalk (l : LegId) (k : Side) (kind : Kind) (s : State) : State × PressOutcome :=
  match kind with
  | .plain => (s, .ignored)
  | .aid =>
    if (s.legs.get l).walkAid then (resetEnvelope l .b (resetEnvelope l .a s), .envelope)
    else if (callOf s l).isSome then (s, .unchanged)
    else (latch l k .aid s, .latched)

/-- A press on a leg in CLEARANCE, ALL_RED_OUT or HELD (R33). The beep is given unless the kerb of the press is playing a
tone, which a beep trigger looks at itself (R125). -/
def pressInLater (l : LegId) (k : Side) (kind : Kind) (s : State) : State × PressOutcome :=
  if (callOf s l).isNone then (triggerBeep l k kind (latch l k kind s), .latched)
  else if wouldUpgrade s l kind then (triggerBeep l k kind (upgradeCall l s), .upgraded)
  else (triggerBeep l k kind s, .unchanged)

/-- The Call List takes a classified press (R29 to R34). -/
def takePress (l : LegId) (k : Side) (kind : Kind) (s : State) : State × PressOutcome :=
  match legState s l with
  | .rest => pressInRest l k kind s
  | .called => pressInCalled l k kind s
  | .claimed | .committed | .amber | .allRedIn => pressInService l k kind s
  | .walk => pressInWalk l k kind s
  | .clearance | .allRedOut | .held => pressInLater l k kind s
  | .start | .flash => (s, .ignored)

/-- A classified press handed to the Call List. -/
def press (l : LegId) (k : Side) (kind : Kind) (s : State) : State := (takePress l k kind s).1

/-! ### The Button Front End (R21 to R25) -/

def buttonOf (s : State) (l : LegId) (k : Side) : Button := (s.buttons.get l).get k

/-- The press is classified aid (R24). -/
def classifyAid (l : LegId) (k : Side) (s : State) : State :=
  press l k .aid (updButton l k (fun b => { b with classified := true }) s)

/-- A held, unclassified press whose held time has reached Ta (R24). -/
def aidReached (s : State) (l : LegId) (k : Side) : Bool :=
  let b := buttonOf s l k
  served s l && decide (b.input = .held) && !b.classified && decide ((conf s).aidHold ≤ b.heldTime)

/-- A held input whose held time has reached 600 ds (R25). -/
def stuckReached (s : State) (l : LegId) (k : Side) : Bool :=
  let b := buttonOf s l k
  served s l && decide (b.input = .held) && decide (600 ≤ b.heldTime)

/-- The input is marked stuck (R25). -/
def markStuck (l : LegId) (k : Side) (s : State) : State := setFlag .stuck (updButton l k (fun b => { b with input := .stuck }) s)

/-- A press is declared (R22). -/
def declarePress (l : LegId) (k : Side) (s : State) : State :=
  updButton l k (fun _ => { input := .held, pressCount := 0, releaseCount := 0, heldTime := 0, classified := false }) s

/-- A release is declared (R23). The step of held time at the same instant is taken first (R24, R25): a press whose held
time has reached Ta is classified aid, and one that has reached 600 ds is marked stuck, before the release. -/
def declareRelease (l : LegId) (k : Side) (s : State) : State :=
  let s := if aidReached s l k then classifyAid l k s else s
  let s := if stuckReached s l k then markStuck l k s else s
  let b := buttonOf s l k
  let plain := decide (b.input = .held) && !b.classified
  let s := updButton l k (fun _ => Button.atStart) s
  if plain then press l k .plain s else s

/-- One sample of an active input (R22, R23). -/
def sampleButton (l : LegId) (k : Side) (high : Bool) (s : State) : State :=
  let b := buttonOf s l k
  match b.input with
  | .released =>
    if high then
      if 3 ≤ b.pressCount then declarePress l k s else updButton l k (fun b => { b with pressCount := b.pressCount + 1 }) s
    else updButton l k (fun b => { b with pressCount := 0 }) s
  | .held | .stuck =>
    if high then updButton l k (fun b => { b with releaseCount := 0 }) s
    else if 3 ≤ b.releaseCount then declareRelease l k s
    else updButton l k (fun b => { b with releaseCount := b.releaseCount + 1 }) s

end Sys2Proof.Machine
end

