-- ==== Sys2Proof/Machine/Lamps.lean ====
section
/-! DEFINITION. The lamp commands (R2, R3), the wait lamps (R37), the Lamp Monitor's comparison (R167, R169) and what is
settled at the end of every event. -/

namespace Sys2Proof.Machine

/-- The table of R2, "flash" being the phase of R3. -/
def lampOfState (r : LegRec) (i : LampId) : Bool :=
  match r.state with
  | .start | .flash =>
    match i with
    | .amber => r.flashOn
    | _ => false
  | .rest | .called | .claimed | .committed | .held => decide (i = .green) || decide (i = .dontWalk)
  | .amber => decide (i = .amber) || decide (i = .dontWalk)
  | .allRedIn | .allRedOut => decide (i = .red) || decide (i = .dontWalk)
  | .walk => decide (i = .red) || decide (i = .walk)
  | .clearance =>
    match i with
    | .red => true
    | .dontWalk => r.flashOn
    | _ => false

/-- The command of a signal lamp: that of R2, or off on leg 1 of a one-leg station (R20). -/
def lampOn (s : State) (l : LegId) (i : LampId) : Bool := inUse s l && lampOfState (s.legs.get l) i

/-- Both wait lamps of a leg (R37). -/
def waitLampOn (s : State) (l : LegId) : Bool :=
  if s.mode = .start ∨ s.mode = .flash then false
  else
    match callOf s l with
    | none => false
    | some c =>
      match c.kind with
      | .plain => true
      | .aid => (s.calls.get l).blinkOn

/-- The comparison of R167 for one lamp with its command. -/
def proveLamp (on : Bool) (r : LampRec) : LampRec :=
  if r.readback = on then { r with mismatch := .stopped, failed := false }
  else if r.failed || r.mismatch.running then r
  else { r with mismatch := .load 3 }

/-- The comparison of R167 for the five lamps of a leg. -/
def proveLeg (s : State) (l : LegId) : Lamps LampRec :=
  let p := s.lamps.get l
  { red := proveLamp (lampOn s l .red) p.red
    amber := proveLamp (lampOn s l .amber) p.amber
    green := proveLamp (lampOn s l .green) p.green
    walk := proveLamp (lampOn s l .walk) p.walk
    dontWalk := proveLamp (lampOn s l .dontWalk) p.dontWalk }

/-- "The Lamp Monitor compares from the end of START [...] until the next START or RESTART" (R167). Comparing again a lamp
neither of whose sides has changed changes nothing, so every event may compare all ten (log entry 23). -/
def proveLamps (s : State) : State :=
  if s.mode = .start then s else { s with lamps := { leg0 := proveLeg s .leg0, leg1 := proveLeg s .leg1 } }

/-- A lamp mismatch (R167): "a lamp whose readback differs from its command [...] whether or not its countdown has
expired". -/
def mismatched (s : State) (l : LegId) (i : LampId) : Bool := (((s.lamps.get l).get i).readback != lampOn s l i)

/-- Some lamp is mismatched (R166). -/
def anyMismatch (s : State) : Bool := bothLegs.any (fun l => allLamps.any (fun i => mismatched s l i))

/-- A conflict on a leg (R169): vehicle green and walk readback both on. -/
def conflictSensed (p : Lamps LampRec) : Bool := p.green.readback && p.walk.readback

/-- The test of R146: every leg in use is in HELD, or the station mode is FLASH. -/
def holdAnswered (s : State) : Bool :=
  decide (s.mode = .flash) || bothLegs.all (fun l => !inUse s l || decide (legState s l = .held))

/-- R146: while the hold side is waiting, PHA rises as soon as the test passes. -/
def testHoldSide (s : State) : State :=
  if s.hold.side = .waiting ∧ holdAnswered s = true then updHold (fun h => { h with side := .acknowledged, pha := true }) s else s

/-- What every event settles last: the hold side against the legs (R146), and the lamps against their commands (R167). -/
def settle (s : State) : State := proveLamps (testHoldSide s)

/-- An event taken by the part: nothing while the RESET pin is held (R157); otherwise its effect at a new instant (log
entry 5), and what every event settles. -/
def event (f : State → State) (s : State) : State :=
  if s.resetHeld then s else settle (f { s with clock := s.clock + 1 })

/-- The expiry of a decisecond count, at the instant of the tick that brought it about (log entries 2 and 5): nothing
where it is not due (log entry 1). -/
def expiry (due : Bool) (f : State → State) (s : State) : State :=
  if !s.resetHeld && due then settle (f s) else s

end Sys2Proof.Machine
end

