-- ==== Sys2Proof/Machine/Events.lean ====
section
/-! DEFINITION. How a command is taken as an event of the part, and the outcome of a command. -/

namespace Sys2Proof.Machine

/-- What a command answers: the part always goes on. -/
abbrev Outcome := Host.Outcome State Fault Refusal

/-- An event that can happen only under a condition; where it does not hold the command changes nothing (log entry 1). -/
def eventIf (can : Bool) (f : State → State) (s : State) : State := if can then event f s else s

/-- A change of an input pin. The level is the pin's own; its event is taken unless the RESET pin is held, while which every
block "takes no event" (R157; log entry 7). -/
def pinChange (level : State → State) (f : State → State) (s : State) : State :=
  if s.resetHeld then level s else event f (level s)

end Sys2Proof.Machine
end

