-- ==== Sys2Proof/Machine/ButtonEvents.lean ====
section
/-! DEFINITION. Commands: the button inputs, sampled and classified (chapter 2). -/

namespace Sys2Proof.Machine

/-- The sample that would declare a press is next (R22). -/
def pressReady (s : State) (l : LegId) (k : Side) : Bool :=
  served s l && decide ((buttonOf s l k).input = .released) && decide ((buttonOf s l k).pressCount = 3)

/-- The sample that would declare a release is next (R23). -/
def releaseReady (s : State) (l : LegId) (k : Side) : Bool :=
  served s l && !decide ((buttonOf s l k).input = .released) && decide ((buttonOf s l k).releaseCount = 3)

/-- PRESS_DECLARED (R22): the fourth consecutive high sample. -/
def execPressDeclared (l : LegId) (k : Side) (s : State) : Outcome := .next (eventIf (pressReady s l k) (declarePress l k) s)

/-- RELEASE_DECLARED (R23): the fourth consecutive low sample. -/
def execReleaseDeclared (l : LegId) (k : Side) (s : State) : Outcome := .next (eventIf (releaseReady s l k) (declareRelease l k) s)

/-- AID_CLASSIFICATION (R24): held time has reached Ta. -/
def execAidClassification (l : LegId) (k : Side) (s : State) : Outcome := .next (expiry (aidReached s l k) (classifyAid l k) s)

/-- STUCK (R25): held time has reached 600 ds. -/
def execStuck (l : LegId) (k : Side) (s : State) : Outcome := .next (expiry (stuckReached s l k) (markStuck l k) s)

/-- BUTTON_SAMPLE (R22, R23): a sample of an active input; other inputs are not sampled (R21). The fourth consecutive one
declares, as PRESS_DECLARED and RELEASE_DECLARED do (log entry 24). -/
def execButtonSample (l : LegId) (k : Side) (high : Bool) (s : State) : Outcome :=
  .next (eventIf (served s l) (sampleButton l k high) s)

end Sys2Proof.Machine
end

