-- ==== Sys2Proof/Machine/Hold.lean ====
section
/-! DEFINITION. The Hold Unit (chapter 9). -/

namespace Sys2Proof.Machine

/-- Each leg in use takes the report of a new hold (R143). -/
def reportHold (s : State) : State := forLegs bothLegs holdLeg s

/-- Each leg in use takes the report of the end of a hold (R143). Where both are placed by it in ISOLATED, which goes first
is free (R79). -/
def reportHoldEnded (s : State) : State :=
  let both := decide (s.mode = .isolated) && returnsCalled s .leg0 && returnsCalled s .leg1
  let order := placementOrder both s
  forLegs order unholdLeg (if both then { s with choices := s.choices + 1 } else s)

/-- Change the source set and report what R143 reports: empty to non-empty, or non-empty to empty. -/
def changeSources (f : Hold → Hold) (s : State) : State :=
  let t := updHold f s
  if !held s && held t then reportHold t
  else if held s && !held t then reportHoldEnded t
  else t

/-- CLEARWAY frames may be sent (R149): PREEMPT present, a range above 0, LISTEN, RUN or FLASH, a valid configuration. -/
def sendsClearway (s : State) : Bool := s.hold.preempt && decide (0 < (conf s).clearwayRange) && acceptsAny s

/-- The clearway sending starts (R149): a CLEARWAY is queued and the repeat countdown loaded with 20 ds. -/
def startClearway (s : State) : State :=
  if sendsClearway s then updHold (fun h => { h with clearway := .load 20 }) (enqueueClear .clearway s) else s

/-- The clearway sending ends (R150): the repeat countdown stops, and one CLEAR_END is queued where the range is above 0. -/
def endClearway (s : State) : State :=
  let s := updHold (fun h => { h with clearway := .stopped }) s
  if 0 < (conf s).clearwayRange then enqueueClear .clearEnd s else s

/-- A hold request (R145). What R146 answers is settled at the end of the event. -/
def holdRequested (s : State) : State :=
  let added := !s.hold.preempt
  let s := changeSources (fun h => { h with preempt := true }) s
  let s := updHold (fun h => { h with side := .waiting }) s
  if added then startClearway s else s

/-- A release request is taken (R147, R148). -/
def releaseTaken (s : State) : State :=
  let removed := s.hold.preempt
  let s := changeSources (fun h => { h with preempt := false }) s
  let s := if removed then endClearway s else s
  updHold (fun h => { h with pra := true, release := .acknowledged }) s

/-- A fall of PHQ (R146), which also takes a deferred release (R148). -/
def holdLowered (s : State) : State :=
  let s := updHold (fun h => { h with side := .idle, pha := false }) s
  if s.hold.release = .deferred then releaseTaken s else s

/-- A rise of PRQ (R147, R148). -/
def releaseRaised (s : State) : State :=
  if s.phq then updHold (fun h => { h with release := .deferred }) s else releaseTaken s

/-- A fall of PRQ (R147, R148). -/
def releaseLowered (s : State) : State := updHold (fun h => { h with release := .idle, pra := false }) s

/-- Put a holder in its place, by rising station number. -/
def putHolder (h : Holder) : List Holder → List Holder
  | [] => [h]
  | d :: ds =>
    if h.station < d.station then h :: d :: ds
    else if h.station = d.station then h :: ds
    else d :: putHolder h ds

/-- Change the holders set; STREET is present exactly while it is non-empty (R153). -/
def changeHolders (f : List Holder → List Holder) (s : State) : State :=
  changeSources (fun h => { h with holders := f h.holders, street := !(f h.holders).isEmpty }) s

def dropHolder (st : Nat) (hs : List Holder) : List Holder := hs.filter (fun h => !decide (h.station = st))

/-- The Hold Unit takes a CLEARWAY (R151). -/
def holdTakesClearway (f : ClearwayFrame) (s : State) : State :=
  if distance f.position.toNat (conf s).position ≤ f.range.toNat then
    changeHolders (putHolder { station := f.station.toNat, left := 60 }) s
  else changeHolders (dropHolder f.station.toNat) s

/-- The Hold Unit takes a CLEAR_END (R152): no range check. -/
def holdTakesClearEnd (f : ClearwayFrame) (s : State) : State := changeHolders (dropHolder f.station.toNat) s

end Sys2Proof.Machine
end

