-- ==== Sys2Proof/Machine/Modes.lean ====
section
/-! DEFINITION. The Mode Controller's entries and reports (chapter 10). -/

namespace Sys2Proof.Machine

/-- The cause that an isolation gives. -/
def causeOf : Isolation → Cause
  | .line => .line
  | .duplicate => .duplicate
  | .command => .command

/-- The isolation that a cause of ISOLATED names. -/
def isolationOf : Cause → Option Isolation
  | .line => some .line
  | .duplicate => some .duplicate
  | .command => some .command
  | _ => none

/-- The beacon countdown loaded with 10 ds and a BEACON queued (R52, R161, R164). -/
def startBeacon (s : State) : State :=
  updLine (fun n => { n with beacon := .load 10 }) (enqueueBeacon s)

/-- LISTEN is entered from START or ISOLATED (R161, R149). -/
def enterListen (s : State) : State :=
  startClearway (startBeacon { s with mode := .listen, cause := .none, join := .load 30 })

/-- A leg at the entry into ISOLATED (R100): in CALLED it is placed at once; in CLAIMED it is committed with no KEEP. -/
def isolateLeg (l : LegId) (s : State) : State :=
  if legState s l = .called then placeIsolated l s
  else if legState s l = .claimed then
    takeCommit l (updSlot l (fun r => { r with contest := .stopped }) (onSlot l (fun x => { x with stage := .committed }) s))
  else s

/-- ISOLATED is entered (R162): the own frame stops, the queue and the table are emptied, the legs go on without the
line. -/
def enterIsolated (i : Isolation) (s : State) : State :=
  let s := setFlag .isolated { s with mode := .isolated, cause := causeOf i, join := .stopped }
  let s := discardReception (stopOwnFrame s)
  let s := updLine (fun n => { n with queue := .empty, collisions := 0, beacon := .stopped }) s
  let s := emptyTable s
  let s := { s with slots := s.slots.map (fun r => { r with challengers := [] }) }
  let s := updHold (fun h => { h with clearway := .stopped }) s
  let both := decide (legState s .leg0 = .called) && decide (legState s .leg1 = .called)
  let order := placementOrder both s
  forLegs order isolateLeg (if both then { s with choices := s.choices + 1 } else s)

/-- The Slot Engine at FLASH entry (R114): slots, contests and challengers go, deferred lists are dropped; a pending bid
stays with its frame until its completion (R92). -/
def SlotRec.flash (r : SlotRec) : SlotRec := { r.removeSlot with deferred := [] }

/-- What every FLASH entry does to the legs, calls, slots and kerbs (R18, R114, R128). -/
def flashBlocks (s : State) : State :=
  let s := forLegs bothLegs flashLeg s
  let s := removeCall .leg1 (removeCall .leg0 s)
  let s := { s with slots := s.slots.map SlotRec.flash }
  forLegs bothLegs silenceLeg s

/-- FLASH is entered from LISTEN, RUN or ISOLATED (R164). -/
def enterFlash (c : Cause) (s : State) : State :=
  let fromIsolated := decide (s.mode = .isolated)
  let isolation := if fromIsolated then isolationOf s.cause else none
  let s := { s with mode := .flash, cause := c, isolation := isolation, join := .stopped }
  let s := startBeacon (flashBlocks s)
  if fromIsolated then startClearway s else s

/-- FLASH is entered on a lamp report or a FLASH command: from LISTEN, RUN or ISOLATED alone (R164). -/
def flashFrom (c : Cause) (s : State) : State := if s.mode = .start ∨ s.mode = .flash then s else enterFlash c s

/-- A line fault, duplicate or ISOL report (R162, R163, R165). -/
def reportIsolation (i : Isolation) (s : State) : State :=
  match s.mode with
  | .listen | .run => enterIsolated i s
  | .isolated => if i = .command ∧ s.cause = .line then { s with cause := .command } else s
  | .flash =>
    match s.isolation, i with
    | none, _ => { s with isolation := some i }
    | some .line, _ => { s with isolation := some i }
    | some _, _ => s
  | .start => s

/-- A duplicate station number is found (R44, R57). -/
def duplicateFound (s : State) : State := reportIsolation .duplicate (setFlag .duplicate s)

/-- The line is held dominant for 1 ms (R41): only while the line watch runs and is normal. -/
def takeLineFault (s : State) : State :=
  if s.cfg.isSome ∧ s.line.faulted = false then
    let s := updLine (fun n => { n with faulted := true }) (setFlag .lineFault s)
    reportIsolation .line (discardReception (stopOwnFrame s))
  else s

/-- The line clear (R41, R163, R165). -/
def takeLineClear (s : State) : State :=
  if s.line.faulted then
    let s := updLine (fun n => { n with faulted := false, monitor := .idle }) s
    if s.mode = .isolated ∧ s.cause = .line then enterListen s
    else if s.mode = .flash ∧ s.isolation = some .line then { s with isolation := none }
    else s
  else s

/-- The JOIN command at the Mode Controller (R163, R165). -/
def takeJoin (s : State) : State :=
  match s.mode with
  | .isolated => if s.line.faulted then { s with cause := .line } else enterListen s
  | .flash =>
    if s.line.faulted then { s with isolation := some .line }
    else
      match s.isolation with
      | some .line => s
      | _ => { s with isolation := none }
  | _ => s

/-- RESUME accepted (R166): RUN, and on to ISOLATED where an isolation is pending. -/
def takeResume (s : State) : State :=
  let s := forLegs bothLegs releaseLeg { s with mode := .run, cause := .none }
  match s.isolation with
  | none => s
  | some i => enterIsolated i { s with isolation := none }

/-- The join countdown expires (R161): RUN, and a BID request for each leg in CALLED. -/
def joinDone (s : State) : State :=
  let s := { s with mode := .run, join := .stopped }
  forLegs bothLegs (fun l s => if legState s l = .called then enqueueLeg l .bid s else s) s

/-! ### START (R157, R170) -/

/-- Every block at its START values, the inputs as they read (PHQ and PRQ by R142, QUIET by R136): what START and RESTART have
in common (R170). The event flags, line counters, reply buffer and strap value are left to the caller. -/
def startBlocks (s : State) : State :=
  { s with
    reading := true
    mode := .start
    cause := .none
    faultCheck := .none
    isolation := none
    join := .stopped
    cfg := none
    legs := { leg0 := .atStart, leg1 := .atStart }
    buttons := { leg0 := { a := .atStart, b := .atStart }, leg1 := { a := .atStart, b := .atStart } }
    calls := { leg0 := .atStart, leg1 := .atStart }
    slots := { leg0 := .atStart, leg1 := .atStart }
    table := []
    heard := []
    line := { s.line with
      queue := .empty, tx := none, monitor := if s.line.monitor = .receiving then .waiting else s.line.monitor, faulted := false,
      beacon := .stopped, collisions := 0 }
    hold := .atStart s.phq s.prq
    kerbs := { leg0 := { a := .atStart, b := .atStart }, leg1 := { a := .atStart, b := .atStart } }
    ambient := { leg0 := { a := .atStart, b := .atStart }, leg1 := { a := .atStart, b := .atStart } }
    lamps := s.lamps.map (fun p =>
      { red := { p.red with mismatch := .stopped, failed := false }
        amber := { p.amber with mismatch := .stopped, failed := false }
        green := { p.green with mismatch := .stopped, failed := false }
        walk := { p.walk with mismatch := .stopped, failed := false }
        dontWalk := { p.dontWalk with mismatch := .stopped, failed := false } })
    port := { s.port with quietMode := .follow }
    quietInput := s.quietPin }

/-- The stop words of R129: to each of the four kerbs, kerb A before kerb B on each link. -/
def stopWords (s : State) : State :=
  bothLegs.foldl (fun s l => sendWord l (.stop .b (stopLevel s)) (sendWord l (.stop .a (stopLevel s)) s)) s

/-- The blocks' part of START by power-on or the RESET pin (R170, R59, R172, R184): the flags and line counters are
cleared and the reply buffer is emptied as well. -/
def coldStart (s : State) : State :=
  let s := startBlocks s
  { s with
    line := { s.line with arbLoss := 0, collision := 0, crcErr := 0, formatErr := 0 }
    port := { s.port with reply := none, flags := 0 }
    links := { leg0 := { words := [], left := 0 }, leg1 := { words := [], left := 0 } } }

/-! ### The configuration load (R160) -/

/-- A kerb begins to be tracked (R132). -/
def track (l : LegId) (s : State) : State :=
  updAmbient l .b (fun r => { r with staleness := .load 20 }) (updAmbient l .a (fun r => { r with staleness := .load 20 }) s)

/-- Each leg is checked for a conflict as if every readback had changed (R169). -/
def conflictAtStart (s : State) : State :=
  if conflictSensed s.lamps.leg0 || conflictSensed s.lamps.leg1 then flashFrom .conflict (setFlag .conflict s) else s

/-- The configuration is loaded (R160). Leg 1 of a one-leg station stays in START with its flash countdown stopped
(R20). -/
def configLoaded (bytes : List Byte) (s : State) : State :=
  let s := setFlagIf (imageClamped bytes) .cfgClamped { s with reading := false, cfg := some (loadImage bytes) }
  let s := enterListen s
  let s := forLegs bothLegs (fun l s => track l (releaseLeg l s)) s
  let s := if inUse s .leg1 then s else updLeg .leg1 (fun r => { r with flash := r.flash.freeze }) s
  conflictAtStart s

/-- A configuration fault (R160): FLASH with cause CONFIG, both legs taken as in use. The beacon countdown stays stopped (log entry
30). -/
def configFault (c : FaultCheck) (s : State) : State :=
  let s := setFlag .cfgFault { s with reading := false, faultCheck := c, mode := .flash, cause := .config, isolation := none }
  conflictAtStart (flashBlocks s)

/-- The configuration read ends (R158, R160). -/
def configRead (bytes : List Byte) (s : State) : State :=
  match imageFault bytes with
  | .none => configLoaded bytes s
  | c => configFault c s

end Sys2Proof.Machine
end

