-- ==== Sys2Proof/Machine/Line.lean ====
section
/-! DEFINITION. The Line Controller: building and sending own frames, the bit monitor, and taking received frames
(chapter 3). -/

namespace Sys2Proof.Machine

/-! ### The content of own frames (R46 to R49) -/

/-- The leg block of a BEACON (R46): the slot's values, or all six as 0 where the leg holds none. -/
def blockOf (s : State) (l : LegId) : LegBlock :=
  let phase := BitVec.ofNat 4 (phaseCode (legState s l))
  match slotOf s l with
  | none => { phase := phase, stage := 0, startIn := 0, endIn := 0, aid := false, band := 0, keyNormal := false, rank := 0 }
  | some x =>
    { phase := phase, stage := BitVec.ofNat 2 (stageCode x.stage), startIn := BitVec.ofNat 12 x.startIn,
      endIn := BitVec.ofNat 12 x.endIn, aid := x.aid, band := BitVec.ofNat 3 x.band, keyNormal := !x.urgent,
      rank := BitVec.ofNat 5 x.rank }

def ownStation (s : State) : BitVec 4 := BitVec.ofNat 4 (conf s).station

def ownPosition (s : State) : BitVec 11 := BitVec.ofNat 11 (conf s).position

def ownRadius (s : State) : BitVec 8 := BitVec.ofNat 8 (conf s).radius

/-- A BEACON as built now (R46): one leg block for each leg in use. -/
def buildBeacon (s : State) : Frame :=
  .beacon { station := ownStation s, position := ownPosition s, radius := ownRadius s, block0 := blockOf s .leg0,
            block1 := if inUse s .leg1 then some (blockOf s .leg1) else none }

/-- A BID of a placement's result (R47, R88, R91). -/
def buildBid (s : State) (l : LegId) (b : Bid) : Frame :=
  .bid { station := ownStation s, leg := l, urgent := b.urgent, rank := BitVec.ofNat 5 b.rank, position := ownPosition s,
         radius := ownRadius s, startIn := BitVec.ofNat 12 b.startIn, endIn := BitVec.ofNat 12 b.endIn, aid := b.aid,
         band := BitVec.ofNat 3 b.band }

/-- A KEEP of the own slot as it is (R48). -/
def buildKeep (s : State) (l : LegId) (x : Slot) : Frame :=
  .keep { station := ownStation s, leg := l, position := ownPosition s, radius := ownRadius s,
          stage := BitVec.ofNat 2 (stageCode x.stage), startIn := BitVec.ofNat 12 x.startIn, endIn := BitVec.ofNat 12 x.endIn,
          aid := x.aid, band := BitVec.ofNat 3 x.band, keyNormal := !x.urgent, rank := BitVec.ofNat 5 x.rank }

/-- The fields of an own CLEARWAY or CLEAR_END (R49). -/
def ownClearway (s : State) : ClearwayFrame :=
  { station := ownStation s, position := ownPosition s, range := BitVec.ofNat 11 (conf s).clearwayRange }

/-! ### The head of the queue (R50, R53) -/

/-- A request, by its place in the queue. -/
inductive Head where
  | leg (l : LegId) (k : LegReq)
  | beacon
  | clear (k : ClearReq)
  deriving DecidableEq, Repr

/-- The queue class (R50): the header class, or for a BID request 1 while the leg's call has waited at least M and 4
otherwise, read now. -/
def queueClass (s : State) : Head → Nat
  | .clear _ => 0
  | .leg _ .keep => 2
  | .leg _ .cede => 3
  | .leg l .bid => if (callOf s l).any (fun c => decide ((legConf s l).maxWait ≤ c.waited)) then 1 else 4
  | .beacon => 5

/-- The requests present with their times of queueing, leg 0's before leg 1's. -/
def requests (q : Queue) : List (Head × Nat) :=
  (q.clear.map (fun e => (Head.clear e.kind, e.stamp))).toList ++
    ((q.legs.leg0.map (fun e => (Head.leg .leg0 e.kind, e.stamp))).toList ++
      ((q.legs.leg1.map (fun e => (Head.leg .leg1 e.kind, e.stamp))).toList ++
        (q.beacon.map (fun e => (Head.beacon, e.stamp))).toList))

/-- The first request comes before the second: queue class, then time of queueing, oldest first (R50). -/
def comesBefore (s : State) (a b : Head × Nat) : Bool :=
  if queueClass s a.1 ≠ queueClass s b.1 then decide (queueClass s a.1 < queueClass s b.1) else decide (a.2 < b.2)

/-- The head: "the first entry in that order"; among equal class and time the entry for leg 0 (R50). -/
def headOf (s : State) : Option Head :=
  ((requests s.line.queue).foldl (fun best r =>
    match best with
    | none => some r
    | some b => if comesBefore s r b then some r else some b) none).map Prod.fst

/-- The check of a head at transmission start (R53). A BID's leg in CALLED holds a call (log entry 25). -/
def headPasses (s : State) : Head → Bool
  | .leg l .bid => acceptsLeg s .bid && decide (legState s l = .called) && (callOf s l).isSome
  | .leg l .keep => acceptsLeg s .keep && (slotOf s l).isSome
  | .leg _ .cede => acceptsLeg s .cede
  | .beacon => acceptsAny s
  | .clear _ => acceptsAny s

/-- A head removed unsent (R53). -/
def dropHead (h : Head) (s : State) : State :=
  updQueue (fun q =>
    match h with
    | .leg l _ => { q with legs := q.legs.set l none }
    | .beacon => { q with beacon := none }
    | .clear _ => { q with clear := none }) s

def Entry.mark {α : Type} (e : Entry α) : Entry α := { e with sending := true }

/-- The request of a leg whose frame goes out at instant `now`: marked in transmission; but where an aid upgrade renewed the
request at this instant, the frame is the one of the request it replaced, and the entry "loses its in-transmission mark and holds
the new request" (R51, R95; log entry 35). The event just before this one counts as at this instant. -/
def Entry.markAt {α : Type} (now : Nat) (e : Entry α) : Entry α :=
  if e.renews && decide (e.stamp + 1 = now) then { e with renews := false } else e.mark

/-- The frame goes out and its request is marked in transmission (R53). The line has been recessive for 500 µs, so a
station that waited for that waits no longer. -/
def sendFrame (h : Head) (f : Frame) (s : State) : State :=
  let s := updQueue (fun q =>
    match h with
    | .leg l _ => { q with legs := q.legs.upd l (fun o => o.map (Entry.markAt s.clock)) }
    | .beacon => { q with beacon := q.beacon.map Entry.mark }
    | .clear _ => { q with clear := q.clear.map Entry.mark }) s
  updLine (fun n => { n with tx := some f, monitor := if n.monitor = .waiting then .idle else n.monitor }) s

/-- The content of a head that passes is built, and its frame begins (R46 to R49, R53). For a BID the placement runs in
this event and its result becomes the pending bid (R78, R91). -/
def beginFrame (h : Head) (s : State) : State :=
  match h with
  | .leg l .bid =>
    match callOf s l with
    | none => s
    | some c =>
      let b := place s l c
      sendFrame h (buildBid s l b) (updSlot l (fun r => { r with bid := some b, deferred := [] }) s)
  | .leg l .keep =>
    match slotOf s l with
    | none => s
    | some x => sendFrame h (buildKeep s l x) s
  | .leg l .cede => sendFrame h (.cede { station := ownStation s, leg := l }) s
  | .beacon => sendFrame h (buildBeacon s) s
  | .clear .clearway => sendFrame h (.clearway (ownClearway s)) s
  | .clear .clearEnd => sendFrame h (.clearEnd (ownClearway s)) s

/-- Heads are taken and checked in the same event until one passes (R53). The queue holds at most four. -/
def takeHead : Nat → State → State
  | 0, s => s
  | n + 1, s =>
    match headOf s with
    | none => s
    | some h => if headPasses s h then beginFrame h s else takeHead n (dropHead h s)

/-- The conditions of R53 that the part holds: no own frame in transmission and a normal line watch. That the line has
been recessive for 500 µs is what the command says. -/
def maySend (s : State) : Bool := s.line.tx.isNone && !s.line.faulted

/-! ### The end of an own frame (R43 to R45) -/

/-- The own frame is completed (R45): the collision count is cleared and the request removed. -/
def completeFrame (s : State) : State :=
  updLine (fun n => { n with tx := none, monitor := .idle, collisions := 0, queue := n.queue.dropSent }) s

/-- Arbitration is lost (R43). -/
def loseArbitration (s : State) : State :=
  updLine (fun n => { n with arbLoss := advance n.arbLoss, monitor := .receiving }) (stopOwnFrame s)

/-- A collision error (R44); the third in a row, and each further one, is a duplicate station number. -/
def collide (s : State) : State :=
  let s := updLine (fun n =>
    { n with collision := advance n.collision, collisions := min 3 (n.collisions + 1), monitor := .waiting }) (stopOwnFrame s)
  if s.line.collisions = 3 then duplicateFound s else s

/-! ### Reception (R55 to R58) -/

/-- The station takes frames (R55): LISTEN, RUN or FLASH with a valid configuration, and a normal line watch. -/
def takesFrames (s : State) : Bool := acceptsAny s && !s.line.faulted

/-- A frame discarded by the size, class, length or field check (R56, R59). -/
def countFormat (s : State) : State := updLine (fun n => { n with formatErr := advance n.formatErr }) s

/-- A frame discarded by the CRC check (R56, R59). -/
def countCrc (s : State) : State := updLine (fun n => { n with crcErr := advance n.crcErr }) s

/-- What the Slot Engine and the Hold Unit do with a dispatched frame (R58). -/
def blocksTake (f : Frame) (s : State) : State :=
  match f with
  | .bid f => slotsTake (carriedBid f) s
  | .keep f => slotsTake (carriedKeep f) s
  | .clearway f => holdTakesClearway f s
  | .clearEnd f => holdTakesClearEnd f s
  | .beacon _ => s
  | .cede _ => s

/-- A valid frame that passes the duplicate check is dispatched to the three blocks, "and none relies on another's update from the
same frame" (R58): the Slot Engine sees the Crossing Table as it was before the frame, and the table reads nothing of the other
two (log entry 13). -/
def dispatch (f : Frame) (s : State) : State := tableTakes f (blocksTake f s)

/-- A valid frame meets the duplicate check (R57). -/
def takeValid (f : Frame) (s : State) : State :=
  if frameStation f = (conf s).station then duplicateFound s else dispatch f s

/-- The effect of a frame end, where frames are taken; nothing of a frame that the monitor waits out (R44, R55). In both
cases the line has been idle for 500 µs (R40). -/
def atFrameEnd (take : State → State) (s : State) : State :=
  let t := updLine (fun n => { n with monitor := .idle }) s
  if takesFrames s && !decide (s.line.monitor = .waiting) then take t else t

/-- A frame with these fields reaches its frame end: the field check, the duplicate check, the dispatch (R56 to R58). -/
def takeFrame (f : Frame) (s : State) : State :=
  atFrameEnd (fun s => if frameOk f then takeValid f s else countFormat s) s

/-- A frame of these bits reaches its frame end: all four checks of R56. -/
def takeBits (bits : List Bool) (s : State) : State :=
  atFrameEnd (fun s =>
    match decodeFrame bits with
    | .ok f => takeValid f s
    | .error .crc => countCrc s
    | .error _ => countFormat s) s

/-- What the bit monitor does after a dominant stretch of `length` µs that `recessive` µs of recessive line went before (R39). Within a
frame an edge that soon is one of the frame's bits. -/
def monitorAfter (recessive length : Nat) (m : Monitor) : Monitor :=
  if recessive < 500 then (if m = .receiving then m else .waiting)
  else if 150 ≤ length ∧ length < 400 then .receiving
  else .waiting

/-- A dominant stretch is judged (R39): a start pulse, a glitch or a broken start by its whole length; and the line fault of R41
where 1 ms or more of it came since the line watch began. -/
def judgePulse (recessive : Nat) (dominant : Dominant) (s : State) : State :=
  let s := updLine (fun n => { n with monitor := monitorAfter recessive dominant.length n.monitor }) s
  if 1000 ≤ dominant.watched then takeLineFault s else s

end Sys2Proof.Machine
end

