-- ==== Sys2Proof/Machine/FrameEvents.lean ====
section
/-! DEFINITION. Commands: the frames received (chapters 3, 4, 6 and 9). Each goes through the checks of R56 and R57 (log entry 11). -/

namespace Sys2Proof.Machine

/-- INVALID_FRAME_RECEIVED (R56): a frame of these bits. -/
def execInvalidFrameReceived (bits : List Bool) (s : State) : Outcome := .next (event (takeBits bits) s)

/-- DUPLICATE_FRAME_RECEIVED (R57). -/
def execDuplicateFrameReceived (f : Frame) (s : State) : Outcome := .next (event (takeFrame f) s)

/-- BEACON_RECEIVED (R65). -/
def execBeaconReceived (f : BeaconFrame) (s : State) : Outcome := .next (event (takeFrame (.beacon f)) s)

/-- BID_RECEIVED (R66, R102, R109). -/
def execBidReceived (f : BidFrame) (s : State) : Outcome := .next (event (takeFrame (.bid f)) s)

/-- KEEP_RECEIVED (R67, R102, R106, R109). -/
def execKeepReceived (f : KeepFrame) (s : State) : Outcome := .next (event (takeFrame (.keep f)) s)

/-- CEDE_RECEIVED (R68). -/
def execCedeReceived (f : CedeFrame) (s : State) : Outcome := .next (event (takeFrame (.cede f)) s)

/-- CLEARWAY_RECEIVED (R70, R151). -/
def execClearwayReceived (f : ClearwayFrame) (s : State) : Outcome := .next (event (takeFrame (.clearway f)) s)

/-- CLEAR_END_RECEIVED (R70, R152). -/
def execClearEndReceived (f : ClearwayFrame) (s : State) : Outcome := .next (event (takeFrame (.clearEnd f)) s)

end Sys2Proof.Machine
end

