-- ==== Sys2Proof/Machine/HoldEvents.lean ====
section
/-! DEFINITION. Commands: the preempt lines, the clearway and its holders (chapter 9). -/

namespace Sys2Proof.Machine

/-- PHQ_RISE (R145): of a low PHQ. -/
def execPhqRise (s : State) : Outcome := .next (if s.phq then s else pinChange (fun s => { s with phq := true }) holdRequested s)

/-- PHQ_FALL (R146): of a high PHQ. -/
def execPhqFall (s : State) : Outcome := .next (if s.phq then pinChange (fun s => { s with phq := false }) holdLowered s else s)

/-- PRQ_RISE (R147): of a low PRQ. -/
def execPrqRise (s : State) : Outcome := .next (if s.prq then s else pinChange (fun s => { s with prq := true }) releaseRaised s)

/-- PRQ_FALL (R147): of a high PRQ. -/
def execPrqFall (s : State) : Outcome := .next (if s.prq then pinChange (fun s => { s with prq := false }) releaseLowered s else s)

/-- A CLEARWAY is queued again and the countdown loaded with 20 ds (R149). -/
def clearwayDone (s : State) : State := updHold (fun h => { h with clearway := .load 20 }) (enqueueClear .clearway s)

/-- CLEARWAY_REPEAT_EXPIRY (R149). -/
def execClearwayRepeatExpiry (s : State) : Outcome := .next (expiry s.hold.clearway.due clearwayDone s)

/-- The holder's refresh countdown has expired (R152). -/
def refreshOver (s : State) (st : Nat) : Bool := s.hold.holders.any (fun h => decide (h.station = st) && decide (h.left = 0))

/-- The holder goes and CLEARWAY_EXPIRED is set (R152). -/
def refreshDone (st : Nat) (s : State) : State := changeHolders (dropHolder st) (setFlag .clearwayExpired s)

/-- REFRESH_EXPIRY (R152). -/
def execRefreshExpiry (st : BitVec 4) (s : State) : Outcome := .next (expiry (refreshOver s st.toNat) (refreshDone st.toNat) s)

end Sys2Proof.Machine
end

