-- ==== Sys2Proof/Machine/LampEvents.lean ====
section
/-! DEFINITION. Commands: the lamp readbacks and their mismatches (chapter 10). -/

namespace Sys2Proof.Machine

/-- A readback takes a level (R167). -/
def setReadback (l : LegId) (i : LampId) (on : Bool) (s : State) : State := updLamp l i (fun r => { r with readback := on }) s

/-- The check of R169 after a change of leg l's readbacks from `before`: a conflict that was not there (log entry 15). No
check is made in START (R167). -/
def checkConflict (l : LegId) (before : Lamps LampRec) (s : State) : State :=
  if decide (s.mode ≠ .start) && !conflictSensed before && conflictSensed (s.lamps.get l) then
    flashFrom .conflict (setFlag .conflict s)
  else s

/-- LAMP_READBACK_CHANGE (R167, R169): the comparison with the command is settled with the event. -/
def execLampReadbackChange (l : LegId) (i : LampId) (on : Bool) (s : State) : Outcome :=
  .next (pinChange (setReadback l i on) (checkConflict l (s.lamps.get l)) s)

def lampRec (s : State) (l : LegId) (i : LampId) : LampRec := (s.lamps.get l).get i

/-- A mismatch has lasted 3 ds (R168): LAMP_FAIL, and FLASH with cause LAMP for a vehicle red commanded on. -/
def mismatchDone (l : LegId) (i : LampId) (s : State) : State :=
  let red := decide (i = .red) && lampOn s l i
  let s := setFlag .lampFail (updLamp l i (fun r => { r with failed := true, mismatch := .stopped }) s)
  if red then flashFrom .lamp s else s

/-- MISMATCH_EXPIRY (R168). -/
def execMismatchExpiry (l : LegId) (i : LampId) (s : State) : Outcome :=
  .next (expiry (lampRec s l i).mismatch.due (mismatchDone l i) s)

end Sys2Proof.Machine
end

