-- ==== Sys2Proof/Machine/LegEvents.lean ====
section
/-! DEFINITION. Commands: the expiries of a leg (chapters 1 and 2). -/

namespace Sys2Proof.Machine

/-- The leg is in the state and its interval has expired (R1). -/
def intervalDone (s : State) (l : LegId) (st : LegState) : Bool :=
  decide (legState s l = st) && (s.legs.get l).interval.due

/-- The blink phase changes and the countdown is loaded with 3 ds (R37). -/
def blinkDone (l : LegId) (s : State) : State := updCall l (fun r => { r with blinkOn := !r.blinkOn, blink := .load 3 }) s

/-- BLINK_EXPIRY (R37). -/
def execBlinkExpiry (l : LegId) (s : State) : Outcome := .next (expiry (s.calls.get l).blink.due (blinkDone l) s)

/-- The flash phase changes and the countdown is loaded with 5 ds (R3). -/
def flashDone (l : LegId) (s : State) : State := updLeg l (fun r => { r with flashOn := !r.flashOn, flash := .load 5 }) s

/-- FLASH_COUNTDOWN_EXPIRY (R3). -/
def execFlashCountdownExpiry (l : LegId) (s : State) : Outcome := .next (expiry (s.legs.get l).flash.due (flashDone l) s)

/-- Min green stops at 0 (R4). -/
def minGreenDone (l : LegId) (s : State) : State := updLeg l (fun r => { r with minGreen := .stopped }) s

/-- MIN_GREEN_EXPIRY (R4). -/
def execMinGreenExpiry (l : LegId) (s : State) : Outcome := .next (expiry (s.legs.get l).minGreen.due (minGreenDone l) s)

/-- START_NEAR (R7): a COMMITTED leg whose slot's start_in has reached A + Rin. -/
def execStartNear (l : LegId) (s : State) : Outcome :=
  .next (expiry (decide (legState s l = .committed) && startIsNear s l) (amberEntry l) s)

/-- AMBER_EXPIRY (R8, R13). -/
def execAmberExpiry (l : LegId) (s : State) : Outcome := .next (expiry (intervalDone s l .amber) (amberDone l) s)

/-- ALL_RED_IN_EXPIRY (R9). -/
def execAllRedInExpiry (l : LegId) (s : State) : Outcome := .next (expiry (intervalDone s l .allRedIn) (allRedInDone l) s)

/-- WALK_EXPIRY (R10). -/
def execWalkExpiry (l : LegId) (s : State) : Outcome := .next (expiry (intervalDone s l .walk) (enterClearance l) s)

/-- CLEARANCE_EXPIRY (R10). -/
def execClearanceExpiry (l : LegId) (s : State) : Outcome := .next (expiry (intervalDone s l .clearance) (clearanceDone l) s)

/-- ALL_RED_OUT_EXPIRY (R11). -/
def execAllRedOutExpiry (l : LegId) (s : State) : Outcome := .next (expiry (intervalDone s l .allRedOut) (allRedOutDone l) s)

end Sys2Proof.Machine
end

