-- ==== Sys2Proof/Machine/LineEvents.lean ====
section
/-! DEFINITION. Commands: the street line, sending and its faults (chapter 3). -/

namespace Sys2Proof.Machine

/-- TRANSMISSION_START (R53): the line has been recessive for 500 µs. -/
def execTransmissionStart (s : State) : Outcome := .next (eventIf (maySend s) (takeHead 4) s)

/-- ARBITRATION_LOSS (R43): of an own frame in transmission. -/
def execArbitrationLoss (s : State) : Outcome := .next (eventIf s.line.tx.isSome loseArbitration s)

/-- COLLISION_ERROR (R44): of an own frame in transmission. -/
def execCollisionError (s : State) : Outcome := .next (eventIf s.line.tx.isSome collide s)

/-- The own frame in transmission is a BEACON, CLEARWAY or CLEAR_END. -/
def sendsPlain (s : State) : Bool :=
  match s.line.tx with
  | some (.beacon _) | some (.clearway _) | some (.clearEnd _) => true
  | _ => false

/-- OWN_FRAME_COMPLETED (R45). -/
def execOwnFrameCompleted (s : State) : Outcome := .next (eventIf (sendsPlain s) completeFrame s)

/-- The leg of the BID in transmission. -/
def bidInFlight (s : State) : Option LegId :=
  match s.line.tx with
  | some (.bid f) => some f.leg
  | _ => none

/-- The leg of the KEEP in transmission. -/
def keepInFlight (s : State) : Option LegId :=
  match s.line.tx with
  | some (.keep f) => some f.leg
  | _ => none

/-- The leg of the CEDE in transmission. -/
def cedeInFlight (s : State) : Option LegId :=
  match s.line.tx with
  | some (.cede f) => some f.leg
  | _ => none

/-- An own frame about a leg completes (R45), and its completion is reported. -/
def completeFor (leg : Option LegId) (f : LegId → State → State) (s : State) : State :=
  match leg with
  | none => s
  | some l => event (fun s => f l (completeFrame s)) s

/-- BID_COMPLETED (R92, R97). -/
def execBidCompleted (s : State) : Outcome := .next (completeFor (bidInFlight s) bidReported s)

/-- Every challenger of the leg has been told (R103). -/
def keepReported (l : LegId) (s : State) : State := updSlot l SlotRec.tellAll s

/-- KEEP_COMPLETED (R103). -/
def execKeepCompleted (s : State) : Outcome := .next (completeFor (keepInFlight s) keepReported s)

/-- A leg in CALLED may bid again (R105). -/
def cedeReported (l : LegId) (s : State) : State := if legState s l = .called then enqueueLeg l .bid s else s

/-- CEDE_COMPLETED (R105). -/
def execCedeCompleted (s : State) : Outcome := .next (completeFor (cedeInFlight s) cedeReported s)

/-- A BEACON is queued and the countdown loaded with 10 ds (R52). -/
def beaconDone (s : State) : State := startBeacon s

/-- BEACON_COUNTDOWN_EXPIRY (R52). -/
def execBeaconCountdownExpiry (s : State) : Outcome := .next (expiry s.line.beacon.due beaconDone s)

/-- LINE_FAULT (R41). -/
def execLineFault (s : State) : Outcome := .next (event takeLineFault s)

/-- LINE_CLEAR (R41). -/
def execLineClear (s : State) : Outcome := .next (event takeLineClear s)

/-- BROKEN_FRAME (R40): 500 µs of recessive line after a broken frame. -/
def execBrokenFrame (s : State) : Outcome := .next (event (atFrameEnd countFormat) s)

/-- START_PULSE (R39): a dominant stretch after `recessive` µs of recessive line. -/
def execStartPulse (recessive : Nat) (dominant : Dominant) (s : State) : Outcome := .next (event (judgePulse recessive dominant) s)

end Sys2Proof.Machine
end

