-- ==== Sys2Proof/Machine/Operands.lean ====
section
/-! DEFINITION. The operands of a maintenance command: its code, its operand count and its operand ranges (R173; 12.3). -/

namespace Sys2Proof.Machine

/-- The fourteen commands of the maintenance port (R173). -/
inductive PortCommand where
  | stat | leg | tread | holders | cnts | fclr | call | hold | quiet | flash | resume | isol | join | rstrt
  deriving DecidableEq, Repr

/-- The command byte (12.3). -/
def commandCode : PortCommand → Byte
  | .stat => 0x01
  | .leg => 0x02
  | .tread => 0x03
  | .holders => 0x04
  | .cnts => 0x05
  | .fclr => 0x10
  | .call => 0x11
  | .hold => 0x12
  | .quiet => 0x13
  | .flash => 0x20
  | .resume => 0x21
  | .isol => 0x22
  | .join => 0x23
  | .rstrt => 0x2F

def allCommands : List PortCommand :=
  [.stat, .leg, .tread, .holders, .cnts, .fclr, .call, .hold, .quiet, .flash, .resume, .isol, .join, .rstrt]

/-- The command that a command byte names (R173 step 1). -/
def commandOf (b : Byte) : Option PortCommand := allCommands.find? (fun c => commandCode c == b)

/-- The operand count (R173, 12.3). -/
def operandCount : PortCommand → Nat
  | .leg | .tread | .hold | .quiet => 1
  | .fclr | .call => 2
  | _ => 0

/-- The unsigned value of an operand byte (R190). -/
def operand (ops : List Byte) (i : Nat) : Nat := (ops.getD i 0).toNat

/-- The two operand bytes of FCLR, high byte first (12.3). -/
def maskOf (ops : List Byte) : Nat := operand ops 0 * 256 + operand ops 1

/-- The leg that an operand in range names. -/
def legOperand (ops : List Byte) : LegId := if operand ops 0 = 0 then .leg0 else .leg1

/-- The kind that CALL's second operand names. -/
def kindOperand (ops : List Byte) : Kind := if operand ops 1 = 0 then .plain else .aid

/-- The quiet mode that QUIET's operand names. -/
def quietOperand (ops : List Byte) : QuietMode :=
  if operand ops 0 = 0 then .follow else if operand ops 0 = 1 then .forceOn else .forceOff

/-- Every operand lies in its range (R173 step 3); a mask with bit 14 or 15 set does not (R190). -/
def operandsInRange (c : PortCommand) (ops : List Byte) : Bool :=
  match c with
  | .leg => decide (operand ops 0 ≤ 1)
  | .tread => decide (operand ops 0 ≤ 23)
  | .fclr => decide (maskOf ops < 2 ^ 14)
  | .call => decide (operand ops 0 ≤ 1) && decide (operand ops 1 ≤ 1)
  | .hold => decide (operand ops 0 ≤ 1)
  | .quiet => decide (operand ops 0 ≤ 2)
  | _ => true

end Sys2Proof.Machine
end

