-- ==== Sys2Proof/Machine/Port.lean ====
section
/-! DEFINITION. The Maintenance Port (chapter 11): the checks of a command, the replies and what each command does. -/

namespace Sys2Proof.Machine

/-! ### Replies (R175; 12.3) -/

/-- The status of a reply (R175). NONE is only read from an empty buffer. -/
inductive ReplyStatus where
  | ok | noChange | refused | unknown | length | range
  deriving DecidableEq, Repr

/-- The status codes (12.3). -/
def statusCode : ReplyStatus → Byte
  | .ok => 0x00
  | .noChange => 0x01
  | .refused => 0x02
  | .unknown => 0x80
  | .length => 0x81
  | .range => 0x82

/-- A reply's bytes: status, code, content length and content (12.3). -/
def replyBytes (st : ReplyStatus) (code : Byte) (content : List Byte) : List Byte :=
  statusCode st :: code :: BitVec.ofNat 8 content.length :: content

/-- A reply takes the buffer, whatever it held (R173). -/
def putReply (st : ReplyStatus) (code : Byte) (content : List Byte) (s : State) : State :=
  updPort (fun p => { p with reply := some (replyBytes st code content) }) s

/-- The fill value (R174, 12.3). -/
def fillValue : Byte := 0xFF

/-- What a read transaction of n bytes returns (R174): the buffer from its first byte, then the fill value; from an empty
buffer the status NONE, whose code is the fill value's. A read changes nothing, so it is no command (log entry 27). -/
def readReply (s : State) (n : Nat) : List Byte :=
  ((s.port.reply.getD [0xFF]) ++ List.replicate n fillValue).take n

/-- The 7-bit address that the port answers; none while the RESET pin is held (R172). -/
def portAddress (s : State) : Option (BitVec 7) := if s.resetHeld then none else some (0x2C#7 + s.port.straps.setWidth 7)

/-! ### Codes of the reply contents (12.3) -/

/-- A value in one byte. -/
def byteOf (n : Nat) : Byte := BitVec.ofNat 8 n

/-- A value in two bytes, high byte first. -/
def wordOf (n : Nat) : List Byte := [byteOf (n / 256), byteOf (n % 256)]

/-- A countdown in one byte: 0xFF where it is stopped. -/
def countByte (c : Countdown) : Byte := if c.running then byteOf c.count else 0xFF

/-- A countdown in two bytes: 0xFFFF where it is stopped. -/
def countWord (c : Countdown) : List Byte := if c.running then wordOf c.count else [0xFF, 0xFF]

def modeCode : Mode → Nat
  | .start => 0
  | .listen => 1
  | .run => 2
  | .isolated => 3
  | .flash => 4

def causeCode : Cause → Nat
  | .none => 0
  | .line => 1
  | .duplicate => 2
  | .command => 3
  | .config => 4
  | .lamp => 5
  | .conflict => 6

def isolationCode : Option Isolation → Nat
  | none => 0
  | some .line => 1
  | some .duplicate => 2
  | some .command => 3

def checkCode : FaultCheck → Nat
  | .none => 0
  | .noAnswer => 1
  | .tag => 2
  | .sum => 3
  | .station => 4
  | .legs => 5

def patternCode : Pattern → Nat
  | .silent => 0
  | .locator => 1
  | .walk => 2
  | .clearance => 3

def quietCode : QuietMode → Nat
  | .follow => 0
  | .forceOn => 1
  | .forceOff => 2

/-- The source set byte. -/
def sourceByte (s : State) : Byte := byteOf (s.hold.preempt.toNat + 2 * s.hold.street.toNat + 4 * s.hold.maint.toNat)

/-- The quiet byte. -/
def quietByte (s : State) : Byte := byteOf (quietCode s.port.quietMode + 128 * (quietActive s).toNat)

/-- The slot byte; 0 where there is no slot. -/
def slotByte : Option Slot → Byte
  | none => 0
  | some x => byteOf (stageCode x.stage + 4 * x.aid.toNat + 8 * (!x.urgent).toNat)

/-- The call byte without the walk cancelled bit. -/
def callBits : Option Call → Nat
  | none => 0
  | some c => 1 + 2 * (decide (c.kind = .aid)).toNat + 4 * (decide (c.firstKerb = .b)).toNat

/-- The waited count of a call; 0 where there is none. -/
def waitedOf : Option Call → Nat
  | none => 0
  | some c => c.waited

/-- The slot's start_in and end_in, then its band and key rank; 0 where there is no slot. -/
def slotTimes : Option Slot → List Byte
  | none => wordOf 0 ++ wordOf 0
  | some x => wordOf x.startIn ++ wordOf x.endIn

def slotBandRank : Option Slot → List Byte
  | none => [0, 0]
  | some x => [byteOf x.band, byteOf x.rank]

/-- The flags in two bytes. -/
def flagBytes (s : State) : List Byte := wordOf s.port.flags.toNat

/-- Mode, cause and pending isolation: the content of FLASH, ISOL, JOIN and RESUME. -/
def modeContent (s : State) : List Byte :=
  [byteOf (modeCode s.mode), byteOf (causeCode s.cause), byteOf (isolationCode s.isolation)]

/-! ### The reading commands (R176 to R178) -/

/-- The content of STAT (R176). The fault check is none where the cause is not CONFIG. -/
def statContent (s : State) : List Byte :=
  [byteOf (modeCode s.mode), byteOf (causeCode s.cause), byteOf (if s.cause = .config then checkCode s.faultCheck else 0),
   byteOf (isolationCode s.isolation), byteOf (s.cfg.isSome.toNat + 2 * s.line.faulted.toNat),
   byteOf ((s.cfg.map StationConfig.station).getD 0), byteOf ((s.cfg.map StationConfig.legs).getD 0), sourceByte s] ++
  flagBytes s ++ [byteOf s.table.length, byteOf s.hold.holders.length, quietByte s]

/-- A timed leg state (R1). -/
def timedState : LegState → Bool
  | .amber | .allRedIn | .walk | .clearance | .allRedOut => true
  | _ => false

/-- The leg's loaded configuration, absent where none is loaded or the leg is not in use (R177, R190). -/
def shownConfig (s : State) (l : LegId) : Option LegConfig :=
  match s.cfg, l with
  | none, _ => none
  | some c, .leg0 => some c.leg0
  | some c, .leg1 => c.leg1

/-- The 17-byte leg block as in the image (12.2). -/
def legConfigBytes (c : LegConfig) : List Byte :=
  wordOf c.gmin ++ [byteOf c.amber, byteOf c.rin] ++ wordOf c.walk ++ [byteOf c.ext] ++ wordOf c.clear ++ [byteOf c.rout] ++
    wordOf c.maxWait ++ wordOf c.wmin ++ wordOf c.kp ++ [byteOf c.band]

/-- The content of LEG (R177). -/
def legContent (s : State) (l : LegId) : List Byte :=
  let r := s.legs.get l
  let call := callOf s l
  let slot := slotOf s l
  let kerbs := s.kerbs.get l
  let stale := s.ambient.get l
  [byteOf (legCode l), byteOf (phaseCode r.state)] ++ (if timedState r.state then countWord r.interval else [0xFF, 0xFF]) ++
    countWord r.minGreen ++ wordOf r.walkElapsed ++ wordOf r.walkLength ++ [byteOf (callBits call + 8 * r.walkCancelled.toNat)] ++
    wordOf (waitedOf call) ++ [slotByte slot] ++ slotTimes slot ++ slotBandRank slot ++ [countByte (s.slots.get l).contest] ++
    [byteOf (patternCode kerbs.a.pattern + 4 * patternCode kerbs.b.pattern), byteOf (stale.a.stale.toNat + 2 * stale.b.stale.toNat)] ++
    (match shownConfig s l with
     | some c => 1 :: legConfigBytes c
     | none => List.replicate 18 0)

/-- The content of TREAD (R178). The table is in the order of station number, then leg (R74). An absent record is two bytes long, as
the reply table has it (log entry 34). -/
def treadContent (s : State) (i : Nat) : List Byte :=
  match s.table[i]? with
  | none => [0, byteOf s.table.length]
  | some c =>
    [1, byteOf s.table.length, byteOf c.station, byteOf (legCode c.leg)] ++ wordOf c.position ++ [byteOf c.radius] ++
      wordOf (distanceTo s c.position) ++ [byteOf (phaseCode c.phase), slotByte c.slot] ++ slotTimes c.slot ++ slotBandRank c.slot ++
      [if s.heard.any (fun h => decide (h.station = c.station)) then byteOf (heardOf s c.station) else 0xFF]

/-- The content of HOLDERS (R178). -/
def holdersContent (s : State) : List Byte :=
  byteOf s.hold.holders.length :: s.hold.holders.flatMap (fun h => [byteOf h.station, byteOf h.left])

/-- The content of CNTS (R178). -/
def cntsContent (s : State) : List Byte :=
  wordOf s.line.arbLoss ++ wordOf s.line.collision ++ wordOf s.line.crcErr ++ wordOf s.line.formatErr

/-! ### The acting commands (R179 to R183) -/

/-- What a command that passes its checks answers: the state after it, the status and the content. -/
abbrev Answered := State × ReplyStatus × List Byte

/-- OK where something changed, NO_CHANGE otherwise (R180, R181). -/
def changeStatus (changed : Bool) : ReplyStatus := if changed then .ok else .noChange

def outcomeCode : PressOutcome → Nat
  | .latched => 0
  | .upgraded => 1
  | .unchanged => 2
  | .envelope => 3
  | .ignored => 4

/-- FCLR (R185). -/
def runFclr (ops : List Byte) (s : State) : Answered :=
  let t := updPort (fun p => { p with flags := p.flags &&& ~~~(BitVec.ofNat 14 (maskOf ops)) }) s
  (t, .ok, flagBytes t)

/-- CALL (R179, R34): a classified press at kerb A. -/
def runCall (ops : List Byte) (s : State) : Answered :=
  let l := legOperand ops
  let p := takePress l .a (kindOperand ops) s
  (p.1, .ok, [byteOf (outcomeCode p.2), byteOf (callBits (callOf p.1 l))] ++ wordOf (waitedOf (callOf p.1 l)))

/-- HOLD (R180, R144). -/
def runHold (ops : List Byte) (s : State) : Answered :=
  let on := decide (operand ops 0 = 1)
  let t := changeSources (fun h => { h with maint := on }) s
  (t, changeStatus (s.hold.maint != on), [sourceByte t])

/-- QUIET (R180). -/
def runQuiet (ops : List Byte) (s : State) : Answered :=
  let t := updPort (fun p => { p with quietMode := quietOperand ops }) s
  (t, changeStatus (decide (s.port.quietMode ≠ quietOperand ops)), [quietByte t])

/-- A mode request (R181): OK where the mode, the cause or the pending isolation changed. -/
def runMode (request : State → State) (s : State) : Answered :=
  let t := request s
  (t, changeStatus (decide (t.mode ≠ s.mode) || decide (t.cause ≠ s.cause) || decide (t.isolation ≠ s.isolation)), modeContent t)

/-- The lamps of a leg that differ from their commands, bit i for lamp i (12.3). -/
def mismatchBits (s : State) (l : LegId) : Nat :=
  (mismatched s l .red).toNat + 2 * (mismatched s l .amber).toNat + 4 * (mismatched s l .green).toNat +
    8 * (mismatched s l .walk).toNat + 16 * (mismatched s l .dontWalk).toNat

/-- The lamp mask of a refused RESUME: bit 5 × leg + i (12.3). -/
def lampMask (s : State) : Nat := mismatchBits s .leg0 + 32 * mismatchBits s .leg1

/-- RESUME (R182, R166). The lamp mask beside reason CONFIG is 0 (log entry 18). -/
def runResume (s : State) : Answered :=
  if s.mode ≠ .flash then (s, .noChange, modeContent s)
  else if s.cause = .config then (s, .refused, 0 :: wordOf 0)
  else if anyMismatch s then (s, .refused, 1 :: wordOf (lampMask s))
  else
    let t := takeResume s
    (t, .ok, modeContent t)

/-- RSTRT (R183, R157, R129): RESTART, its own reply in the buffer. -/
def runRstrt (s : State) : Answered := (stopWords (startBlocks s), .ok, [])

/-- What each command does once it has passed its checks. -/
def runCommand (c : PortCommand) (ops : List Byte) (s : State) : Answered :=
  match c with
  | .stat => (s, .ok, statContent s)
  | .leg => (s, .ok, legContent s (legOperand ops))
  | .tread => (s, .ok, treadContent s (operand ops 0))
  | .holders => (s, .ok, holdersContent s)
  | .cnts => (s, .ok, cntsContent s)
  | .fclr => runFclr ops s
  | .call => runCall ops s
  | .hold => runHold ops s
  | .quiet => runQuiet ops s
  | .flash => runMode (flashFrom .command) s
  | .resume => runResume s
  | .isol => runMode (reportIsolation .command) s
  | .join => runMode takeJoin s
  | .rstrt => runRstrt s

/-! ### Taking a command (R173) -/

/-- The two checks of a command that the command byte names: its operand count, then its operand ranges. -/
def commandFault (c : PortCommand) (ops : List Byte) : Option ReplyStatus :=
  if ops.length ≠ operandCount c then some .length
  else if operandsInRange c ops = false then some .range
  else none

/-- A command is taken at the end of its write: it fails a check and has no effect, or executes; either way its reply
takes the buffer (R173, R175). -/
def takeCommand (c : PortCommand) (ops : List Byte) (s : State) : State :=
  match commandFault c ops with
  | some st => putReply st (commandCode c) [] s
  | none =>
    let a := runCommand c ops s
    putReply a.2.1 (commandCode c) a.2.2 a.1

/-- The QUIET pin as it stands when a RSTRT executes (R136); one that fails a check executes nothing (R173). -/
def pinAtRestart (w : RstrtWrite) (s : State) : State :=
  if (commandFault .rstrt w.bytes).isNone then { s with quietPin := w.quiet } else s

/-- RSTRT is taken (R183): RESTART samples the QUIET pin in its event (R136). -/
def takeRstrt (w : RstrtWrite) (s : State) : State := takeCommand .rstrt w.bytes (pinAtRestart w s)

end Sys2Proof.Machine
end

