-- ==== Sys2Proof/Machine/PortCommands.lean ====
section
/-! DEFINITION. Commands: the maintenance port (chapter 11). Each carries the operand bytes written after its command byte. -/

namespace Sys2Proof.Machine

/-- STAT (R176). -/
def execStat (ops : List Byte) (s : State) : Outcome := .next (event (takeCommand .stat ops) s)

/-- LEG (R177). -/
def execLeg (ops : List Byte) (s : State) : Outcome := .next (event (takeCommand .leg ops) s)

/-- TREAD (R178). -/
def execTread (ops : List Byte) (s : State) : Outcome := .next (event (takeCommand .tread ops) s)

/-- HOLDERS (R178). -/
def execHolders (ops : List Byte) (s : State) : Outcome := .next (event (takeCommand .holders ops) s)

/-- CNTS (R178). -/
def execCnts (ops : List Byte) (s : State) : Outcome := .next (event (takeCommand .cnts ops) s)

/-- FCLR (R185). -/
def execFclr (ops : List Byte) (s : State) : Outcome := .next (event (takeCommand .fclr ops) s)

/-- CALL (R179). -/
def execCall (ops : List Byte) (s : State) : Outcome := .next (event (takeCommand .call ops) s)

/-- HOLD (R180). -/
def execHold (ops : List Byte) (s : State) : Outcome := .next (event (takeCommand .hold ops) s)

/-- QUIET (R180). -/
def execQuiet (ops : List Byte) (s : State) : Outcome := .next (event (takeCommand .quiet ops) s)

/-- FLASH (R181, R164). -/
def execFlash (ops : List Byte) (s : State) : Outcome := .next (event (takeCommand .flash ops) s)

/-- RESUME (R182, R166). -/
def execResume (ops : List Byte) (s : State) : Outcome := .next (event (takeCommand .resume ops) s)

/-- ISOL (R181, R162, R163, R165). -/
def execIsol (ops : List Byte) (s : State) : Outcome := .next (event (takeCommand .isol ops) s)

/-- JOIN (R181, R163, R165). -/
def execJoin (ops : List Byte) (s : State) : Outcome := .next (event (takeCommand .join ops) s)

/-- RSTRT (R183), the QUIET pin at the level that the write carries (R136; log entry 22). -/
def execRstrt (w : RstrtWrite) (s : State) : Outcome := .next (event (takeRstrt w) s)

/-- UNKNOWN_COMMAND (R173, R175): UNKNOWN with the byte as received. A byte that names a command is that command;
RSTRT's with the QUIET pin at the level last told of (log entry 21). -/
def execUnknownCommand (code : Byte) (ops : List Byte) (s : State) : Outcome :=
  match commandOf code with
  | none => .next (event (putReply .unknown code []) s)
  | some c => .next (event (takeCommand c ops) s)

end Sys2Proof.Machine
end

