-- ==== Sys2Proof/Machine/SlotEvents.lean ====
section
/-! DEFINITION. Commands: the expiries of the Slot Engine (chapters 5 and 6). -/

namespace Sys2Proof.Machine

/-- The own slot of the leg has come to its end (R76). -/
def slotOver (s : State) (l : LegId) : Bool := (slotOf s l).any (fun x => decide (x.endIn = 0))

/-- SLOT_END_IN_EXPIRY (R76). -/
def execSlotEndInExpiry (l : LegId) (s : State) : Outcome := .next (expiry (slotOver s l) (removeSlot l) s)

/-- CONTEST_EXPIRY (R98): the contest of a leg in CLAIMED. -/
def execContestExpiry (l : LegId) (s : State) : Outcome :=
  .next (expiry (decide (legState s l = .claimed) && (s.slots.get l).contest.due) (contestWon l) s)

end Sys2Proof.Machine
end

