-- ==== Sys2Proof/Machine/SoundEvents.lean ====
section
/-! DEFINITION. Commands: the kerbs, their sound and their ambient (chapters 7 and 8). -/

namespace Sys2Proof.Machine

def kerbOf (s : State) (l : LegId) (k : Side) : Kerb := (s.kerbs.get l).get k

/-- The kerb across the street, on the same leg. -/
def otherSide : Side → Side
  | .a => .b
  | .b => .a

/-- A burst of the kerb falls due before one of the leg's other kerb does; "where a kerb A burst and a kerb B burst of one leg fall
due at the same instant, the kerb A word goes first" (R116). -/
def burstFirst (s : State) (l : LegId) (k : Side) : Bool :=
  let r := kerbOf s l k
  let o := kerbOf s l (otherSide k)
  !o.phase.running ||
    (match k with
     | .a => decide (r.phase.count + o.late ≤ o.phase.count + r.late)
     | .b => decide (r.phase.count + o.late < o.phase.count + r.late))

/-- The kerb's burst is the next of its leg to fall due: its burst phase runs, and the other kerb's does not end before. -/
def burstReady (s : State) (l : LegId) (k : Side) : Bool :=
  (kerbOf s l k).phase.running && decide ((kerbOf s l k).pattern ≠ .silent) && burstFirst s l k

/-- A burst falls due (R121) once the rest of the burst phase has passed; the phase is loaded from the instant at which it fell
due (R116, R120; log entry 3). -/
def burstNow (l : LegId) (k : Side) (s : State) : State :=
  let s := elapse (kerbOf s l k).phase.count s
  let late := (kerbOf s l k).late
  loadPhase l k (periodOf (kerbOf s l k).pattern) late (sendBurst l k late s)

/-- BURST_DUE (R121): of a kerb whose burst is the next of its leg (R116; log entry 1). -/
def execBurstDue (l : LegId) (k : Side) (s : State) : Outcome := .next (eventIf (burstReady s l k) (burstNow l k) s)

/-- The sounding count runs out (R115). -/
def soundingDone (l : LegId) (k : Side) (s : State) : State := elapse (kerbOf s l k).sounding s

/-- SOUNDING_EXPIRY (R115). -/
def execSoundingExpiry (l : LegId) (k : Side) (s : State) : Outcome :=
  .next (eventIf (decide ((kerbOf s l k).sounding ≠ 0)) (soundingDone l k) s)

/-- The beep ends (R126). -/
def beepDone (l : LegId) (k : Side) (s : State) : State :=
  updKerb l k (fun r => { r with beep := .none, beepLeft := .stopped }) (elapse (kerbOf s l k).beepLeft.count s)

/-- BEEP_END (R126). -/
def execBeepEnd (l : LegId) (k : Side) (s : State) : Outcome :=
  .next (eventIf (kerbOf s l k).beepLeft.running (beepDone l k) s)

/-- One step of the walk envelope (R122): down by 1 where it is above Lk, and the countdown loaded with E. -/
def envelopeDone (l : LegId) (k : Side) (s : State) : State :=
  updKerb l k (fun r =>
    { r with envelope := if kerbLevel s l k < r.envelope then r.envelope - 1 else r.envelope, step := .load (conf s).envStep }) s

/-- ENVELOPE_STEP (R122). -/
def execEnvelopeStep (l : LegId) (k : Side) (s : State) : Outcome := .next (expiry (kerbOf s l k).step.due (envelopeDone l k) s)

/-- The average after a valid word (R134); the division rounds toward minus infinity. -/
def smooth (average : Option Nat) (v : Nat) : Nat :=
  match average with
  | none => 16 * v
  | some a => ((a : Int) + (16 * (v : Int) - (a : Int)) / 8).toNat

/-- A valid ambient word (R134, R135). -/
def heardAmbient (l : LegId) (k : Side) (v : Nat) (s : State) : State :=
  updAmbient l k (fun r => { average := some (smooth r.average v), staleness := .load 20, stale := false }) s

/-- AMBIENT_WORD (R132, R133): valid from 0 to 120, and of a tracked kerb; otherwise it changes nothing. -/
def execAmbientWord (l : LegId) (k : Side) (v : BitVec 7) (s : State) : Outcome :=
  .next (eventIf (served s l && decide (v.toNat ≤ 120)) (heardAmbient l k v.toNat) s)

def ambientOf (s : State) (l : LegId) (k : Side) : Ambient := (s.ambient.get l).get k

/-- The kerb is stale (R135). -/
def staleNow (l : LegId) (k : Side) (s : State) : State :=
  setFlag .ambientStale (updAmbient l k (fun r => { r with stale := true, staleness := .stopped }) s)

/-- STALENESS_EXPIRY (R135). -/
def execStalenessExpiry (l : LegId) (k : Side) (s : State) : Outcome :=
  .next (expiry (ambientOf s l k).staleness.due (staleNow l k) s)

/-- The QUIET input is sampled as it stands (R136). -/
def sampleQuiet (s : State) : State := { s with quietInput := s.quietPin }

/-- QUIET_INPUT_CHANGE (R136): the QUIET input stands at `high`, and its sample differs from the one before. -/
def execQuietInputChange (high : Bool) (s : State) : Outcome :=
  .next (eventIf (s.quietInput != high) (fun s => sampleQuiet { s with quietPin := high }) s)

end Sys2Proof.Machine
end

