-- ==== Sys2Proof/Machine/StartEvents.lean ====
section
/-! DEFINITION. Commands: START, RESET_PIN_ASSERT, CONFIGURATION_READ and JOIN_EXPIRY (chapter 10). -/

namespace Sys2Proof.Machine

/-- START begins, by power-on or the release of the RESET pin (R157, R170, R172): the straps are read, every block takes
its START values with the inputs as they stand, each kerb gets a stop word (R129) and the configuration read begins. -/
def startNow (straps : BitVec 2) (phq prq quiet : Bool) (s : State) : State :=
  let s := { s with resetHeld := false, phq := phq, prq := prq, quietPin := quiet, port := { s.port with straps := straps } }
  stopWords (coldStart { s with clock := s.clock + 1 })

/-- START (R157). -/
def execStart (straps : BitVec 2) (phq prq quiet : Bool) (s : State) : Outcome := .next (startNow straps phq prq quiet s)

/-- The RESET pin is asserted (R157, R170): every block at its START values, no read in progress, nothing on the links. -/
def holdReset (s : State) : State := { coldStart s with resetHeld := true, reading := false }

/-- RESET_PIN_ASSERT (R157). -/
def execResetPinAssert (s : State) : Outcome := .next (holdReset s)

/-- CONFIGURATION_READ (R160): the bytes received, fewer than 64 where the memory stopped answering. -/
def execConfigurationRead (bytes : List Byte) (s : State) : Outcome := .next (eventIf s.reading (configRead bytes) s)

/-- JOIN_EXPIRY (R161). -/
def execJoinExpiry (s : State) : Outcome := .next (expiry s.join.due joinDone s)

end Sys2Proof.Machine
end

