-- ==== Sys2Proof/Machine/TableEvents.lean ====
section
/-! DEFINITION. Commands: the expiries of the Crossing Table (chapter 4). -/

namespace Sys2Proof.Machine

/-- The station's heard countdown has expired (R71). -/
def heardOver (s : State) (st : Nat) : Bool := s.heard.any (fun h => decide (h.station = st) && decide (h.left = 0))

/-- HEARD_EXPIRY (R72). -/
def execHeardExpiry (st : BitVec 4) (s : State) : Outcome := .next (expiry (heardOver s st.toNat) (removeStation st.toNat) s)

/-- The stored slot of the crossing has come to its end (R69). -/
def foreignOver (s : State) (st : Nat) (l : LegId) : Bool :=
  (findCrossing s.table st l).any (fun c => c.slot.any (fun x => decide (x.endIn = 0)))

/-- The slot of the crossing's record goes; the record stays (R69). -/
def clearForeign (st : Nat) (l : LegId) (s : State) : State :=
  { s with table := s.table.map (fun c => if c.station = st ∧ c.leg = l then { c with slot := none } else c) }

/-- TABLE_SLOT_EXPIRY (R69). -/
def execTableSlotExpiry (st : BitVec 4) (l : LegId) (s : State) : Outcome :=
  .next (expiry (foreignOver s st.toNat l) (clearForeign st.toNat l) s)

end Sys2Proof.Machine
end

