-- ==== Sys2Proof/Machine/Clock.lean ====
section
/-! DEFINITION. The station decisecond tick (00_scope.md, Time): one step of every running decisecond count. -/

namespace Sys2Proof.Machine

/-- The counts of a leg record (R1): walk elapsed counts in WALK, up to the walk length (R9). -/
def tickLeg (r : LegRec) : LegRec :=
  { r with
    interval := r.interval.tick
    minGreen := r.minGreen.tick
    flash := r.flash.tick
    walkElapsed := if r.state = .walk ∧ r.walkElapsed < r.walkLength then r.walkElapsed + 1 else r.walkElapsed }

/-- Held time counts while the input is held, up to 600 ds (R22, R25). -/
def tickButton (b : Button) : Button :=
  if b.input = .held ∧ b.heldTime < 600 then { b with heldTime := b.heldTime + 1 } else b

/-- Waited counts up and stops at 4095 (R27); the blink countdown counts down (R37). -/
def tickCall (r : CallRec) : CallRec :=
  { r with call := r.call.map (fun c => { c with waited := min 4095 (c.waited + 1) }), blink := r.blink.tick }

/-- start_in and end_in each fall by 1; both stop at 0, where end_in's expiry is due (R69, R76). -/
def tickSlot (x : Slot) : Slot := { x with startIn := x.startIn - 1, endIn := x.endIn - 1 }

/-- A deferred frame's counts are taken "less the decisecond steps of the Slot Engine's count since its frame end"
(R107). -/
def tickDeferred : Deferred → Deferred
  | .frame c => .frame { c with slot := tickSlot c.slot }
  | .upgrade => .upgrade

/-- The counts of the Slot Engine for a leg (R76, R96). A pending bid does not count down (R77). -/
def tickSlotRec (r : SlotRec) : SlotRec :=
  { r with slot := r.slot.map tickSlot, contest := r.contest.tick, deferred := r.deferred.map tickDeferred }

/-- The step countdown of a kerb (R115). -/
def tickKerb (r : Kerb) : Kerb := { r with step := r.step.tick }

/-- The staleness countdown of a kerb (R135). -/
def tickAmbient (r : Ambient) : Ambient := { r with staleness := r.staleness.tick }

/-- The mismatch countdown of a lamp (R167). -/
def tickLamp (r : LampRec) : LampRec := { r with mismatch := r.mismatch.tick }

/-- The mismatch countdowns of a leg's lamps. -/
def tickLamps (p : Lamps LampRec) : Lamps LampRec :=
  { red := tickLamp p.red, amber := tickLamp p.amber, green := tickLamp p.green, walk := tickLamp p.walk,
    dontWalk := tickLamp p.dontWalk }

/-- "All decisecond counts of the part, in every block, step together on one station decisecond tick." -/
def stepCounts (s : State) : State :=
  { s with
    join := s.join.tick
    legs := s.legs.map tickLeg
    buttons := s.buttons.map (fun p => p.map tickButton)
    calls := s.calls.map tickCall
    slots := s.slots.map tickSlotRec
    table := s.table.map (fun c => { c with slot := c.slot.map tickSlot })
    heard := s.heard.map (fun h => { h with left := h.left - 1 })
    line := { s.line with beacon := s.line.beacon.tick }
    hold := { s.hold with
      holders := s.hold.holders.map (fun h => { h with left := h.left - 1 })
      clearway := s.hold.clearway.tick }
    kerbs := s.kerbs.map (fun p => p.map tickKerb)
    ambient := s.ambient.map (fun p => p.map tickAmbient)
    lamps := s.lamps.map tickLamps }

/-- The station decisecond tick: the rest of the decisecond passes at the kerbs and on the audio links (log entry 3), and every
decisecond count steps. -/
def tick (s : State) : State := stepCounts (elapseToTick s)

end Sys2Proof.Machine
end

