-- ==== Sys2Proof/Machine/TickEvents.lean ====
section
/-! DEFINITION. Command: DECISECOND_TICK (00_scope.md, Time). -/

namespace Sys2Proof.Machine

/-- DECISECOND_TICK (R27 and every decisecond count): one step of each running count, its expiries left due (log entry
2). -/
def execDecisecondTick (s : State) : Outcome := .next (event tick s)

end Sys2Proof.Machine
end

