-- ==== Sys2Proof/Machine/Dispatch.lean ====
section
/-! DEFINITION. One arm per command: the direct call of its meaning. -/

namespace Sys2Proof.Machine

def exec (i : Instr) (s : State) : Host.Outcome State Fault Refusal :=
  match i with
  | .start straps phq prq quiet => Sys2Proof.Machine.execStart straps phq prq quiet s
  | .resetPinAssert => Sys2Proof.Machine.execResetPinAssert s
  | .configurationRead bytes => Sys2Proof.Machine.execConfigurationRead bytes s
  | .joinExpiry => Sys2Proof.Machine.execJoinExpiry s
  | .pressDeclared l k => Sys2Proof.Machine.execPressDeclared l k s
  | .releaseDeclared l k => Sys2Proof.Machine.execReleaseDeclared l k s
  | .aidClassification l k => Sys2Proof.Machine.execAidClassification l k s
  | .stuck l k => Sys2Proof.Machine.execStuck l k s
  | .blinkExpiry l => Sys2Proof.Machine.execBlinkExpiry l s
  | .flashCountdownExpiry l => Sys2Proof.Machine.execFlashCountdownExpiry l s
  | .minGreenExpiry l => Sys2Proof.Machine.execMinGreenExpiry l s
  | .startNear l => Sys2Proof.Machine.execStartNear l s
  | .amberExpiry l => Sys2Proof.Machine.execAmberExpiry l s
  | .allRedInExpiry l => Sys2Proof.Machine.execAllRedInExpiry l s
  | .walkExpiry l => Sys2Proof.Machine.execWalkExpiry l s
  | .clearanceExpiry l => Sys2Proof.Machine.execClearanceExpiry l s
  | .allRedOutExpiry l => Sys2Proof.Machine.execAllRedOutExpiry l s
  | .slotEndInExpiry l => Sys2Proof.Machine.execSlotEndInExpiry l s
  | .contestExpiry l => Sys2Proof.Machine.execContestExpiry l s
  | .transmissionStart => Sys2Proof.Machine.execTransmissionStart s
  | .arbitrationLoss => Sys2Proof.Machine.execArbitrationLoss s
  | .collisionError => Sys2Proof.Machine.execCollisionError s
  | .ownFrameCompleted => Sys2Proof.Machine.execOwnFrameCompleted s
  | .bidCompleted => Sys2Proof.Machine.execBidCompleted s
  | .keepCompleted => Sys2Proof.Machine.execKeepCompleted s
  | .cedeCompleted => Sys2Proof.Machine.execCedeCompleted s
  | .beaconCountdownExpiry => Sys2Proof.Machine.execBeaconCountdownExpiry s
  | .lineFault => Sys2Proof.Machine.execLineFault s
  | .lineClear => Sys2Proof.Machine.execLineClear s
  | .brokenFrame => Sys2Proof.Machine.execBrokenFrame s
  | .invalidFrameReceived bits => Sys2Proof.Machine.execInvalidFrameReceived bits s
  | .duplicateFrameReceived f => Sys2Proof.Machine.execDuplicateFrameReceived f s
  | .beaconReceived f => Sys2Proof.Machine.execBeaconReceived f s
  | .bidReceived f => Sys2Proof.Machine.execBidReceived f s
  | .keepReceived f => Sys2Proof.Machine.execKeepReceived f s
  | .cedeReceived f => Sys2Proof.Machine.execCedeReceived f s
  | .clearwayReceived f => Sys2Proof.Machine.execClearwayReceived f s
  | .clearEndReceived f => Sys2Proof.Machine.execClearEndReceived f s
  | .heardExpiry station => Sys2Proof.Machine.execHeardExpiry station s
  | .tableSlotExpiry station l => Sys2Proof.Machine.execTableSlotExpiry station l s
  | .burstDue l k => Sys2Proof.Machine.execBurstDue l k s
  | .soundingExpiry l k => Sys2Proof.Machine.execSoundingExpiry l k s
  | .beepEnd l k => Sys2Proof.Machine.execBeepEnd l k s
  | .envelopeStep l k => Sys2Proof.Machine.execEnvelopeStep l k s
  | .ambientWord l k value => Sys2Proof.Machine.execAmbientWord l k value s
  | .stalenessExpiry l k => Sys2Proof.Machine.execStalenessExpiry l k s
  | .quietInputChange high => Sys2Proof.Machine.execQuietInputChange high s
  | .phqRise => Sys2Proof.Machine.execPhqRise s
  | .phqFall => Sys2Proof.Machine.execPhqFall s
  | .prqRise => Sys2Proof.Machine.execPrqRise s
  | .prqFall => Sys2Proof.Machine.execPrqFall s
  | .clearwayRepeatExpiry => Sys2Proof.Machine.execClearwayRepeatExpiry s
  | .refreshExpiry station => Sys2Proof.Machine.execRefreshExpiry station s
  | .lampReadbackChange l lamp on => Sys2Proof.Machine.execLampReadbackChange l lamp on s
  | .mismatchExpiry l lamp => Sys2Proof.Machine.execMismatchExpiry l lamp s
  | .stat operands => Sys2Proof.Machine.execStat operands s
  | .leg operands => Sys2Proof.Machine.execLeg operands s
  | .tread operands => Sys2Proof.Machine.execTread operands s
  | .holders operands => Sys2Proof.Machine.execHolders operands s
  | .cnts operands => Sys2Proof.Machine.execCnts operands s
  | .fclr operands => Sys2Proof.Machine.execFclr operands s
  | .call operands => Sys2Proof.Machine.execCall operands s
  | .hold operands => Sys2Proof.Machine.execHold operands s
  | .quiet operands => Sys2Proof.Machine.execQuiet operands s
  | .flash operands => Sys2Proof.Machine.execFlash operands s
  | .resume operands => Sys2Proof.Machine.execResume operands s
  | .isol operands => Sys2Proof.Machine.execIsol operands s
  | .join operands => Sys2Proof.Machine.execJoin operands s
  | .rstrt operands => Sys2Proof.Machine.execRstrt operands s
  | .unknownCommand code operands => Sys2Proof.Machine.execUnknownCommand code operands s
  | .buttonSample l k high => Sys2Proof.Machine.execButtonSample l k high s
  | .decisecondTick => Sys2Proof.Machine.execDecisecondTick s
  | .startPulse recessive dominant => Sys2Proof.Machine.execStartPulse recessive dominant s

end Sys2Proof.Machine
end

