-- ==== Sys2Proof/Safety.lean ====
section
/-! DEFINITION. What holds of the part between commands: the invariants that the rules give its state, and the changes of leg
state that they allow. -/

namespace Sys2Proof.Machine

/-! ### The Crossing Table and the holders -/

/-- The table is in TREAD order with one record per crossing and at most 24 records (R60, R74), and a station's heard
countdown, at most 45 ds, runs exactly while it has a record (R71). -/
abbrev TableOk (s : State) : Prop :=
  s.table.Pairwise (fun a b => crossingKey a < crossingKey b) ∧
  s.table.length ≤ tableCapacity ∧
  s.heard.Pairwise (fun a b => a.station < b.station) ∧
  (∀ c ∈ s.table, ∃ h ∈ s.heard, h.station = c.station) ∧
  (∀ h ∈ s.heard, ∃ c ∈ s.table, c.station = h.station) ∧ (∀ h ∈ s.heard, h.left ≤ 45)

/-- The holders set has one entry per station (R142), each with at most 60 ds left, and STREET is present exactly while it is non-empty (R153). -/
abbrev HoldersOk (s : State) : Prop :=
  s.hold.holders.Pairwise (fun a b => a.station < b.station) ∧ s.hold.street = !s.hold.holders.isEmpty ∧
  (∀ h ∈ s.hold.holders, h.left ≤ 60)

/-- Without a configuration nothing foreign is held (R60, R142, R156), and a crossing with the own number is never held:
a frame with the own number is not dispatched (R57). -/
abbrev OwnNumberOk (s : State) : Prop :=
  (s.cfg = none → s.table = [] ∧ s.hold.holders = []) ∧
  (∀ c ∈ s.table, c.station ≠ (conf s).station) ∧
  (∀ h ∈ s.hold.holders, h.station ≠ (conf s).station)

/-! ### The station mode (R156) -/

/-- The causes that a mode allows (R156). -/
def causeAllowed : Mode → Cause → Bool
  | .start, .none | .listen, .none | .run, .none => true
  | .isolated, .line | .isolated, .duplicate | .isolated, .command => true
  | .flash, .config | .flash, .lamp | .flash, .conflict | .flash, .command => true
  | _, _ => false

/-- The mode, its cause, the fault check, the pending isolation, the join countdown and the configuration agree (R156,
R157, R160, R161, R165). -/
abbrev ModeOk (s : State) : Prop :=
  causeAllowed s.mode s.cause = true ∧
  (s.faultCheck ≠ .none ↔ s.cause = .config) ∧
  (s.isolation ≠ none → s.mode = .flash) ∧
  (s.join.running = true ↔ s.mode = .listen) ∧
  (s.cfg = none ↔ s.mode = .start ∨ s.cause = .config) ∧
  (s.reading = true → s.mode = .start) ∧
  (s.resetHeld = true → s.mode = .start ∧ s.reading = false)

/-! ### The Hold Unit's handshake -/

/-- PHA is high exactly when the hold side is acknowledged, which it is only while PHQ is high; the same of PRA, the release
side and PRQ (R142, R145 to R148). While the RESET pin is held the lines may move and nothing answers. -/
abbrev HandshakeOk (s : State) : Prop :=
  (s.hold.pha = true ↔ s.hold.side = .acknowledged) ∧
  (s.hold.pra = true ↔ s.hold.release = .acknowledged) ∧
  (s.resetHeld = false → (s.phq = true ↔ s.hold.side ≠ .idle) ∧ (s.prq = true ↔ s.hold.release ≠ .idle))

/-! ### The legs and the slots -/

/-- The leg states in which a leg can hold an own slot (R76). -/
def slotState : LegState → Bool
  | .claimed | .committed | .amber | .allRedIn | .walk | .clearance => true
  | _ => false

/-- A leg is in START while the station is, and for ever where it is not in use (R19, R20); it is in FLASH while the station
is and it is in use (R18). Its interval runs exactly in its timed states (R1); an own slot is held in no state before CLAIMED or
after CLEARANCE (R76, R96, R113), and none once the walk is cancelled (R13); the contest runs only on a claimed slot of a leg in
CLAIMED (R97, R98). -/
abbrev LegOk (s : State) (l : LegId) : Prop :=
  (legState s l = .start ↔ s.mode = .start ∨ inUse s l = false) ∧
  (legState s l = .flash ↔ s.mode = .flash ∧ inUse s l = true) ∧
  ((s.legs.get l).interval.running = true ↔ timedState (legState s l) = true) ∧
  ((slotOf s l).isSome = true → slotState (legState s l) = true) ∧
  ((s.legs.get l).walkCancelled = true → (legState s l = .amber ∨ legState s l = .allRedOut) ∧ slotOf s l = none) ∧
  ((s.slots.get l).contest.running = true → legState s l = .claimed ∧ (slotOf s l).any (fun x => decide (x.stage = .claimed)) = true)

/-- See `LegOk`; both legs. -/
abbrev LegsOk (s : State) : Prop := LegOk s .leg0 ∧ LegOk s .leg1

/-! ### The line -/

/-- The tx is a BID of the leg. -/
def sendsBid (s : State) (l : LegId) : Bool :=
  match s.line.tx with
  | some (.bid f) => decide (f.leg = l)
  | _ => false

/-- A pending bid exists only while its BID is in transmission (R77, R91, R93), a deferred list only beside a pending bid
(R96), and in START and ISOLATED nothing is queued or sent (R51, R54, R162). -/
abbrev LineOk (s : State) : Prop :=
  ((s.slots.get .leg0).bid.isSome = true → sendsBid s .leg0 = true) ∧
  ((s.slots.get .leg1).bid.isSome = true → sendsBid s .leg1 = true) ∧
  ((s.slots.get .leg0).deferred ≠ [] → (s.slots.get .leg0).bid.isSome = true) ∧
  ((s.slots.get .leg1).deferred ≠ [] → (s.slots.get .leg1).bid.isSome = true) ∧
  (s.mode = .start ∨ s.mode = .isolated → s.line.queue = Queue.empty ∧ s.line.tx = none)

/-! ### The lamps -/

/-- A lamp's mismatch countdown runs, or its failed mark is yes, exactly while its readback differs from its command
(R167). -/
abbrev LampOk (s : State) (l : LegId) (i : LampId) : Prop :=
  mismatched s l i = ((lampRec s l i).mismatch.running || (lampRec s l i).failed)

/-- Outside START all ten lamps are so, and no lamp both counts and has failed (R167). -/
abbrev LampsOk (s : State) : Prop :=
  (s.mode ≠ .start → ∀ l ∈ bothLegs, ∀ i ∈ allLamps, LampOk s l i) ∧
  (∀ l ∈ bothLegs, ∀ i ∈ allLamps, ¬((lampRec s l i).mismatch.running = true ∧ (lampRec s l i).failed = true))

/-! ### Changes of leg state (R5 to R19) -/

/-- Vehicle green is commanded (R2). -/
def greenShown : LegState → Bool
  | .rest | .called | .claimed | .committed | .held => true
  | _ => false

/-- The changes of leg state that one event can make, FLASH entry apart (R5 to R19). A placement in ISOLATED takes a leg
through CALLED to COMMITTED, and to AMBER where the start is near, within the event that makes it CALLED. -/
def legMove : LegState → LegState → Bool
  | .start, .allRedOut => true
  | .flash, .allRedOut => true
  | .rest, .called | .rest, .held | .rest, .committed | .rest, .amber => true
  | .called, .claimed | .called, .committed | .called, .amber | .called, .held => true
  | .claimed, .called | .claimed, .committed | .claimed, .amber | .claimed, .held => true
  | .committed, .amber | .committed, .held => true
  | .amber, .allRedIn | .amber, .allRedOut => true
  | .allRedIn, .walk | .allRedIn, .allRedOut => true
  | .walk, .clearance => true
  | .clearance, .allRedOut => true
  | .allRedOut, .rest | .allRedOut, .called | .allRedOut, .held | .allRedOut, .committed | .allRedOut, .amber => true
  | .held, .rest | .held, .called | .held, .committed | .held, .amber => true
  | _, _ => false

/-- The command begins START, or holds it: RESET_PIN_ASSERT, START, or an RSTRT that executes. -/
def restarts : Instr → Bool
  | .start _ _ _ _ | .resetPinAssert | .rstrt _ => true
  | .unknownCommand code _ => decide (commandOf code = some .rstrt)
  | _ => false

/-! ### What a command may change -/

/-- A part of State. -/
inductive Part where
  | resetHeld | reading | mode | cause | faultCheck | isolation | join | cfg | legs | buttons | calls | slots | table | heard
  | line | hold | kerbs | links | ambient | lamps | port | phq | prq | quietPin | quietInput | sinceTick | clock | choices
  | pending
  deriving DecidableEq, Repr

/-- The part is the same in both states. -/
def Part.same (p : Part) (s t : State) : Prop :=
  match p with
  | .resetHeld => t.resetHeld = s.resetHeld
  | .reading => t.reading = s.reading
  | .mode => t.mode = s.mode
  | .cause => t.cause = s.cause
  | .faultCheck => t.faultCheck = s.faultCheck
  | .isolation => t.isolation = s.isolation
  | .join => t.join = s.join
  | .cfg => t.cfg = s.cfg
  | .legs => t.legs = s.legs
  | .buttons => t.buttons = s.buttons
  | .calls => t.calls = s.calls
  | .slots => t.slots = s.slots
  | .table => t.table = s.table
  | .heard => t.heard = s.heard
  | .line => t.line = s.line
  | .hold => t.hold = s.hold
  | .kerbs => t.kerbs = s.kerbs
  | .links => t.links = s.links
  | .ambient => t.ambient = s.ambient
  | .lamps => t.lamps = s.lamps
  | .port => t.port = s.port
  | .phq => t.phq = s.phq
  | .prq => t.prq = s.prq
  | .quietPin => t.quietPin = s.quietPin
  | .quietInput => t.quietInput = s.quietInput
  | .sinceTick => t.sinceTick = s.sinceTick
  | .clock => t.clock = s.clock
  | .choices => t.choices = s.choices
  | .pending => t.pending = s.pending

/-- Every part but those listed is the same in t as in s. -/
def ChangesOnly (ps : List Part) (s t : State) : Prop := ∀ p, p ∉ ps → p.same s t

/-- What every event may change: the instant, and what it settles (R146, R167). -/
def settledParts : List Part := [.clock, .hold, .lamps]

/-- What an entry into ISOLATED may change (R162). -/
def isolationParts : List Part := [.mode, .cause, .isolation, .join, .legs, .slots, .table, .heard, .line, .hold, .port, .choices]

/-- What an entry into FLASH may change (R164). -/
def flashParts : List Part := [.mode, .cause, .isolation, .join, .legs, .calls, .slots, .line, .hold, .kerbs, .links, .port]

/-- What a change of the hold source set may change (R143). -/
def holdParts : List Part := [.legs, .slots, .line, .hold, .kerbs, .links, .port, .choices]

/-- What a classified press may change (R29 to R33). -/
def pressParts : List Part := [.legs, .calls, .slots, .line, .kerbs, .links, .port]

/-- What START may change (R157, R170). -/
def startParts : List Part :=
  [.resetHeld, .reading, .mode, .cause, .faultCheck, .isolation, .join, .cfg, .legs, .buttons, .calls, .slots, .table, .heard,
   .line, .hold, .kerbs, .links, .ambient, .lamps, .port, .phq, .prq, .quietPin, .quietInput, .clock]

/-- What a received frame may change: the table, the slots and legs in conflict, the holders, the counters, and what an
entry into ISOLATED changes (R56 to R58). -/
def frameParts : List Part := isolationParts ++ holdParts

/-- What a maintenance command may change beside the reply. -/
def portParts : PortCommand → List Part
  | .stat | .leg | .tread | .holders | .cnts | .fclr | .quiet => []
  | .call => pressParts
  | .hold => holdParts
  | .flash => flashParts
  | .resume => isolationParts ++ [.kerbs, .links]
  | .isol => isolationParts
  | .join => [.mode, .cause, .isolation, .join, .line, .hold]
  | .rstrt => startParts

/-- The parts that a command may change, beside those of `settledParts`. -/
def commandParts : Instr → List Part
  | .start _ _ _ _ | .resetPinAssert => startParts
  | .configurationRead _ => [.reading, .faultCheck, .cfg, .ambient] ++ flashParts
  | .joinExpiry => [.mode, .join, .line]
  | .pressDeclared _ _ => [.buttons]
  | .releaseDeclared _ _ | .aidClassification _ _ | .buttonSample _ _ _ => .buttons :: pressParts
  | .stuck _ _ => [.buttons, .port]
  | .blinkExpiry _ => [.calls]
  | .flashCountdownExpiry _ | .minGreenExpiry _ | .startNear _ | .amberExpiry _ => [.legs]
  | .allRedInExpiry _ => [.legs, .calls, .slots, .line, .kerbs, .links]
  | .walkExpiry _ => [.legs, .kerbs, .links]
  | .clearanceExpiry _ => [.legs, .slots, .kerbs, .links]
  | .allRedOutExpiry _ => [.legs, .slots, .line, .port]
  | .slotEndInExpiry _ => [.slots]
  | .contestExpiry _ => [.legs, .slots, .line]
  | .transmissionStart => [.slots, .line]
  | .arbitrationLoss => [.slots, .line]
  | .collisionError | .lineFault => isolationParts
  | .ownFrameCompleted => [.line]
  | .bidCompleted => [.legs, .slots, .line, .port]
  | .keepCompleted => [.slots, .line]
  | .cedeCompleted => [.line]
  | .beaconCountdownExpiry => [.line]
  | .lineClear => [.mode, .cause, .isolation, .join, .line]
  | .brokenFrame => [.line]
  | .beaconReceived _ | .bidReceived _ | .keepReceived _ | .cedeReceived _ => isolationParts
  | .invalidFrameReceived _ | .duplicateFrameReceived _ | .clearwayReceived _ | .clearEndReceived _ => frameParts
  | .heardExpiry _ => [.table, .heard]
  | .tableSlotExpiry _ _ => [.table]
  | .burstDue _ _ | .soundingExpiry _ _ | .beepEnd _ _ => [.kerbs, .links, .sinceTick]
  | .envelopeStep _ _ => [.kerbs]
  | .ambientWord _ _ _ => [.ambient]
  | .stalenessExpiry _ _ => [.ambient, .port]
  | .quietInputChange _ => [.quietPin, .quietInput]
  | .phqRise | .phqFall => .phq :: holdParts
  | .prqRise | .prqFall => .prq :: holdParts
  | .clearwayRepeatExpiry => [.line]
  | .refreshExpiry _ => holdParts
  | .lampReadbackChange _ _ _ | .mismatchExpiry _ _ => flashParts
  | .stat _ => .port :: portParts .stat
  | .leg _ => .port :: portParts .leg
  | .tread _ => .port :: portParts .tread
  | .holders _ => .port :: portParts .holders
  | .cnts _ => .port :: portParts .cnts
  | .fclr _ => .port :: portParts .fclr
  | .call _ => .port :: portParts .call
  | .hold _ => .port :: portParts .hold
  | .quiet _ => .port :: portParts .quiet
  | .flash _ => .port :: portParts .flash
  | .resume _ => .port :: portParts .resume
  | .isol _ => .port :: portParts .isol
  | .join _ => .port :: portParts .join
  | .rstrt _ => .port :: portParts .rstrt
  | .unknownCommand code _ =>
    match commandOf code with
    | none => [.port]
    | some c => .port :: portParts c
  | .decisecondTick => [.join, .legs, .buttons, .calls, .slots, .table, .heard, .line, .hold, .kerbs, .links, .ambient, .lamps, .sinceTick]
  | .startPulse _ _ => isolationParts

/-! ### When a command has an effect (log entry 1) -/

/-- The condition a command's rule puts on the state: the expiry is due, the frame is in transmission, the input is active.
A command whose condition does not hold changes nothing. -/
def occurs (i : Instr) (s : State) : Bool :=
  match i with
  | .configurationRead _ => s.reading
  | .joinExpiry => s.join.due
  | .pressDeclared l k => pressReady s l k
  | .releaseDeclared l k => releaseReady s l k
  | .aidClassification l k => aidReached s l k
  | .stuck l k => stuckReached s l k
  | .blinkExpiry l => (s.calls.get l).blink.due
  | .flashCountdownExpiry l => (s.legs.get l).flash.due
  | .minGreenExpiry l => (s.legs.get l).minGreen.due
  | .startNear l => decide (legState s l = .committed) && startIsNear s l
  | .amberExpiry l => intervalDone s l .amber
  | .allRedInExpiry l => intervalDone s l .allRedIn
  | .walkExpiry l => intervalDone s l .walk
  | .clearanceExpiry l => intervalDone s l .clearance
  | .allRedOutExpiry l => intervalDone s l .allRedOut
  | .slotEndInExpiry l => slotOver s l
  | .contestExpiry l => decide (legState s l = .claimed) && (s.slots.get l).contest.due
  | .transmissionStart => maySend s
  | .arbitrationLoss | .collisionError => s.line.tx.isSome
  | .ownFrameCompleted => sendsPlain s
  | .bidCompleted => (bidInFlight s).isSome
  | .keepCompleted => (keepInFlight s).isSome
  | .cedeCompleted => (cedeInFlight s).isSome
  | .beaconCountdownExpiry => s.line.beacon.due
  | .heardExpiry st => heardOver s st.toNat
  | .tableSlotExpiry st l => foreignOver s st.toNat l
  | .burstDue l k => burstReady s l k
  | .soundingExpiry l k => decide ((kerbOf s l k).sounding ≠ 0)
  | .beepEnd l k => (kerbOf s l k).beepLeft.running
  | .envelopeStep l k => (kerbOf s l k).step.due
  | .ambientWord l _ v => served s l && decide (v.toNat ≤ 120)
  | .stalenessExpiry l k => (ambientOf s l k).staleness.due
  | .quietInputChange high => s.quietInput != high
  | .phqRise => !s.phq
  | .phqFall => s.phq
  | .prqRise => !s.prq
  | .prqFall => s.prq
  | .clearwayRepeatExpiry => s.hold.clearway.due
  | .refreshExpiry st => refreshOver s st.toNat
  | .mismatchExpiry l i => (lampRec s l i).mismatch.due
  | .buttonSample l _ _ => served s l
  | _ => true

/-! ### The parameter table (00_scope.md, Configuration parameters; R159) -/

/-- A leg's parameters lie in their ranges, relations among them. -/
def LegConfig.inRange (c : LegConfig) : Prop :=
  (50 ≤ c.gmin ∧ c.gmin ≤ 600) ∧ (30 ≤ c.amber ∧ c.amber ≤ 50) ∧ (10 ≤ c.rin ∧ c.rin ≤ 50) ∧ (40 ≤ c.walk ∧ c.walk ≤ 300) ∧
  c.ext ≤ 100 ∧ (30 ≤ c.clear ∧ c.clear ≤ 300) ∧ (10 ≤ c.rout ∧ c.rout ≤ 50) ∧ (200 ≤ c.maxWait ∧ c.maxWait ≤ 1200) ∧
  (40 ≤ c.wmin ∧ c.wmin ≤ c.walk) ∧ (30 ≤ c.kp ∧ c.kp ≤ c.clear) ∧ c.band ≤ 5

/-- The station's parameters lie in their ranges, the level relations of R139 among them. -/
def StationConfig.inRange (c : StationConfig) : Prop :=
  c.station ≤ 15 ∧ c.position ≤ 2047 ∧ c.radius ≤ 255 ∧ c.coupling ≤ 255 ∧ c.clearwayRange ≤ 2047 ∧ c.join ≤ 100 ∧ c.guard ≤ 50 ∧
  (8 ≤ c.aidHold ∧ c.aidHold ≤ 20) ∧ (40 ≤ c.ref ∧ c.ref ≤ 80) ∧ c.base ≤ 11 ∧ c.floor ≤ c.ceiling ∧ c.ceiling ≤ 11 ∧
  (c.floor ≤ c.nightcap ∧ c.nightcap ≤ 11) ∧ (c.floor ≤ c.isocap ∧ c.isocap ≤ 11) ∧ c.locoffset ≤ 4 ∧ c.boost ≤ 3 ∧
  (c.envStep = 5 ∨ c.envStep = 10) ∧ c.koff ≤ 7 ∧ LegConfig.inRange c.leg0 ∧ (∀ x, c.leg1 = some x → LegConfig.inRange x)

/-! ### Shorthands of the statements -/

/-- The state with its clock one instant on. -/
def later (s : State) : State := { s with clock := s.clock + 1 }

/-- The state with one button record replaced. -/
def withButton (l : LegId) (k : Side) (b : Button) (s : State) : State :=
  { s with buttons := s.buttons.set l ((s.buttons.get l).set k b) }

/-- The state with one leg record replaced. -/
def withLeg (l : LegId) (r : LegRec) (s : State) : State := { s with legs := s.legs.set l r }

/-- The state with a reply in the buffer. -/
def withReply (bytes : List Byte) (s : State) : State := { s with port := { s.port with reply := some bytes } }

/-- The command of the table that a maintenance command is, with the QUIET pin's level at its write. -/
def portInstr (c : PortCommand) (ops : List Byte) (quiet : Bool) : Instr :=
  match c with
  | .stat => .stat ops
  | .leg => .leg ops
  | .tread => .tread ops
  | .holders => .holders ops
  | .cnts => .cnts ops
  | .fclr => .fclr ops
  | .call => .call ops
  | .hold => .hold ops
  | .quiet => .quiet ops
  | .flash => .flash ops
  | .resume => .resume ops
  | .isol => .isol ops
  | .join => .join ops
  | .rstrt => .rstrt { bytes := ops, quiet := quiet }

/-- The station takes the frame that ends now: RESET is not held, frames are taken, and the monitor is not waiting one out
(R44, R55). -/
def listening (s : State) : Prop := s.resetHeld = false ∧ takesFrames s = true ∧ s.line.monitor ≠ .waiting

end Sys2Proof.Machine
end

