-- ==== Sys2Proof/Certificates/Slice0/Obligations.lean ====
section
/-! DEFINITION. The statements about this model that are to be proved. Unless a statement says otherwise, the RESET pin is not
held (`resetHeld = false`), and "settled" means after `settle`: the hold side against the legs (R146) and the lamps against
their commands (R167), of which `Obligations.EveryEventSettles` speaks. -/

open Sys2Proof Sys2Proof.Machine

/-! ## Steps, START and the configuration -/

/-- The front command of the queue runs, on the state with the rest of the queue; with no command waiting the state stays
(the model's choice: log entry 4). -/
def Obligations.StepRunsFrontCommand : Prop :=
  (∀ (c : Instr) (rest : List Instr) (s : State), s.pending = c :: rest → step s = exec c { s with pending := rest }) ∧
  (∀ s : State, s.pending = [] → step s = .next s)

/-- What every block holds right after power-on (R1, R21, R26, R37, R41, R50, R52, R59, R60, R76, R96, R115, R132, R142, R156, R167,
R184), with a stop word for each kerb on the links (R129). Beside the spec's values it states choices of the model: the reset state is
the state after START, its configuration read in flight (log entry 8); the count of a countdown that the spec gives as stopped alone is
0 (log entry 19); the bit monitor is idle (log entry 12); and `walkAid` and `late`, fields of the model's own, are no and 0 (log entries
20 and 3). Of the levels of the input pins, the model's choice too (log entry 7), nothing is said but how the Hold Unit follows them. -/
def Obligations.ResetStateValues : Prop :=
  let s := State.reset
  let stopped : Countdown := { running := false, count := 0 }
  s.resetHeld = false ∧ s.mode = .start ∧ s.cause = .none ∧ s.faultCheck = .none ∧ s.isolation = none ∧
  s.join = stopped ∧ s.cfg = none ∧ s.reading = true ∧
  (∀ l, s.legs.get l = { state := .start, interval := stopped, minGreen := stopped, walkElapsed := 0, walkLength := 0,
                         walkCancelled := false, clearanceCut := false, walkAid := false,
                         flashOn := true, flash := { running := true, count := 5 } }) ∧
  (∀ l k, buttonOf s l k = { input := .released, pressCount := 0, releaseCount := 0, heldTime := 0, classified := false }) ∧
  (∀ l, s.calls.get l = { call := none, blinkOn := true, blink := { running := false, count := 3 } }) ∧
  (∀ l, s.slots.get l = { slot := none, bid := none, contest := stopped, challengers := [], deferred := [] }) ∧
  s.table = [] ∧ s.heard = [] ∧
  s.line = { queue := { legs := { leg0 := none, leg1 := none }, beacon := none, clear := none }, tx := none, monitor := .idle,
             faulted := false, beacon := stopped, collisions := 0, arbLoss := 0, collision := 0, crcErr := 0, formatErr := 0 } ∧
  s.hold = { preempt := s.phq, street := false, maint := false, holders := [], side := if s.phq then .waiting else .idle,
             release := if s.prq then .spent else .idle, pha := false, pra := false, clearway := stopped } ∧
  (∀ l k, kerbOf s l k = { pattern := .silent, phase := stopped, late := 0, sounding := 0, shadow := 0, envelope := 0, step := stopped,
                           beep := .none, beepLeft := stopped }) ∧
  (∀ l, (s.links.get l).words = [{ kerb := .a, tone := .locator, band := 0, level := 0, length := 0 },
                                 { kerb := .b, tone := .locator, band := 0, level := 0, length := 0 }]) ∧
  (∀ l k, ambientOf s l k = { average := none, staleness := stopped, stale := false }) ∧
  (∀ l i, (lampRec s l i).mismatch = stopped ∧ (lampRec s l i).failed = false) ∧
  s.port.reply = none ∧ s.port.flags = 0#14 ∧ s.port.quietMode = .follow

/-- START, from any state (R157, R170), and the RESET pin held (R157): every block takes its START values, with the hold and
release sides as PHQ and PRQ read (R142): PREEMPT and a waiting hold side where PHQ is high, a spent release side where PRQ is, both
acknowledge lines low and the sets empty; the straps are read (R172), and the QUIET pin sampled (R136); the line watch is normal (R41),
no lamp is failed or counting and the readback levels stay (R167); each kerb gets a stop word (R129). Beside the spec's words it states
choices of the model: the straps and levels are operands of START (log entry 22); the stop words carry level 0 from any state, the
configuration being discarded first (log entry 9); while the pin is held no read is in progress, no word is on the links and the strap
value is kept (log entry 10), and the QUIET pin stands at the level last told of it (log entry 21); stopped counts are 0 (log entry 19)
and `walkAid` is no (log entry 20). -/
def Obligations.StartAndResetPin : Prop :=
  ∀ (straps : BitVec 2) (phq prq quiet : Bool) (s : State),
    let stopped : Countdown := { running := false, count := 0 }
    let asAtStart := fun (phq prq : Bool) (t : State) =>
      t.mode = .start ∧ t.cause = .none ∧ t.faultCheck = .none ∧ t.isolation = none ∧ t.join = stopped ∧ t.cfg = none ∧ t.table = [] ∧
      t.heard = [] ∧ (∀ l, t.legs.get l = LegRec.atStart ∧ t.calls.get l = CallRec.atStart ∧ t.slots.get l = SlotRec.atStart) ∧
      (∀ l k, buttonOf t l k = Button.atStart ∧ kerbOf t l k = Kerb.atStart ∧ ambientOf t l k = Ambient.atStart) ∧
      t.hold = { preempt := phq, street := false, maint := false, holders := [], side := if phq then .waiting else .idle,
                 release := if prq then .spent else .idle, pha := false, pra := false, clearway := stopped } ∧
      t.phq = phq ∧ t.prq = prq ∧ t.line.queue = Queue.empty ∧ t.line.tx = none ∧ t.line.faulted = false ∧ t.line.beacon = stopped ∧
      t.line.collisions = 0 ∧ t.line.arbLoss = 0 ∧ t.line.collision = 0 ∧ t.line.crcErr = 0 ∧ t.line.formatErr = 0 ∧
      (∀ l i, lampRec t l i = { readback := (lampRec s l i).readback, mismatch := stopped, failed := false }) ∧
      t.pending = s.pending ∧ t.choices = s.choices
    (∃ t, exec (.start straps phq prq quiet) s = .next t ∧ asAtStart phq prq t ∧
      t.resetHeld = false ∧ t.reading = true ∧ t.quietPin = quiet ∧ t.quietInput = quiet ∧
      (∀ l, (t.links.get l).words = [BurstWord.stop .a 0, BurstWord.stop .b 0]) ∧
      t.port = { straps := straps, reply := none, flags := 0, quietMode := .follow }) ∧
    (∃ t, exec .resetPinAssert s = .next t ∧ asAtStart s.phq s.prq t ∧
      t.resetHeld = true ∧ t.reading = false ∧ t.quietPin = s.quietPin ∧ t.quietInput = s.quietPin ∧
      (∀ l, (t.links.get l).words = []) ∧
      t.port = { straps := s.port.straps, reply := none, flags := 0, quietMode := .follow })

/-- While the RESET pin is held the part takes no event (R157): every command but START and RESET_PIN_ASSERT leaves everything
as it is, save the levels of the PHQ, PRQ and readback inputs themselves. -/
def Obligations.ResetHeldTakesNoEvent : Prop :=
  ∀ (c : Instr) (s : State), s.resetHeld = true → (∀ a b d e, c ≠ .start a b d e) → c ≠ .resetPinAssert →
    ∃ t, exec c s = .next t ∧ t = { s with phq := t.phq, prq := t.prq, lamps := t.lamps } ∧
      (∀ l i, lampRec t l i = { lampRec s l i with readback := (lampRec t l i).readback }) ∧
      (c ≠ .phqRise → c ≠ .phqFall → t.phq = s.phq) ∧ (c ≠ .prqRise → c ≠ .prqFall → t.prq = s.prq) ∧
      ((∀ l i on, c ≠ .lampReadbackChange l i on) → t.lamps = s.lamps)

/-- A configuration read that ends with an image passing the checks of R158 (R160, R161): the configuration is loaded and the
station enters LISTEN; each leg in use goes to ALL_RED_OUT with Rout, its kerbs to LOCATOR, tracked with 20 ds; leg 1 of a
one-leg station stays in START with its flash countdown stopped; a BEACON is queued; CFG_CLAMPED is set where a field was
clamped. Where PREEMPT is present and the clearway range is above 0, a CLEARWAY is queued and its repeat countdown loaded with 20 ds
(R149, R154); otherwise neither. The state is one of START as START leaves it, with no conflict sensed on a leg. -/
def Obligations.ConfigurationReadLoads : Prop :=
  ∀ (bytes : List Byte) (s : State), s.resetHeld = false → s.reading = true → imageFault bytes = .none →
    (∀ l, conflictSensed (s.lamps.get l) = false) → (∀ l, (s.legs.get l).state = .start) →
    (∀ l k, (kerbOf s l k).pattern = .silent) →
    ∃ t, exec (.configurationRead bytes) s = .next t ∧
      t.cfg = some (loadImage bytes) ∧ t.mode = .listen ∧ t.cause = .none ∧ t.reading = false ∧
      t.join = { running := true, count := 30 } ∧ t.line.beacon = { running := true, count := 10 } ∧
      t.line.queue.beacon.isSome = true ∧ t.line.queue.legs = s.line.queue.legs ∧
      (s.hold.preempt = true → 0 < (loadImage bytes).clearwayRange →
        t.line.queue.clear = some { kind := .clearway, stamp := s.clock + 1, sending := false } ∧
        t.hold.clearway = { running := true, count := 20 }) ∧
      (s.hold.preempt = false ∨ (loadImage bytes).clearwayRange = 0 →
        t.line.queue.clear = s.line.queue.clear ∧ t.hold.clearway = s.hold.clearway) ∧
      t.hold.preempt = s.hold.preempt ∧ t.hold.street = s.hold.street ∧ t.hold.maint = s.hold.maint ∧
      (∀ l, inUse t l = true →
        t.legs.get l = { s.legs.get l with state := .allRedOut, interval := { running := true, count := (legConf t l).rout },
                                           flash := { (s.legs.get l).flash with running := false } } ∧
        (∀ k, (kerbOf t l k).pattern = .locator ∧ ambientOf t l k = { ambientOf s l k with staleness := { running := true, count := 20 } })) ∧
      (inUse t .leg1 = false →
        t.legs.leg1 = { s.legs.leg1 with flash := { s.legs.leg1.flash with running := false } } ∧
        t.kerbs.leg1 = s.kerbs.leg1 ∧ t.ambient.leg1 = s.ambient.leg1) ∧
      t.port.flags = (if imageClamped bytes then s.port.flags ||| flagBit .cfgClamped else s.port.flags) ∧
      ChangesOnly [.clock, .hold, .lamps, .reading, .cfg, .mode, .cause, .join, .line, .legs, .kerbs, .links, .ambient, .port] s t

/-- A configuration read that fails a check of R158 (R160, R18, R128): FLASH with cause CONFIG, the fault check recorded,
CFG_FAULT set, no isolation pending, both legs in FLASH, calls and slots cleared and the kerbs silent, each with a stop word, kerb A's
first. A conflict sensed at that event sets CONFLICT as well and changes no mode (R169). That this entry into FLASH loads no beacon
countdown and queues no BEACON, R52 letting the countdown run under a valid configuration alone, is the model's choice (log entry 30). -/
def Obligations.ConfigurationReadFaults : Prop :=
  ∀ (bytes : List Byte) (s : State), s.resetHeld = false → s.reading = true → s.cfg = none → imageFault bytes ≠ .none →
    ∃ t, exec (.configurationRead bytes) s = .next t ∧
      t.mode = .flash ∧ t.cause = .config ∧ t.faultCheck = imageFault bytes ∧ t.isolation = none ∧ t.cfg = none ∧
      t.reading = false ∧ t.line = s.line ∧
      (∀ l, t.legs.get l = { s.legs.get l with
        state := .flash, flashOn := true, flash := { running := true, count := 5 }, interval := { running := false, count := 0 },
        minGreen := { running := false, count := 0 }, walkElapsed := 0, walkCancelled := false, clearanceCut := false }) ∧
      (∀ l, callOf t l = none ∧ slotOf t l = none ∧ (t.slots.get l).contest.running = false) ∧
      (∀ l k, (kerbOf t l k).pattern = .silent ∧ (kerbOf t l k).phase.running = false) ∧
      (∀ l, (t.links.get l).words = (s.links.get l).words ++ [BurstWord.stop .a 0, BurstWord.stop .b 0]) ∧
      t.port.flags = s.port.flags ||| flagBit .cfgFault |||
        (if conflictSensed s.lamps.leg0 || conflictSensed s.lamps.leg1 then flagBit .conflict else 0#14)

/-- Whatever image passes the checks of R158, the loaded configuration lies in the ranges of the parameter table, with the
relations of R139 and R159 among its fields. -/
def Obligations.LoadedConfigurationInRange : Prop :=
  ∀ img : List Byte, imageFault img = .none → StationConfig.inRange (loadImage img)

/-- The join countdown expires (R161): RUN, and a BID request queued for each leg in use that is in CALLED. -/
def Obligations.JoinExpiryEntersRun : Prop :=
  ∀ s : State, s.resetHeld = false → s.join = { running := true, count := 0 } → s.cfg.isSome = true →
    ∃ t, exec .joinExpiry s = .next t ∧ t.mode = .run ∧ t.join = { running := false, count := 0 } ∧
      (∀ l, t.line.queue.legs.get l =
        if inUse s l = true ∧ legState s l = .called then some { kind := .bid, stamp := s.clock, sending := false }
        else s.line.queue.legs.get l) ∧
      t.line = { s.line with queue := { s.line.queue with legs := t.line.queue.legs } } ∧
      ChangesOnly [.mode, .join, .line, .hold, .lamps] s t

/-! ## Buttons, calls and lamps -/

/-- A sample of an active input that declares no release (R22, R23): a released input counts high samples and starts afresh on
a low one, and the fourth declares a press; a held or stuck one counts low samples and starts afresh on a high one.
PRESS_DECLARED is the fourth high sample. -/
def Obligations.ButtonSamplesCount : Prop :=
  ∀ (l : LegId) (k : Side) (s : State), s.resetHeld = false → served s l = true →
    let b := buttonOf s l k
    (b.input = .released →
      exec (.buttonSample l k false) s = .next (settle (withButton l k { b with pressCount := 0 } (later s))) ∧
      (b.pressCount < 3 →
        exec (.buttonSample l k true) s = .next (settle (withButton l k { b with pressCount := b.pressCount + 1 } (later s)))) ∧
      (b.pressCount = 3 →
        let held : Button := { input := .held, pressCount := 0, releaseCount := 0, heldTime := 0, classified := false }
        exec (.buttonSample l k true) s = .next (settle (withButton l k held (later s))) ∧
        exec (.pressDeclared l k) s = .next (settle (withButton l k held (later s))))) ∧
    (b.input ≠ .released →
      exec (.buttonSample l k true) s = .next (settle (withButton l k { b with releaseCount := 0 } (later s))) ∧
      (b.releaseCount < 3 →
        exec (.buttonSample l k false) s = .next (settle (withButton l k { b with releaseCount := b.releaseCount + 1 } (later s)))))

/-- A release declared, an aid classification and a stuck mark (R23, R24, R25). The fourth low sample of a held or stuck input is
the release. A release before Ta hands the Call List a plain press; one after the press was classified, or of a stuck input, hands
nothing on. Held time reaching Ta hands it an aid press; held time reaching 600 ds marks the input stuck and sets STUCK. -/
def Obligations.ReleaseAidAndStuck : Prop :=
  ∀ (l : LegId) (k : Side) (s : State), s.resetHeld = false → served s l = true →
    let b := buttonOf s l k
    let released : Button := { input := .released, pressCount := 0, releaseCount := 0, heldTime := 0, classified := false }
    (b.releaseCount = 3 →
      (b.input ≠ .released → exec (.buttonSample l k false) s = exec (.releaseDeclared l k) s) ∧
      (b.input = .stuck ∨ (b.input = .held ∧ b.classified = true ∧ b.heldTime < 600) →
        exec (.releaseDeclared l k) s = .next (settle (withButton l k released (later s)))) ∧
      (b.input = .held → b.classified = false → b.heldTime < (conf s).aidHold → b.heldTime < 600 →
        exec (.releaseDeclared l k) s = .next (settle (takePress l k .plain (withButton l k released (later s))).1))) ∧
    (b.input = .held → b.classified = false → b.heldTime = (conf s).aidHold →
      exec (.aidClassification l k) s = .next (settle (takePress l k .aid (withButton l k { b with classified := true } s)).1)) ∧
    (b.input = .held → b.heldTime = 600 →
      exec (.stuck l k) s = .next (settle (setFlag .stuck (withButton l k { b with input := .stuck } s))))

/-- What the Call List does with a classified press, by the leg's state (R29 to R34). A latched call starts at waited 0 with the
press's kind and kerb; an upgrade changes the kind alone; an aid call blinks from its on phase (R37). In CALLED the leg is reported
for its slot (R29, R30): a BID request in RUN, its placement at once in ISOLATED, committed and with URGENT where it is urgent (R79,
R94), and nothing else in another mode; that a request which renews one that waits is marked as such is the model's way to R95 (log
entry 35). An aid press in an aid walk restarts the envelope of each kerb on WALK (R124). Then the aid
upgrade of an announced plain slot (R111): it becomes aid, X longer, in the band that R89 gives for its length; the contest and the
call's leg go on; and a KEEP is queued, every told mark no. Before that the other leg's slot is looked at (R112): two claimed aid
slots that collide with guard leave the lower key; a claimed normal slot yields to one past its contest; two past it set
DOUBLE_COMMIT; a slot that yields is ceded with a CEDE (R104). While the other leg's BID is on the line the look is deferred (R107). -/
def Obligations.PressOutcomes : Prop :=
  (∀ (l : LegId) (k : Side) (kind : Kind) (s : State),
    let r := s.calls.get l
    let newCall : CallRec :=
      { call := some { kind := kind, waited := 0, firstKerb := k }
        blinkOn := if kind = .aid then true else r.blinkOn
        blink := if kind = .aid then { running := true, count := 3 } else r.blink }
    let aidCall : CallRec :=
      { call := r.call.map (fun c => { c with kind := .aid }), blinkOn := true, blink := { running := true, count := 3 } }
    let latched : State := { s with calls := s.calls.set l newCall }
    let upgraded : State := { s with calls := s.calls.set l aidCall }
    let upgrades := kind = .aid ∧ ∃ c, r.call = some c ∧ c.kind = .plain
    let st := legState s l
    (st = .rest → takePress l k kind s =
      (triggerBeep l k kind (requestSlot l { latched with legs := s.legs.set l { s.legs.get l with state := .called } }), .latched)) ∧
    (st = .called → (upgrades → takePress l k kind s = (triggerBeep l k .aid (requestSlot l upgraded), .upgraded)) ∧
      (¬upgrades → takePress l k kind s = (triggerBeep l k kind s, .unchanged))) ∧
    (st = .claimed ∨ st = .committed ∨ st = .amber ∨ st = .allRedIn →
      (upgrades → takePress l k kind s = (triggerBeep l k .aid (aidUpgrade l upgraded), .upgraded)) ∧
      (¬upgrades → takePress l k kind s = (triggerBeep l k kind s, .unchanged))) ∧
    (st = .walk →
      (kind = .plain → takePress l k kind s = (s, .ignored)) ∧
      (kind = .aid → (s.legs.get l).walkAid = true → takePress l k kind s = (resetEnvelope l .b (resetEnvelope l .a s), .envelope)) ∧
      (kind = .aid → (s.legs.get l).walkAid = false → r.call = none → takePress l k kind s = (latched, .latched)) ∧
      (kind = .aid → (s.legs.get l).walkAid = false → r.call ≠ none → takePress l k kind s = (s, .unchanged))) ∧
    (st = .clearance ∨ st = .allRedOut ∨ st = .held →
      (r.call = none → takePress l k kind s = (triggerBeep l k kind latched, .latched)) ∧
      (upgrades → takePress l k kind s = (triggerBeep l k .aid upgraded, .upgraded)) ∧
      (r.call ≠ none → ¬upgrades → takePress l k kind s = (triggerBeep l k kind s, .unchanged))) ∧
    (st = .start ∨ st = .flash → takePress l k kind s = (s, .ignored))) ∧
  (∀ (l : LegId) (x : Slot) (s : State), slotOf s l = some x → x.aid = false →
    let o := otherLeg l
    let t := aidUpgrade l s
    let ends := x.endIn + (legConf s l).ext
    let up : Slot := { x with aid := true, endIn := ends, band := aidBand s l x.startIn (ends - x.startIn) }
    let bandClash := ∃ e ∈ exclusionList s l, e.startIn < ends ∧ x.startIn < e.endIn ∧ e.band = up.band
    let ceded := fun (m : LegId) => slotOf t m = none ∧ legState t m = (if legState s m = .claimed then .called else legState s m) ∧
      (acceptsAny s = true → t.line.queue.legs.get m = some { kind := .cede, stamp := s.clock, sending := false })
    let stands := (∃ band, slotOf t l = some { up with band := band }) ∧ (¬bandClash → slotOf t l = some up) ∧
      t.legs.get l = s.legs.get l ∧ (t.slots.get l).contest = (s.slots.get l).contest ∧
      (t.slots.get l).challengers = (s.slots.get l).challengers.map (fun c => { c with told := false }) ∧
      (acceptsLeg s .keep = true → t.line.queue.legs.get l = some { kind := .keep, stamp := s.clock, sending := false })
    let otherStands := ∀ y, slotOf s o = some y → ∃ band, slotOf t o = some { y with band := band }
    let doubles := flagSet t .doubleCommit
    ((s.slots.get o).bid.isSome = true →
      stands ∧ otherStands ∧ (t.slots.get o).deferred = (s.slots.get o).deferred ++ [.upgrade] ∧ doubles = flagSet s .doubleCommit) ∧
    ((s.slots.get o).bid = none →
      ((∀ y, slotOf s o = some y → y.aid = true → collideGuard (conf s).guard up y = false) →
        stands ∧ otherStands ∧ doubles = flagSet s .doubleCommit) ∧
      (∀ y, slotOf s o = some y → y.aid = true → collideGuard (conf s).guard up y = true →
        (x.stage = .claimed → y.stage = .claimed → doubles = flagSet s .doubleCommit ∧
          (keyLt (ownKey s o y) (ownKey s l x) = true → ceded l ∧ otherStands) ∧
          (keyLt (ownKey s o y) (ownKey s l x) = false → stands ∧ ceded o)) ∧
        (x.stage = .claimed → y.stage ≠ .claimed → doubles = flagSet s .doubleCommit ∧
          (x.urgent = false → ceded l ∧ otherStands) ∧ (x.urgent = true → stands ∧ otherStands)) ∧
        (x.stage ≠ .claimed → y.stage = .claimed → doubles = flagSet s .doubleCommit ∧
          (y.urgent = false → stands ∧ ceded o) ∧ (y.urgent = true → stands ∧ otherStands)) ∧
        (x.stage ≠ .claimed → y.stage ≠ .claimed → stands ∧ otherStands ∧ doubles = true)))) ∧
  (∀ (l : LegId) (s : State),
    let t := requestSlot l s
    (s.mode = .run → s.cfg.isSome = true → ∃ e, e.kind = .bid ∧ e.stamp = s.clock ∧ e.sending = false ∧
      t = { s with line := { s.line with queue := { s.line.queue with legs := s.line.queue.legs.set l (some e) } } }) ∧
    (s.mode ≠ .isolated → s.mode ≠ .run ∨ s.cfg = none → t = s) ∧
    (∀ c, s.mode = .isolated → legState s l = .called → callOf s l = some c →
      slotOf t l = some (slotOfBid (place s l c) .committed) ∧ t.legs = s.legs.set l { s.legs.get l with state := .committed } ∧
      t.slots.get (otherLeg l) = s.slots.get (otherLeg l) ∧
      t.port = (if (place s l c).urgent then { s.port with flags := s.port.flags ||| flagBit .urgent } else s.port) ∧
      ChangesOnly [.legs, .slots, .port] s t)) ∧
  (∀ (l : LegId) (k : Side) (s : State),
    ((kerbOf s l k).pattern ≠ .walk → resetEnvelope l k s = s) ∧
    ((kerbOf s l k).pattern = .walk →
      let r : Kerb := { kerbOf s l k with envelope := min (combinedCap s) (kerbLevel s l k + (conf s).boost),
                                          step := { running := true, count := (conf s).envStep } }
      resetEnvelope l k s = { s with kerbs := s.kerbs.set l ((s.kerbs.get l).set k r) }))

/-- Countdowns that reload or stop. The blink, flash and min-green countdowns (R37, R3, R4): the phase changes and 3 ds, or 5 ds,
are loaded; min green stops at 0. The step countdown (R122): the envelope falls by 1 where it is above Lk, and E is loaded. The
staleness countdown (R135): the kerb is stale, AMBIENT_STALE is set, the average is kept. -/
def Obligations.CountdownsReloadOrStop : Prop :=
  ∀ (l : LegId) (k : Side) (s : State), s.resetHeld = false →
    ((s.calls.get l).blink = { running := true, count := 0 } →
      let r : CallRec := { s.calls.get l with blinkOn := !(s.calls.get l).blinkOn, blink := { running := true, count := 3 } }
      exec (.blinkExpiry l) s = .next (settle { s with calls := s.calls.set l r })) ∧
    ((s.legs.get l).flash = { running := true, count := 0 } →
      exec (.flashCountdownExpiry l) s = .next (settle (withLeg l
        { s.legs.get l with flashOn := !(s.legs.get l).flashOn, flash := { running := true, count := 5 } } s))) ∧
    ((s.legs.get l).minGreen = { running := true, count := 0 } →
      exec (.minGreenExpiry l) s = .next (settle (withLeg l
        { s.legs.get l with minGreen := { running := false, count := 0 } } s))) ∧
    ((kerbOf s l k).step = { running := true, count := 0 } →
      let r : Kerb :=
        { kerbOf s l k with
          envelope := if kerbLevel s l k < (kerbOf s l k).envelope then (kerbOf s l k).envelope - 1 else (kerbOf s l k).envelope
          step := { running := true, count := (conf s).envStep } }
      exec (.envelopeStep l k) s = .next (settle { s with kerbs := s.kerbs.set l ((s.kerbs.get l).set k r) })) ∧
    ((ambientOf s l k).staleness = { running := true, count := 0 } →
      let r : Ambient := { ambientOf s l k with stale := true, staleness := { running := false, count := 0 } }
      exec (.stalenessExpiry l k) s = .next (settle { s with
        ambient := s.ambient.set l ((s.ambient.get l).set k r),
        port := { s.port with flags := s.port.flags ||| flagBit .ambientStale } }))

/-! ## The service cycle -/

/-- A COMMITTED leg whose slot's start is at most A + Rin away enters AMBER with A and min green 0 (R7). At AMBER expiry it
goes to ALL_RED_IN with Rin, or to ALL_RED_OUT with Rout where the walk was cancelled (R8, R13). -/
def Obligations.AmberEntryAndExpiry : Prop :=
  ∀ (l : LegId) (s : State), s.resetHeld = false →
    (∀ x, legState s l = .committed → slotOf s l = some x → x.startIn ≤ (legConf s l).amber + (legConf s l).rin →
      exec (.startNear l) s = .next (settle (withLeg l
        { s.legs.get l with state := .amber, minGreen := { running := false, count := 0 },
                            interval := { running := true, count := (legConf s l).amber } } s))) ∧
    (legState s l = .amber → (s.legs.get l).interval = { running := true, count := 0 } →
      ((s.legs.get l).walkCancelled = false →
        exec (.amberExpiry l) s = .next (settle (withLeg l
          { s.legs.get l with state := .allRedIn, interval := { running := true, count := (legConf s l).rin } } s))) ∧
      ((s.legs.get l).walkCancelled = true →
        exec (.amberExpiry l) s = .next (settle (withLeg l
          { s.legs.get l with state := .allRedOut, interval := { running := true, count := (legConf s l).rout },
                              flash := { (s.legs.get l).flash with running := false } } s))))

/-- ALL_RED_IN expires (R9). In RUN or ISOLATED with no hold source the walk starts: W, or W + X where the own slot is aid; the
call is consumed; the slot is running, from 0 to the walk and K; the kerbs go to WALK for an aid walk and stay on LOCATOR for
a plain one. Otherwise the walk is skipped: ALL_RED_OUT with Rout, the slot withdrawn, the call kept. The other leg keeps its
leg record, call, slot and kerbs. -/
def Obligations.AllRedInExpiryWalksOrSkips : Prop :=
  ∀ (l : LegId) (s : State), s.resetHeld = false → legState s l = .allRedIn →
    (s.legs.get l).interval = { running := true, count := 0 } → (∀ k, (kerbOf s l k).pattern = .locator) →
    let aid := (slotOf s l).any Slot.aid
    let len := (legConf s l).walk + (if aid then (legConf s l).ext else 0)
    ∃ t, exec (.allRedInExpiry l) s = .next t ∧
      ((s.mode = .run ∨ s.mode = .isolated) → held s = false →
        t.legs.get l = { s.legs.get l with state := .walk, interval := { running := true, count := len }, walkElapsed := 0,
                                           walkLength := len, walkAid := aid } ∧
        callOf t l = none ∧
        slotOf t l = (slotOf s l).map (fun x => { x with stage := .running, startIn := 0, endIn := len + (legConf s l).clear }) ∧
        (∀ k, (kerbOf t l k).pattern = if aid then .walk else .locator) ∧ t.line = s.line) ∧
      (¬((s.mode = .run ∨ s.mode = .isolated) ∧ held s = false) →
        t.legs.get l = { s.legs.get l with state := .allRedOut, interval := { running := true, count := (legConf s l).rout },
                                           flash := { (s.legs.get l).flash with running := false } } ∧
        callOf t l = callOf s l ∧ slotOf t l = none ∧ t.kerbs = s.kerbs ∧
        ((slotOf s l).isSome = true → acceptsAny s = true →
          t.line.queue.legs.get l = some { kind := .cede, stamp := s.clock, sending := false })) ∧
      t.legs.get (otherLeg l) = s.legs.get (otherLeg l) ∧ t.calls.get (otherLeg l) = s.calls.get (otherLeg l) ∧
      t.slots.get (otherLeg l) = s.slots.get (otherLeg l) ∧ t.kerbs.get (otherLeg l) = s.kerbs.get (otherLeg l) ∧
      ChangesOnly [.legs, .calls, .slots, .line, .kerbs, .links, .hold, .lamps] s t

/-- WALK and CLEARANCE expire (R10). WALK: CLEARANCE with K, or Kp where clearance cut is yes, which becomes no; the flash phase
on with 5 ds; after an aid walk the kerbs go to CLEARANCE. CLEARANCE: ALL_RED_OUT with Rout, the kerbs to LOCATOR, the own slot
gone. The other leg keeps its records. -/
def Obligations.WalkAndClearanceExpiry : Prop :=
  ∀ (l : LegId) (p : Pattern) (s : State), s.resetHeld = false → (s.legs.get l).interval = { running := true, count := 0 } →
    (∀ k, (kerbOf s l k).pattern = p) →
    (legState s l = .walk → ∃ t, exec (.walkExpiry l) s = .next t ∧
      t.legs.get l = { s.legs.get l with
        state := .clearance, clearanceCut := false, flashOn := true, flash := { running := true, count := 5 },
        interval := { running := true, count := if (s.legs.get l).clearanceCut then (legConf s l).kp else (legConf s l).clear } } ∧
      (∀ k, (kerbOf t l k).pattern = if (s.legs.get l).walkAid then .clearance else p) ∧
      t.legs.get (otherLeg l) = s.legs.get (otherLeg l) ∧ t.kerbs.get (otherLeg l) = s.kerbs.get (otherLeg l) ∧
      ChangesOnly [.legs, .kerbs, .links, .hold, .lamps] s t) ∧
    (legState s l = .clearance → ∃ t, exec (.clearanceExpiry l) s = .next t ∧
      t.legs.get l = { s.legs.get l with state := .allRedOut, interval := { running := true, count := (legConf s l).rout },
                                         flash := { (s.legs.get l).flash with running := false } } ∧
      (∀ k, (kerbOf t l k).pattern = .locator) ∧ slotOf t l = none ∧
      t.legs.get (otherLeg l) = s.legs.get (otherLeg l) ∧ t.kerbs.get (otherLeg l) = s.kerbs.get (otherLeg l) ∧
      t.slots.get (otherLeg l) = s.slots.get (otherLeg l) ∧ ChangesOnly [.legs, .slots, .kerbs, .links, .hold, .lamps] s t)

/-- ALL_RED_OUT expires (R11, R4, R5): HELD under a hold, otherwise CALLED with a call, otherwise REST; walk cancelled is no
and min green is loaded with Gmin. A leg that enters CALLED asks for a slot: a BID request in RUN; in ISOLATED it is placed and
committed at once. -/
def Obligations.AllRedOutExpiryChoosesGreen : Prop :=
  ∀ (l : LegId) (s : State), s.resetHeld = false → legState s l = .allRedOut →
    (s.legs.get l).interval = { running := true, count := 0 } →
    let green := fun st => { s.legs.get l with state := st, interval := { running := false, count := 0 }, walkCancelled := false,
                                               minGreen := { running := true, count := (legConf s l).gmin } }
    (held s = true → exec (.allRedOutExpiry l) s = .next (settle (withLeg l (green .held) s))) ∧
    (held s = false → callOf s l = none → exec (.allRedOutExpiry l) s = .next (settle (withLeg l (green .rest) s))) ∧
    (∀ c, held s = false → callOf s l = some c →
      (s.mode ≠ .isolated →
        exec (.allRedOutExpiry l) s = .next (settle (enqueueLeg l .bid (withLeg l (green .called) s)))) ∧
      (s.mode = .isolated → ∃ t, exec (.allRedOutExpiry l) s = .next t ∧ legState t l = .committed ∧
        slotOf t l = some (slotOfBid (place (withLeg l (green .called) s) l c) .committed) ∧
        (t.legs.get l).minGreen = { running := true, count := (legConf s l).gmin } ∧ t.line = s.line))

/-! ## Slots -/

/-- An own slot at its end goes, with its contest and challengers (R76, R96). A contest that expires commits the slot and the
leg (R98, R6), which enters AMBER at once where the start is already near (R7); with challengers a KEEP is queued and every
told mark is no. -/
def Obligations.SlotEndAndContestExpiry : Prop :=
  ∀ (l : LegId) (x : Slot) (s : State), s.resetHeld = false → slotOf s l = some x →
    (x.endIn = 0 →
      let r : SlotRec := { s.slots.get l with slot := none, contest := { running := false, count := 0 }, challengers := [] }
      exec (.slotEndInExpiry l) s = .next (settle { s with slots := s.slots.set l r })) ∧
    (legState s l = .claimed → (s.slots.get l).contest = { running := true, count := 0 } →
      ∃ t, exec (.contestExpiry l) s = .next t ∧ slotOf t l = some { x with stage := .committed } ∧
        (t.slots.get l).contest = { running := false, count := 0 } ∧
        legState t l = (if x.startIn ≤ (legConf s l).amber + (legConf s l).rin then .amber else .committed) ∧
        (t.slots.get l).challengers = (s.slots.get l).challengers.map (fun c => { c with told := false }) ∧
        ((s.slots.get l).challengers = [] → t.line = s.line) ∧
        ((s.slots.get l).challengers ≠ [] → acceptsLeg s .keep = true →
          t.line.queue.legs.get l = some { kind := .keep, stamp := s.clock, sending := false }) ∧
        t.legs.get (otherLeg l) = s.legs.get (otherLeg l) ∧ t.slots.get (otherLeg l) = s.slots.get (otherLeg l) ∧
        ChangesOnly [.legs, .slots, .line, .hold, .lamps] s t)

/-- The exclusion scan (R86) with as many passes as it is given ends at the earliest start, at or after the one it begins
with, that collides with no entry of the list. -/
def Obligations.ScanFindsEarliestClearStart : Prop :=
  ∀ (guard len start : Nat) (xs : List Excl),
    let found := scan guard len xs (xs.length + 1) start
    start ≤ found ∧ (∀ x ∈ xs, collides guard len found x = false) ∧
    (∀ other, start ≤ other → (∀ x ∈ xs, collides guard len other x = false) → found ≤ other)

/-- What a placement gives (R81 to R90). The exclusion list holds the acoustic neighbours' and the own other leg's aid slots with
an end above 0. The call is urgent exactly where it has waited M, or, for an aid call, where every start from S0 to Smax collides
with the list; an urgent start is S0. A normal plain start is the smallest candidate in the coupling window, or S0; a normal aid
start is the earliest from S0 that collides with nothing. The end lies L after the start; the rank is that of R88. A plain slot
takes the preferred band; an aid slot the preferred one if no slot of the list that overlaps it has it, otherwise the lowest free
one; where all six are used the preferred one, unless the own other leg's overlapping slot has that: then the lowest other. -/
def Obligations.PlacementResult : Prop :=
  ∀ (s : State) (l : LegId) (c : Call),
    let b := place s l c
    let s0 := earliestStart s l
    let latest := max s0 ((legConf s l).maxWait - c.waited)
    let len := slotLength (legConf s l) c.kind
    let pref := (legConf s l).band
    let clear := fun start => ∀ x ∈ exclusionList s l, collides (conf s).guard len start x = false
    let candidate := fun start =>
      (∃ n ∈ s.table, distance n.position (conf s).position ≤ (conf s).coupling ∧ ∃ x, n.slot = some x ∧ x.startIn = start) ∨
      (∃ x, slotOf s (otherLeg l) = some x ∧ x.startIn = start)
    let inWindow := fun start => s0 ≤ start ∧ start ≤ min (s0 + (conf s).join) latest
    let used := fun band => ∃ x ∈ exclusionList s l, x.startIn < b.endIn ∧ b.startIn < x.endIn ∧ x.band = band
    s0 = max (s.legs.get l).minGreen.count 5 + (legConf s l).amber + (legConf s l).rin ∧
    (∀ x, x ∈ exclusionList s l ↔
      (∃ n ∈ s.table, acoustic s n.position n.radius = true ∧ ∃ y, n.slot = some y ∧ y.aid = true ∧ 0 < y.endIn ∧
        x = { startIn := y.startIn, endIn := y.endIn, band := y.band, key := foreignKey n.station n.leg y }) ∨
      (∃ y, slotOf s (otherLeg l) = some y ∧ y.aid = true ∧ 0 < y.endIn ∧
        x = { startIn := y.startIn, endIn := y.endIn, band := y.band, key := ownKey s (otherLeg l) y })) ∧
    b.endIn = b.startIn + len ∧ (b.aid = true ↔ c.kind = .aid) ∧ b.rank = 31 - min 31 (32 * c.waited / (legConf s l).maxWait) ∧
    (b.urgent = true ↔ (legConf s l).maxWait ≤ c.waited ∨
      (c.kind = .aid ∧ ∀ start, s0 ≤ start → start ≤ latest → ¬clear start)) ∧
    (b.urgent = true → b.startIn = s0) ∧
    (b.urgent = false → s0 ≤ b.startIn ∧ b.startIn ≤ latest ∧
      (c.kind = .plain → (∀ start, candidate start → inWindow start → candidate b.startIn ∧ inWindow b.startIn ∧ b.startIn ≤ start) ∧
        ((∀ start, candidate start → ¬inWindow start) → b.startIn = s0)) ∧
      (c.kind = .aid → clear b.startIn ∧ ∀ start, s0 ≤ start → clear start → b.startIn ≤ start)) ∧
    (c.kind = .plain → b.band = pref) ∧
    (c.kind = .aid →
      (¬used pref → b.band = pref) ∧
      (used pref → ∀ band, band < 6 → ¬used band → (∀ lower, lower < band → used lower) → b.band = band) ∧
      (used pref → (∀ band, band < 6 → used band) →
        ((∃ y, slotOf s (otherLeg l) = some y ∧ y.aid = true ∧ y.startIn < b.endIn ∧ b.startIn < y.endIn ∧ y.band = pref) →
          b.band = if pref = 0 then 1 else 0) ∧
        (¬(∃ y, slotOf s (otherLeg l) = some y ∧ y.aid = true ∧ y.startIn < b.endIn ∧ b.startIn < y.endIn ∧ y.band = pref) →
          b.band = pref)))

/-! ## The street line -/

/-- The head of the queue (R50): there is one exactly while a request is queued; it is a queued request of the lowest queue
class, the oldest of those; of two legs' requests that tie, leg 0's. The classes are 0 for a clearway request, 1 for a BID whose leg's
call has waited M, 2 for a KEEP, 3 for a CEDE, 4 for any other BID and 5 for a BEACON. -/
def Obligations.QueueHeadIsFirst : Prop :=
  ∀ s : State,
    let queued := fun (h : Head) (at_ : Nat) =>
      match h with
      | .leg l k => ∃ e, s.line.queue.legs.get l = some e ∧ e.kind = k ∧ e.stamp = at_
      | .beacon => ∃ e, s.line.queue.beacon = some e ∧ e.stamp = at_
      | .clear k => ∃ e, s.line.queue.clear = some e ∧ e.kind = k ∧ e.stamp = at_
    let cls := fun (h : Head) =>
      match h with
      | .clear _ => 0
      | .leg l .bid => match callOf s l with | some c => if (legConf s l).maxWait ≤ c.waited then 1 else 4 | none => 4
      | .leg _ .keep => 2
      | .leg _ .cede => 3
      | .beacon => 5
    (headOf s = none ↔ s.line.queue = { legs := { leg0 := none, leg1 := none }, beacon := none, clear := none }) ∧
    (∀ h, headOf s = some h → ∃ at_, queued h at_ ∧
      ∀ r since, queued r since →
        cls h < cls r ∨ (cls h = cls r ∧ at_ ≤ since) ∧
          (∀ k j, h = .leg .leg1 k → r = .leg .leg0 j → ¬(cls h = cls r ∧ at_ = since)))

/-- A transmission starts (R53, R46 to R49, R91) where no own frame is in transmission and the line watch is normal. With
nothing queued nothing begins; a head that fails its check is dropped and the next is checked: BID and KEEP go out in RUN alone, a BID
for a leg in CALLED (one without a call fails too, in states that no run reaches: log entry 25), a KEEP for a leg with an own slot, the
other kinds in LISTEN, FLASH and RUN. One that passes is marked and its frame, built from the state as it stands, goes out with the
fields of R46 to R49. A BID's placement becomes the pending bid. Where an aid upgrade renewed the leg's request at this very instant,
the frame is that of the request it replaced, and the renewed one waits unmarked (R95, R51; that the event just before counts as this
instant is the model's choice: log entry 35). -/
def Obligations.TransmissionStarts : Prop :=
  ∀ s : State, s.resetHeld = false → s.line.tx = none → s.line.faulted = false →
    let runs := s.cfg.isSome = true ∧ s.mode = .run
    let sends := s.cfg.isSome = true ∧ (s.mode = .listen ∨ s.mode = .flash ∨ s.mode = .run)
    let passes := fun (h : Head) =>
      match h with
      | .leg l .bid => runs ∧ legState s l = .called ∧ callOf s l ≠ none
      | .leg l .keep => runs ∧ slotOf s l ≠ none
      | .leg _ .cede => sends
      | .beacon => sends
      | .clear _ => sends
    let dropped : Head → Queue := fun h =>
      match h with
      | .leg l _ => { s.line.queue with legs := s.line.queue.legs.set l none }
      | .beacon => { s.line.queue with beacon := none }
      | .clear _ => { s.line.queue with clear := none }
    let station := BitVec.ofNat 4 (conf s).station
    let position := BitVec.ofNat 11 (conf s).position
    let radius := BitVec.ofNat 8 (conf s).radius
    let range := BitVec.ofNat 11 (conf s).clearwayRange
    let stage := fun (x : Slot) => match x.stage with | .claimed => 1#2 | .committed => 2#2 | .running => 3#2
    let phase := fun (l : LegId) =>
      match legState s l with
      | .start => 0#4 | .rest => 1#4 | .called => 2#4 | .claimed => 3#4 | .committed => 4#4 | .amber => 5#4 | .allRedIn => 6#4
      | .walk => 7#4 | .clearance => 8#4 | .allRedOut => 9#4 | .held => 10#4 | .flash => 11#4
    let legBlock : LegId → LegBlock := fun l =>
      match slotOf s l with
      | none => { phase := phase l, stage := 0, startIn := 0, endIn := 0, aid := false, band := 0, keyNormal := false, rank := 0 }
      | some x => { phase := phase l, stage := stage x, startIn := BitVec.ofNat 12 x.startIn, endIn := BitVec.ofNat 12 x.endIn,
                    aid := x.aid, band := BitVec.ofNat 3 x.band, keyNormal := !x.urgent, rank := BitVec.ofNat 5 x.rank }
    (headOf s = none → exec .transmissionStart s = .next (settle (later s))) ∧
    (∀ h, headOf s = some h → ¬passes h →
      exec .transmissionStart s = exec .transmissionStart { s with line := { s.line with queue := dropped h } }) ∧
    (∀ h, headOf s = some h → passes h → ∃ t, exec .transmissionStart s = .next t ∧
      (∀ l, h = .leg l .bid → ∃ c, callOf s l = some c ∧
        (let b := place s l c
        t.line.tx = some (.bid { station := station, leg := l, urgent := b.urgent, rank := BitVec.ofNat 5 b.rank, position := position,
                                 radius := radius, startIn := BitVec.ofNat 12 b.startIn, endIn := BitVec.ofNat 12 b.endIn,
                                 aid := b.aid, band := BitVec.ofNat 3 b.band }) ∧
        t.slots = s.slots.set l { s.slots.get l with bid := some b, deferred := [] })) ∧
      (∀ l, h = .leg l .keep → ∃ x, slotOf s l = some x ∧ t.slots = s.slots ∧
        t.line.tx = some (.keep { station := station, leg := l, position := position, radius := radius, stage := stage x,
                                  startIn := BitVec.ofNat 12 x.startIn, endIn := BitVec.ofNat 12 x.endIn, aid := x.aid,
                                  band := BitVec.ofNat 3 x.band, keyNormal := !x.urgent, rank := BitVec.ofNat 5 x.rank })) ∧
      (∀ l, h = .leg l .cede → t.line.tx = some (.cede { station := station, leg := l }) ∧ t.slots = s.slots) ∧
      (h = .beacon → t.slots = s.slots ∧
        t.line.tx = some (.beacon { station := station, position := position, radius := radius, block0 := legBlock .leg0,
                                    block1 := if inUse s .leg1 then some (legBlock .leg1) else none }) ∧
        t.line.queue = { s.line.queue with beacon := s.line.queue.beacon.map (fun e => { e with sending := true }) }) ∧
      (∀ k, h = .clear k → t.slots = s.slots ∧
        t.line.tx = some (match k with
          | .clearway => .clearway { station := station, position := position, range := range }
          | .clearEnd => .clearEnd { station := station, position := position, range := range }) ∧
        t.line.queue = { s.line.queue with clear := s.line.queue.clear.map (fun e => { e with sending := true }) }) ∧
      (∀ l k, h = .leg l k → t.line.queue = { s.line.queue with
        legs := s.line.queue.legs.set l ((s.line.queue.legs.get l).map (fun e =>
          if e.renews = true ∧ e.stamp = s.clock then { e with renews := false } else { e with sending := true })) }) ∧
      ChangesOnly [.clock, .slots, .line, .hold, .lamps] s t)

/-- The own frame is lost (R43, R44, R54, R93): it stops, its request is kept, no pending bid remains and the counter
advances to at most 65535. A collision advances the consecutive count as well; the third in a row is a duplicate station number, and
DUPLICATE is set: in LISTEN or RUN the station is ISOLATED with cause DUPLICATE; in FLASH it stays, and the pending isolation becomes
DUPLICATE unless it is DUPLICATE or COMMAND already (R165). -/
def Obligations.LostFramesKeepTheirRequest : Prop :=
  ∀ s : State, s.resetHeld = false → s.line.tx.isSome = true →
    let kept := s.line.queue.rest
    let noBid := s.slots.map (fun r => { r with bid := none, deferred := [] })
    let collided : Line := { s.line with tx := none, queue := kept, monitor := .waiting, collision := min 65535 (s.line.collision + 1) }
    exec .arbitrationLoss s = .next (settle { later s with
      slots := noBid, line := { s.line with tx := none, queue := kept, monitor := .receiving, arbLoss := min 65535 (s.line.arbLoss + 1) } }) ∧
    (s.line.collisions < 2 →
      exec .collisionError s = .next (settle { later s with
        slots := noBid, line := { collided with collisions := s.line.collisions + 1 } })) ∧
    (2 ≤ s.line.collisions → (s.mode = .listen ∨ s.mode = .run) → ∃ t, exec .collisionError s = .next t ∧
      t.mode = .isolated ∧ t.cause = .duplicate ∧ t.line.collision = min 65535 (s.line.collision + 1) ∧ t.line.collisions = 0 ∧
      t.line.tx = none ∧ t.line.queue = Queue.empty ∧ t.table = [] ∧
      flagSet t .duplicate = true ∧ flagSet t .isolated = true) ∧
    (2 ≤ s.line.collisions → s.mode = .flash → exec .collisionError s = .next (settle { later s with
      slots := noBid, line := { collided with collisions := 3 }
      port := { s.port with flags := s.port.flags ||| flagBit .duplicate }
      isolation := if s.isolation = none ∨ s.isolation = some .line then some .duplicate else s.isolation }))

/-- An own frame completes (R45): the collision count is cleared and the request goes, unless it was superseded. A BEACON or
clearway frame is reported to nobody. A BID of a leg in CALLED becomes its claimed slot with a contest of 5 ds, and the leg is
CLAIMED (R92, R97), URGENT set for an urgent one; where the call became aid while a plain BID was on the line, the slot is made aid
at once, X longer, and a KEEP takes the place of the upgrade's BID request (R97, R111). Of a leg that has left CALLED, a CEDE is
queued. A KEEP leaves every challenger told (R103). A CEDE of a leg in CALLED queues a BID (R105). These BID clauses are for no deferred
entry, no slot of the other leg and no foreign crossing. An entry deferred while the BID was on the line is taken against the new
claimed slot (R97 step 3, R107): a frame in conflict by R102 and R103, so that the slot is ceded with a CEDE, or stands with the sender
a challenger and a KEEP; an upgrade of the other leg by the same-station check (R112), which may cede either slot, or let both stand,
their bands then kept apart where they can be (R109). -/
def Obligations.OwnFramesComplete : Prop :=
  ∀ s : State, s.resetHeld = false →
    let done : Line := { s.line with tx := none, monitor := .idle, collisions := 0, queue := s.line.queue.dropSent }
    (sendsPlain s = true → exec .ownFrameCompleted s = .next (settle { later s with line := done })) ∧
    (∀ l, keepInFlight s = some l →
      let r : SlotRec := { s.slots.get l with challengers := (s.slots.get l).challengers.map (fun c => { c with told := true }) }
      exec .keepCompleted s = .next (settle { later s with line := done, slots := s.slots.set l r })) ∧
    (∀ l, cedeInFlight s = some l →
      (legState s l ≠ .called → exec .cedeCompleted s = .next (settle { later s with line := done })) ∧
      (legState s l = .called → exec .cedeCompleted s = .next (settle (enqueueLeg l .bid { later s with line := done })))) ∧
    (∀ l b, bidInFlight s = some l → (s.slots.get l).bid = some b →
      (legState s l ≠ .called →
        let r : SlotRec := { s.slots.get l with bid := none, deferred := [] }
        exec .bidCompleted s = .next (settle (enqueueLeg l .cede { later s with line := done, slots := s.slots.set l r }))) ∧
      (∀ c, legState s l = .called → callOf s l = some c → (b.aid = true ↔ c.kind = .aid) → (s.slots.get l).deferred = [] →
        s.table = [] → slotOf s (otherLeg l) = none → ∃ t, exec .bidCompleted s = .next t ∧
        t.slots = s.slots.set l (
          let x : Slot := { startIn := b.startIn, endIn := b.endIn, aid := b.aid, band := b.band, urgent := b.urgent, rank := b.rank,
                            stage := .claimed }
          { slot := some x, bid := none, contest := { running := true, count := 5 }, challengers := [], deferred := [] }) ∧
        t.legs = s.legs.set l { s.legs.get l with state := .claimed } ∧ t.line = done ∧
        t.port = (if b.urgent then { s.port with flags := s.port.flags ||| flagBit .urgent } else s.port) ∧
        ChangesOnly [.clock, .legs, .slots, .line, .port, .hold, .lamps] s t) ∧
      (∀ c, legState s l = .called → callOf s l = some c → b.aid = false → c.kind = .aid → (s.slots.get l).deferred = [] →
        s.table = [] → slotOf s (otherLeg l) = none → (s.slots.get (otherLeg l)).bid = none → ∃ t, exec .bidCompleted s = .next t ∧
        t.slots = s.slots.set l (
          let x : Slot := { startIn := b.startIn, endIn := b.endIn + (legConf s l).ext, aid := true, band := (legConf s l).band,
                            urgent := b.urgent, rank := b.rank, stage := .claimed }
          { slot := some x, bid := none, contest := { running := true, count := 5 }, challengers := [], deferred := [] }) ∧
        t.legs = s.legs.set l { s.legs.get l with state := .claimed } ∧
        (s.mode = .run → s.cfg.isSome = true → t.line = { done with queue := { done.queue with
          legs := done.queue.legs.set l (some { kind := .keep, stamp := s.clock + 1, sending := false }) } }) ∧
        (s.mode ≠ .run → t.line = done) ∧
        t.port = (if b.urgent then { s.port with flags := s.port.flags ||| flagBit .urgent } else s.port) ∧
        ChangesOnly [.clock, .legs, .slots, .line, .port, .hold, .lamps] s t) ∧
      (∀ call, legState s l = .called → callOf s l = some call → call.kind = .aid → b.aid = true → s.table = [] → s.mode = .run →
        s.cfg.isSome = true →
        let o := otherLeg l
        let x : Slot := { startIn := b.startIn, endIn := b.endIn, aid := true, band := b.band, urgent := b.urgent, rank := b.rank,
                          stage := .claimed }
        let queued := fun (t : State) (m : LegId) k => t.line.queue.legs.get m = some { kind := k, stamp := s.clock + 1, sending := false }
        let ceded := fun (t : State) (m : LegId) (st : LegState) =>
          t.slots.get m = { s.slots.get m with
            slot := none, contest := { running := false, count := 0 }, challengers := []
            bid := if m = l then none else (s.slots.get m).bid
            deferred := if m = l then [] else (s.slots.get m).deferred } ∧ legState t m = st ∧ queued t m .cede
        (∀ c, (s.slots.get l).deferred = [.frame c] → slotOf s o = none → ∃ t, exec .bidCompleted s = .next t ∧
          let hit := acoustic s c.position c.radius = true ∧ c.slot.aid = true ∧ 0 < c.slot.endIn ∧
            c.slot.startIn < x.endIn + (conf s).guard ∧ x.startIn < c.slot.endIn + (conf s).guard
          let claim := c.isBid = true ∨ c.slot.stage = .claimed
          let yields := (claim ∧ keyLt (foreignKey c.station c.leg c.slot) (ownKey s l x) = true) ∨ (¬claim ∧ x.urgent = false)
          let stands := fun cs => legState t l = .claimed ∧
            t.slots.get l = { slot := some x, bid := none, contest := { running := true, count := 5 }, challengers := cs, deferred := [] }
          (¬hit → stands [] ∧ t.line = done) ∧
          (hit → yields → ceded t l .called) ∧
          (hit → ¬yields → stands [{ station := c.station, leg := c.leg, told := false }] ∧ queued t l .keep)) ∧
        (∀ y, (s.slots.get l).deferred = [.upgrade] → slotOf s o = some y → y.aid = true →
          y.startIn < x.endIn + (conf s).guard → x.startIn < y.endIn + (conf s).guard → ∃ t, exec .bidCompleted s = .next t ∧
          let oState := if legState s o = .claimed then .called else legState s o
          let stands := ∃ band, slotOf t l = some { x with band := band } ∧ legState t l = .claimed
          let otherStands := (∃ band, slotOf t o = some { y with band := band }) ∧ legState t o = legState s o
          (y.stage = .claimed → keyLt (ownKey s o y) (ownKey s l x) = true → ceded t l .called ∧ otherStands) ∧
          (y.stage = .claimed → keyLt (ownKey s o y) (ownKey s l x) = false → stands ∧ ceded t o oState) ∧
          (y.stage ≠ .claimed → x.urgent = false → ceded t l .called ∧ otherStands) ∧
          (y.stage ≠ .claimed → x.urgent = true → stands ∧ otherStands))))

/-- The repeating countdowns expire (R52, R149): the beacon countdown queues a BEACON, unless one is queued, and is loaded with
10 ds; the clearway repeat countdown queues a CLEARWAY in place of any clearway request and is loaded with 20 ds. -/
def Obligations.RepeatCountdownsQueueFrames : Prop :=
  ∀ s : State, s.resetHeld = false → acceptsAny s = true →
    (s.line.beacon = { running := true, count := 0 } →
      exec .beaconCountdownExpiry s = .next (settle { s with line := { s.line with
        beacon := { running := true, count := 10 },
        queue := { s.line.queue with beacon := some (s.line.queue.beacon.getD { kind := (), stamp := s.clock, sending := false }) } } })) ∧
    (s.hold.clearway = { running := true, count := 0 } →
      exec .clearwayRepeatExpiry s = .next (settle { s with
        hold := { s.hold with clearway := { running := true, count := 20 } },
        line := { s.line with queue := { s.line.queue with
          clear := some { kind := .clearway, stamp := s.clock, sending := false } } } }))

/-- The line watch (R41). A line fault stops the own frame, sets LINE_FAULT and takes a station in LISTEN or RUN to ISOLATED
with cause LINE (R162); in ISOLATED mode and cause stay as they are (R163); in FLASH it becomes the pending isolation LINE where none
was pending (R165); with the watch already faulted it changes nothing. A line clear makes the watch normal: it takes an ISOLATED station with cause LINE to LISTEN (R163), and removes a
pending isolation LINE in FLASH (R165); elsewhere nothing more changes. -/
def Obligations.LineWatch : Prop :=
  ∀ s : State, s.resetHeld = false →
    (s.cfg.isSome = true → s.line.faulted = false → (s.mode = .listen ∨ s.mode = .run) → ∃ t, exec .lineFault s = .next t ∧
      t.mode = .isolated ∧ t.cause = .line ∧ t.join.running = false ∧ t.line.faulted = true ∧ t.line.tx = none ∧
      t.line.queue = Queue.empty ∧ t.line.beacon.running = false ∧ t.table = [] ∧ t.heard = [] ∧
      flagSet t .lineFault = true ∧ flagSet t .isolated = true) ∧
    (s.cfg.isSome = true → s.line.faulted = false → s.mode = .flash → exec .lineFault s = .next (settle { later s with
      slots := s.slots.map (fun r => { r with bid := none, deferred := [] })
      line := { s.line with faulted := true, tx := none, queue := s.line.queue.rest,
                            monitor := if s.line.monitor = .receiving then .waiting else s.line.monitor }
      port := { s.port with flags := s.port.flags ||| flagBit .lineFault }
      isolation := if s.isolation = none then some .line else s.isolation })) ∧
    (s.cfg.isSome = true → s.line.faulted = false → s.mode = .isolated → exec .lineFault s = .next (settle { later s with
      slots := s.slots.map (fun r => { r with bid := none, deferred := [] })
      line := { s.line with faulted := true, tx := none, queue := s.line.queue.rest,
                            monitor := if s.line.monitor = .receiving then .waiting else s.line.monitor }
      port := { s.port with flags := s.port.flags ||| flagBit .lineFault } })) ∧
    (s.line.faulted = true → exec .lineFault s = .next (settle (later s))) ∧
    (s.line.faulted = true → s.mode = .isolated → s.cause = .line → s.cfg.isSome = true → ∃ t, exec .lineClear s = .next t ∧
      t.line.faulted = false ∧ t.mode = .listen ∧ t.cause = .none ∧ t.join = { running := true, count := 30 } ∧
      t.line.beacon = { running := true, count := 10 } ∧ t.line.queue.beacon.isSome = true) ∧
    (s.line.faulted = true → ¬(s.mode = .isolated ∧ s.cause = .line) →
      exec .lineClear s = .next (settle { later s with
        line := { s.line with faulted := false, monitor := .idle },
        isolation := if s.mode = .flash ∧ s.isolation = some .line then none else s.isolation }))

/-- Frames that are discarded with a count (R40, R56, R59): a broken frame and one that fails the size, class, length or field
check advance FORMAT_ERR, one that fails the CRC check advances CRC_ERR, each to at most 65535. Nothing else changes. -/
def Obligations.BadFramesAreCounted : Prop :=
  ∀ s : State, listening s →
    let format := settle { later s with line := { s.line with monitor := .idle, formatErr := min 65535 (s.line.formatErr + 1) } }
    exec .brokenFrame s = .next format ∧
    (∀ bits, decodeFrame bits = .error .crc → exec (.invalidFrameReceived bits) s =
      .next (settle { later s with line := { s.line with monitor := .idle, crcErr := min 65535 (s.line.crcErr + 1) } })) ∧
    (∀ bits e, decodeFrame bits = .error e → e ≠ .crc → exec (.invalidFrameReceived bits) s = .next format) ∧
    (∀ f, frameOk f = false → exec (.duplicateFrameReceived f) s = .next format)

/-- A valid frame with the own station number, sent by another station (R57), is a duplicate station number: DUPLICATE is set, no
counter advances and nothing is dispatched. In LISTEN or RUN the station goes to ISOLATED with cause DUPLICATE (R162); in FLASH the
pending isolation becomes DUPLICATE unless it is DUPLICATE or COMMAND already (R165). -/
def Obligations.OwnNumberHeard : Prop :=
  ∀ (f : Frame) (s : State), listening s → frameOk f = true → frameStation f = (conf s).station →
    ∃ t, exec (.duplicateFrameReceived f) s = .next t ∧ flagSet t .duplicate = true ∧
      t.line.arbLoss = s.line.arbLoss ∧ t.line.collision = s.line.collision ∧ t.line.crcErr = s.line.crcErr ∧
      t.line.formatErr = s.line.formatErr ∧
      ((s.mode = .listen ∨ s.mode = .run) →
        t.mode = .isolated ∧ t.cause = .duplicate ∧ t.table = [] ∧ t.line.queue = Queue.empty ∧ flagSet t .isolated = true) ∧
      (s.mode = .flash → t.mode = .flash ∧ t.table = s.table ∧ t.hold.holders = s.hold.holders ∧
        t.isolation = (if s.isolation = none ∨ s.isolation = some .line then some .duplicate else s.isolation))

/-- Frames of neighbours reach the Crossing Table (R61, R63 to R68). From a sender out of reach every record goes. From one in
reach, the crossings named take the frame's position, radius, phase and slot, and the station's heard countdown is loaded
with 45 ds; a CEDE removes the slot and keeps the phase. A sender is in reach within the largest of Ra, Dc and the radius it carries. A
leg block in HELD or FLASH, a stage of 0 and an end of 0 leave no slot; a BID's is claimed; a KEEP keeps a phase that a slot can hold,
and otherwise gives that of its stage. So where the table is in its order and has room. Where it is full and a BID
comes from a station without a record (R64), TABLE_FULL is set, and the farthest record, of those equally far the last in order,
makes way where the sender is nearer; otherwise nothing is recorded. -/
def Obligations.NeighbourFramesReachTheTable : Prop :=
  ∀ s : State, listening s → TableOk s →
    let record := fun st l position radius phase slot =>
      ({ station := st, leg := l, position := position, radius := radius, phase := phase, slot := slot } : Crossing)
    let away := fun (position : Nat) => (position - (conf s).position) + ((conf s).position - position)
    let inReach := fun (position radius : Nat) => away position ≤ max (max (conf s).radius (conf s).coupling) radius
    let carried : Nat → BitVec 12 → BitVec 12 → Bool → BitVec 3 → Bool → BitVec 5 → Option Slot :=
      fun stage startIn endIn aid band urgent rank =>
        if stage = 0 ∨ endIn.toNat = 0 then none
        else some { startIn := startIn.toNat, endIn := endIn.toNat, aid := aid, band := band.toNat, urgent := urgent, rank := rank.toNat,
                    stage := if stage = 1 then .claimed else if stage = 2 then .committed else .running }
    let phaseAt := fun (code : BitVec 4) =>
      [LegState.start, .rest, .called, .claimed, .committed, .amber, .allRedIn, .walk, .clearance, .allRedOut, .held, .flash].getD
        code.toNat .start
    let blockSlot := fun (b : LegBlock) =>
      if phaseAt b.phase = .held ∨ phaseAt b.phase = .flash then none
      else carried b.stage.toNat b.startIn b.endIn b.aid b.band (!b.keyNormal) b.rank
    let bidSlot := fun (f : BidFrame) => carried 1 f.startIn f.endIn f.aid f.band f.urgent f.rank
    let keepSlot := fun (f : KeepFrame) => carried f.stage.toNat f.startIn f.endIn f.aid f.band (!f.keyNormal) f.rank
    let keepPhase := fun (f : KeepFrame) (before : Option Crossing) =>
      let fresh := if f.stage = 1#2 then LegState.claimed else if f.stage = 2#2 then .committed else .walk
      match before.map Crossing.phase with
      | some .claimed => .claimed | some .committed => .committed | some .amber => .amber | some .allRedIn => .allRedIn
      | some .walk => .walk | some .clearance => .clearance
      | _ => fresh
    (s.table.length + 2 ≤ tableCapacity →
    (∀ f : BeaconFrame, legBlockOk f.block0 = true → (∀ b, f.block1 = some b → legBlockOk b = true) → f.station.toNat ≠ (conf s).station →
      ∃ t, exec (.beaconReceived f) s = .next t ∧
        (¬inReach f.position.toNat f.radius.toNat →
          t.table = s.table.filter (fun c => decide (c.station ≠ f.station.toNat)) ∧
          t.heard = s.heard.filter (fun h => decide (h.station ≠ f.station.toNat))) ∧
        (inReach f.position.toNat f.radius.toNat →
          findCrossing t.table f.station.toNat .leg0 =
            some (record f.station.toNat .leg0 f.position.toNat f.radius.toNat (phaseAt f.block0.phase) (blockSlot f.block0)) ∧
          findCrossing t.table f.station.toNat .leg1 =
            f.block1.map (fun b => record f.station.toNat .leg1 f.position.toNat f.radius.toNat (phaseAt b.phase) (blockSlot b)) ∧
          heardOf t f.station.toNat = 45 ∧
          (∀ st l, st ≠ f.station.toNat → findCrossing t.table st l = findCrossing s.table st l)) ∧
        t.slots = s.slots ∧ t.legs = s.legs) ∧
    (∀ f : BidFrame, slotCodesOk f.startIn f.endIn f.band = true → f.station.toNat ≠ (conf s).station →
      inReach f.position.toNat f.radius.toNat → ∃ t, exec (.bidReceived f) s = .next t ∧
        findCrossing t.table f.station.toNat f.leg =
          some (record f.station.toNat f.leg f.position.toNat f.radius.toNat .claimed (bidSlot f)) ∧ heardOf t f.station.toNat = 45) ∧
    (∀ f : KeepFrame, slotCodesOk f.startIn f.endIn f.band = true → f.stage ≠ 0#2 → f.station.toNat ≠ (conf s).station →
      inReach f.position.toNat f.radius.toNat → ∃ t, exec (.keepReceived f) s = .next t ∧
        findCrossing t.table f.station.toNat f.leg =
          some (record f.station.toNat f.leg f.position.toNat f.radius.toNat
            (keepPhase f (findCrossing s.table f.station.toNat f.leg)) (keepSlot f)) ∧
        heardOf t f.station.toNat = 45) ∧
    (∀ f : CedeFrame, f.station.toNat ≠ (conf s).station → ∃ t, exec (.cedeReceived f) s = .next t ∧
      findCrossing t.table f.station.toNat f.leg =
        (findCrossing s.table f.station.toNat f.leg).map (fun c => { c with slot := none }) ∧
      (hasRecord s.table f.station.toNat = true → heardOf t f.station.toNat = 45) ∧ t.slots = s.slots ∧ t.legs = s.legs)) ∧
    (∀ (f : BidFrame) (far : Crossing), slotCodesOk f.startIn f.endIn f.band = true → f.station.toNat ≠ (conf s).station →
      inReach f.position.toNat f.radius.toNat → hasRecord s.table f.station.toNat = false →
      s.table.length = tableCapacity → far ∈ s.table →
      (∀ c ∈ s.table, away c.position < away far.position ∨ (away c.position = away far.position ∧ crossingKey c ≤ crossingKey far)) →
      ∃ t, exec (.bidReceived f) s = .next t ∧ flagSet t .tableFull = true ∧ t.table.length = tableCapacity ∧
        (away far.position ≤ away f.position.toNat → t.table = s.table ∧ t.heard = s.heard) ∧
        (away f.position.toNat < away far.position →
          findCrossing t.table f.station.toNat f.leg =
            some (record f.station.toNat f.leg f.position.toNat f.radius.toNat .claimed (bidSlot f)) ∧
          heardOf t f.station.toNat = 45 ∧ findCrossing t.table far.station far.leg = none ∧
          (∀ st l, st ≠ f.station.toNat → (st ≠ far.station ∨ l ≠ far.leg) → findCrossing t.table st l = findCrossing s.table st l) ∧
          (hasRecord t.table far.station = false → ∀ h ∈ t.heard, h.station ≠ far.station)))

/-- A BID or KEEP in conflict with an own slot (R101 to R104, R106). Against a claim with the lower key a claimed slot is ceded, and
against a committed or running KEEP a claimed normal one: it goes, the leg returns to CALLED and a CEDE is queued. Otherwise it
stands, the sender joins the challengers, not told, and a KEEP is queued, but none for the KEEP of a challenger already told (R103);
against a committed or running KEEP a slot past its contest sets DOUBLE_COMMIT as well. A slot that stands, overlaps the slot carried in the same band and has the greater key moves to
the lowest band that no overlapping slot has, with a KEEP and every told mark no, and keeps its band where all six are used (R109,
R110). So in RUN, with no slot of the other leg and no BID in transmission. Last, the band check for an own slot change (R109, R110), in every state: it
changes bands alone, with a KEEP for a slot moved, and leaves a pair of overlapping slots in one band only where the one that must
move is foreign or has all six bands used (its order of the pairs is the model's choice: log entry 32). -/
def Obligations.ConflictIsAnsweredByKey : Prop :=
  (∀ (l : LegId) (own : Slot) (s : State), listening s → s.mode = .run → slotOf s l = some own →
    slotOf s (otherLeg l) = none → (∀ m, (s.slots.get m).bid = none) →
    let loses := fun (t : State) => slotOf t l = none ∧ (legState s l = .claimed → legState t l = .called) ∧
      t.line.queue.legs.get l = some { kind := .cede, stamp := s.clock + 1, sending := false } ∧
      flagSet t .doubleCommit = flagSet s .doubleCommit
    let stands := fun (t : State) (c : Carried) => legState t l = legState s l ∧
      flagSet t .doubleCommit = (flagSet s .doubleCommit || (decide (own.stage ≠ .claimed) && !isClaim c)) ∧
      (let sender := (s.slots.get l).challengers.find? (fun q => decide (q.station = c.station ∧ q.leg = c.leg))
      let answered := c.isBid = false ∧ sender.any Challenger.told = true
      let joined := if sender.isSome
        then (s.slots.get l).challengers.map (fun q => if q.station = c.station ∧ q.leg = c.leg then { q with told := false } else q)
        else (s.slots.get l).challengers ++ [{ station := c.station, leg := c.leg, told := false }]
      let keeps := t.line.queue.legs.get l = some { kind := .keep, stamp := s.clock + 1, sending := false }
      let clash := overlap own c.slot = true ∧ own.band = c.slot.band ∧
        keyLt (foreignKey c.station c.leg c.slot) (ownKey s l own) = true
      let used := fun band => band = c.slot.band ∨ ∃ n ∈ s.table, (n.station ≠ c.station ∨ n.leg ≠ c.leg) ∧
        acoustic s n.position n.radius = true ∧ ∃ x, n.slot = some x ∧ x.aid = true ∧ overlap own x = true ∧ x.band = band
      (¬clash ∨ (∀ band, band < 6 → used band) → slotOf t l = some own ∧
        (answered → (t.slots.get l).challengers = (s.slots.get l).challengers ∧ t.line.queue.legs.get l = s.line.queue.legs.get l) ∧
        (¬answered → (t.slots.get l).challengers = joined ∧ keeps)) ∧
      (clash → ∀ band, band < 6 → ¬used band → (∀ lower, lower < band → used lower) →
        slotOf t l = some { own with band := band } ∧ keeps ∧
        (answered → (t.slots.get l).challengers = (s.slots.get l).challengers.map (fun q => { q with told := false })) ∧
        (¬answered → (t.slots.get l).challengers = joined.map (fun q => { q with told := false }))))
    let lower := fun (c : Carried) => keyLt (foreignKey c.station c.leg c.slot) (ownKey s l own)
    (∀ f : BidFrame, slotCodesOk f.startIn f.endIn f.band = true → f.station.toNat ≠ (conf s).station →
      inConflict s l (carriedBid f) = true → ∃ t, exec (.bidReceived f) s = .next t ∧
        (own.stage = .claimed → lower (carriedBid f) = true → loses t) ∧
        (own.stage = .claimed → lower (carriedBid f) = false → stands t (carriedBid f)) ∧
        (own.stage ≠ .claimed → stands t (carriedBid f))) ∧
    (∀ f : KeepFrame, slotCodesOk f.startIn f.endIn f.band = true → f.stage ≠ 0#2 → f.station.toNat ≠ (conf s).station →
      inConflict s l (carriedKeep f) = true → ∃ t, exec (.keepReceived f) s = .next t ∧
        (own.stage = .claimed → f.stage = 1#2 → lower (carriedKeep f) = true → loses t) ∧
        (own.stage = .claimed → f.stage = 1#2 → lower (carriedKeep f) = false → stands t (carriedKeep f)) ∧
        (own.stage = .claimed → f.stage ≠ 1#2 → own.urgent = false → loses t) ∧
        (own.stage = .claimed → f.stage ≠ 1#2 → own.urgent = true → stands t (carriedKeep f)) ∧
        (own.stage ≠ .claimed → stands t (carriedKeep f)))) ∧
  (∀ (l : LegId) (own : Slot) (s : State), slotOf s l = some own → own.aid = true →
    let t := checkOwnChange bandRounds l none s
    let clash := fun (x y : Slot) => overlap x y = true ∧ x.band = y.band
    let foreign := fun (key : Key) (x : Slot) => ∃ n ∈ t.table, acoustic t n.position n.radius = true ∧ n.slot = some x ∧
      x.aid = true ∧ key = foreignKey n.station n.leg x
    let other := fun (m : LegId) (key : Key) (x : Slot) => slotOf t (otherLeg m) = some x ∧ x.aid = true ∧ key = ownKey t (otherLeg m) x
    let allUsed := fun (m : LegId) (x : Slot) => ∀ band, band < 6 → ∃ key y,
      (foreign key y ∨ other m key y) ∧ overlap x y = true ∧ y.band = band
    (∀ x key y, slotOf t l = some x → foreign key y ∨ other l key y → clash x y → keyLt key (ownKey t l x) = true → allUsed l x) ∧
    (∀ x key y, slotOf t l = some x → other l key y → clash x y → keyLt (ownKey t l x) key = true → allUsed (otherLeg l) y) ∧
    (∀ m, slotOf t m = (slotOf s m).map (fun x => { x with band := ((slotOf t m).map Slot.band).getD 0 }) ∧
      (slotOf t m ≠ slotOf s m → acceptsLeg s .keep = true →
        t.line.queue.legs.get m = some { kind := .keep, stamp := s.clock, sending := false })) ∧
    ChangesOnly [.slots, .line] s t)

/-- A CLEARWAY within its range makes its sender a holder with 60 ds, one beyond removes the sender, and so does a CLEAR_END
(R151, R152). STREET is present exactly while there is a holder (R153). Where the station becomes held by it, each leg in use takes
the hold (R143): in REST or CALLED it goes to HELD; in CLAIMED or COMMITTED to HELD, its slot withdrawn with a CEDE (R12, R113); in AMBER
its walk is cancelled, in ALL_RED_IN it goes to ALL_RED_OUT with Rout, the slot withdrawn (R13); in WALK the walk ends at Wmin, or
at once, with a clearance of Kp (R14); in CLEARANCE what is left is cut to Kp (R15), TRUNCATED set where something was made
shorter; a leg in another state goes on. Where the removal of the sender, by either frame, takes away the last source, each HELD leg in
use goes to REST, or with a call to CALLED, asking for its slot with a BID in RUN (R143, R16, R5); where the hold stands or falls as it
was, no leg changes. The holders set has one entry per station. -/
def Obligations.ClearwayFramesHold : Prop :=
  ∀ (f : ClearwayFrame) (s : State), listening s → f.station.toNat ≠ (conf s).station → HoldersOk s →
    let inReach := distance f.position.toNat (conf s).position ≤ f.range.toNat
    let lastHolder := s.hold.preempt = false ∧ s.hold.maint = false ∧ s.hold.street = true ∧ ∀ h ∈ s.hold.holders, h.station = f.station.toNat
    let released := fun (t : State) => held t = false ∧ t.slots = s.slots ∧
      (∀ l, inUse s l = true → legState s l = .held →
        (callOf s l = none → t.legs.get l = { s.legs.get l with state := .rest }) ∧
        (callOf s l ≠ none → t.legs.get l = { s.legs.get l with state := .called } ∧
          (s.mode = .run → t.line.queue.legs.get l = some { kind := .bid, stamp := s.clock + 1, sending := false }))) ∧
      (∀ l, inUse s l = false ∨ legState s l ≠ .held →
        t.legs.get l = s.legs.get l ∧ t.line.queue.legs.get l = s.line.queue.legs.get l)
    let stays := fun (t : State) => held t = held s → t.legs = s.legs ∧ t.slots = s.slots ∧ t.line.queue.legs = s.line.queue.legs
    (∃ t, exec (.clearwayReceived f) s = .next t ∧
      (∀ h, h ∈ t.hold.holders ↔
        (h ∈ s.hold.holders ∧ h.station ≠ f.station.toNat) ∨ (inReach ∧ h = { station := f.station.toNat, left := 60 })) ∧
      t.hold.street = !t.hold.holders.isEmpty ∧ t.hold.preempt = s.hold.preempt ∧ t.hold.maint = s.hold.maint ∧
      (¬inReach → lastHolder → released t) ∧ stays t ∧
      (inReach → held s = false → ∀ l, inUse s l = true →
        let r := s.legs.get l
        let c := legConf s l
        let goesOn := t.slots.get l = s.slots.get l ∧ t.line.queue.legs.get l = s.line.queue.legs.get l
        let ends := fun n => t.slots.get l = { s.slots.get l with slot := (slotOf s l).map (fun x => { x with endIn := n }) } ∧
          t.line.queue.legs.get l = s.line.queue.legs.get l
        let withdrawn :=
          (slotOf s l = none → goesOn) ∧
          (slotOf s l ≠ none →
            t.slots.get l = { s.slots.get l with slot := none, contest := { running := false, count := 0 }, challengers := [] } ∧
            t.line.queue.legs.get l = some { kind := .cede, stamp := s.clock + 1, sending := false })
        let rest := c.wmin - r.walkElapsed
        (r.state = .rest ∨ r.state = .called → t.legs.get l = { r with state := .held } ∧ goesOn) ∧
        (r.state = .claimed ∨ r.state = .committed → t.legs.get l = { r with state := .held } ∧ withdrawn) ∧
        (r.state = .amber → t.legs.get l = { r with walkCancelled := true } ∧ withdrawn) ∧
        (r.state = .allRedIn →
          t.legs.get l = { r with state := .allRedOut, interval := { running := true, count := c.rout },
                                  flash := { r.flash with running := false } } ∧ withdrawn) ∧
        (r.state = .walk → ends (rest + c.kp) ∧ (rest < r.interval.count ∨ c.kp < c.clear → flagSet t .truncated = true) ∧
          (0 < rest → t.legs.get l = { r with interval := { running := true, count := rest }, walkLength := c.wmin,
                                              clearanceCut := true }) ∧
          (rest = 0 → t.legs.get l = { r with state := .clearance, interval := { running := true, count := c.kp }, clearanceCut := false,
                                              flashOn := true, flash := { running := true, count := 5 } })) ∧
        (r.state = .clearance → c.kp < r.interval.count → flagSet t .truncated = true ∧ ends c.kp ∧
          t.legs.get l = { r with interval := { running := true, count := c.kp } }) ∧
        ((r.state = .clearance ∧ r.interval.count ≤ c.kp) ∨ r.state = .allRedOut ∨ r.state = .held ∨ r.state = .start ∨ r.state = .flash →
          t.legs.get l = r ∧ goesOn))) ∧
    (∃ t, exec (.clearEndReceived f) s = .next t ∧
      t.hold.holders = s.hold.holders.filter (fun h => decide (h.station ≠ f.station.toNat)) ∧
      t.hold.street = !t.hold.holders.isEmpty ∧ t.hold.preempt = s.hold.preempt ∧ t.hold.maint = s.hold.maint ∧
      (lastHolder → released t) ∧ stays t)

/-- A dominant stretch after at least 500 µs of recessive line (R39): under 150 µs a glitch, 150 to 399 µs a start pulse that
begins a frame, from 400 µs a broken start; from 1 ms it is the line fault of R41 as well, in every mode, which a watch that is faulted
or does not run takes no more. Of a stretch that was on when the line watch began, only what came since counts toward the 1 ms (R41);
that the command carries the two parts is the model's way of it (log entry 28). -/
def Obligations.StartPulseIsJudged : Prop :=
  ∀ (recessive : Nat) (dominant : Dominant) (s : State), s.resetHeld = false → 500 ≤ recessive →
    let length := dominant.before + dominant.watched
    let heard := fun m => { s with line := { s.line with monitor := m } }
    let judged := exec (.startPulse recessive dominant) s
    (length < 150 → judged = .next (settle (later (heard .waiting)))) ∧
    (150 ≤ length → length < 400 → judged = .next (settle (later (heard .receiving)))) ∧
    (400 ≤ length → dominant.watched < 1000 → judged = .next (settle (later (heard .waiting)))) ∧
    (1000 ≤ dominant.watched → judged = exec .lineFault (heard .waiting)) ∧
    (1000 ≤ dominant.watched → s.line.faulted = true ∨ s.cfg = none → judged = .next (settle (later (heard .waiting)))) ∧
    (1000 ≤ dominant.watched → s.line.faulted = false → s.cfg.isSome = true → (s.mode = .listen ∨ s.mode = .run) →
      ∃ t, judged = .next t ∧ t.mode = .isolated ∧ t.cause = .line ∧ t.line.faulted = true)

/-- Every frame whose fields pass the check of R56 is read back, from the bits that carry it, with every field as it was
(R42, R56, R188): the receiver and the sender follow one layout, and the CRC of an undisturbed frame matches. -/
def Obligations.FramesRoundTrip : Prop := ∀ f : Frame, frameOk f = true → decodeFrame (encodeFrame f) = .ok f

/-- A frame with one bit of it changed, in header, payload or CRC, fails the CRC check (R42, R56). -/
def Obligations.SingleBitErrorsFailTheCrc : Prop :=
  ∀ (f : Frame) (i : Nat), i < (encodeFrame f).length →
    decodeFrame ((encodeFrame f).set i (!(encodeFrame f).getD i false)) = .error .crc

/-- Foreign things run out: a station's heard countdown removes all its records (R72), a foreign slot at its end leaves its
record (R69), and a holder's refresh countdown removes the holder and sets CLEARWAY_EXPIRED (R152), STREET staying exactly
while a holder is left. Where another source keeps the hold nothing more changes; where it was the last source, each HELD leg in use
goes to CALLED with a call and to REST without (R143, R16), a CALLED one asking for its slot (R5): a BID request in RUN, and in ISOLATED
its placement at once (R94). -/
def Obligations.ForeignCountsExpire : Prop :=
  ∀ (st : BitVec 4) (s : State), s.resetHeld = false →
    (heardOver s st.toNat = true →
      exec (.heardExpiry st) s = .next (settle { s with
        table := s.table.filter (fun c => decide (c.station ≠ st.toNat)), heard := s.heard.filter (fun h => decide (h.station ≠ st.toNat)) })) ∧
    (∀ l, foreignOver s st.toNat l = true →
      exec (.tableSlotExpiry st l) s = .next (settle { s with
        table := s.table.map (fun c => if c.station = st.toNat ∧ c.leg = l then { c with slot := none } else c) })) ∧
    (refreshOver s st.toNat = true → (s.hold.preempt = true ∨ s.hold.maint = true) →
      exec (.refreshExpiry st) s = .next (settle { s with
        port := { s.port with flags := s.port.flags ||| flagBit .clearwayExpired },
        hold := { s.hold with
          holders := s.hold.holders.filter (fun h => decide (h.station ≠ st.toNat)),
          street := !(s.hold.holders.filter (fun h => decide (h.station ≠ st.toNat))).isEmpty } })) ∧
    (refreshOver s st.toNat = true → s.hold.preempt = false → s.hold.maint = false → s.hold.street = true →
      (∀ h ∈ s.hold.holders, h.station = st.toNat) → ∃ t, exec (.refreshExpiry st) s = .next t ∧
      t.hold.holders = [] ∧ t.hold.street = false ∧ t.hold.preempt = false ∧ t.hold.maint = false ∧ flagSet t .clearwayExpired = true ∧
      (∀ l, inUse s l = true → legState s l = .held →
        (callOf s l = none → t.legs.get l = { s.legs.get l with state := .rest } ∧ t.slots.get l = s.slots.get l) ∧
        (∀ c, callOf s l = some c →
          (s.mode ≠ .isolated → t.legs.get l = { s.legs.get l with state := .called } ∧ t.slots.get l = s.slots.get l ∧
            (s.mode = .run → s.cfg.isSome = true →
              t.line.queue.legs.get l = some { kind := .bid, stamp := s.clock, sending := false })) ∧
          (s.mode = .isolated → t.legs.get l = { s.legs.get l with state := .committed } ∧
            (slotOf t l).any (fun x => decide (x.stage = .committed)) = true))) ∧
      (∀ l, inUse s l = false ∨ legState s l ≠ .held →
        t.legs.get l = s.legs.get l ∧ t.slots.get l = s.slots.get l ∧ t.line.queue.legs.get l = s.line.queue.legs.get l) ∧
      ChangesOnly [.legs, .slots, .line, .hold, .port, .choices, .lamps] s t)

/-! ## Sound and ambient -/

/-- A kerb's burst falls due (R118, R121, R126): the burst phase is loaded with the pattern's period and, where no beep is in
progress, a word of the pattern's tone, band, level and length goes out for that kerb and counts as sounding; the band is the own
slot's, or the shadow where there is none, and becomes the shadow; the walk level is that of R123. During a beep none goes out. The
two kerbs' bursts keep their offset (R120), and kerb A's comes first of two due at once (R116). Sounding runs out (R115); a beep ends
(R126). Times are in eighths of a millisecond. That the time left of the count passes inside these three commands, and that a burst
taken late is `late` by what passed since it fell due, is the model's choice (log entry 3); so is that a burst of the kerb that
does not come first changes nothing (log entry 1). -/
def Obligations.KerbTimesRunOut : Prop :=
  ∀ (l : LegId) (k : Side) (s : State), s.resetHeld = false →
    let r := kerbOf s l k
    let o := kerbOf s l (otherSide k)
    let period := 8 * (if r.pattern = .locator then 1000 else if r.pattern = .walk then 125 else 500)
    let left := fun (x : Kerb) => (x.phase.count : Int) - x.late
    let first := o.phase.running = false ∨ left r < left o ∨ (k = .a ∧ left r = left o)
    let word : BurstWord :=
      { kerb := k
        tone := if r.pattern = .locator then .locator else .band
        band := if r.pattern = .locator then 0 else match slotOf s l with | some x => x.band | none => r.shadow
        level := if r.pattern = .locator then locatorLevel s l k
          else if r.pattern = .walk then max (kerbLevel s l k) (min r.envelope (combinedCap s)) else kerbLevel s l k
        length := if r.pattern = .locator then 40 else 30 }
    (r.phase.running = true → r.pattern ≠ .silent → first → ∃ t, exec (.burstDue l k) s = .next t ∧
      (kerbOf t l k).pattern = r.pattern ∧ (kerbOf t l k).envelope = r.envelope ∧ (kerbOf t l k).beep = r.beep ∧
      (kerbOf t l k).phase = { running := true, count := period - r.late } ∧ (kerbOf t l k).late = r.late - period ∧
      (o.phase.running = true →
        left (kerbOf t l k) - left (kerbOf t l (otherSide k)) = left r - left o + period) ∧
      (r.beep ≠ .none → (kerbOf t l k).sounding = r.sounding - r.phase.count ∧ (kerbOf t l k).shadow = r.shadow) ∧
      (r.beep = .none → (t.links.get l).words.getLast? = some word ∧ (kerbOf t l k).sounding = 8 * word.length - r.late ∧
        (kerbOf t l k).shadow = word.band) ∧
      ChangesOnly [.clock, .kerbs, .links, .hold, .lamps, .sinceTick] s t) ∧
    (r.phase.running = false ∨ r.pattern = .silent ∨ ¬first → exec (.burstDue l k) s = .next s) ∧
    (r.sounding ≠ 0 → ∃ t, exec (.soundingExpiry l k) s = .next t ∧ (kerbOf t l k).sounding = 0 ∧
      (kerbOf t l k).pattern = r.pattern ∧ ChangesOnly [.clock, .kerbs, .links, .hold, .lamps, .sinceTick] s t) ∧
    (r.beepLeft.running = true → ∃ t, exec (.beepEnd l k) s = .next t ∧ (kerbOf t l k).beep = .none ∧
      (kerbOf t l k).beepLeft = { running := false, count := 0 } ∧ (kerbOf t l k).pattern = r.pattern ∧
      ChangesOnly [.clock, .kerbs, .links, .hold, .lamps, .sinceTick] s t)

/-- An ambient word (R132 to R135): a valid one of a tracked kerb smooths the average, clears stale and loads 20 ds; one above
120, or of a kerb that is not tracked, changes nothing. The new average lies between the old one and 16 × s, both included, and
so within 0 to 1920: it falls wherever the word lies below it, and stays where the word lies 7 sixteenths or less above it
(R134). A changed sample of the QUIET input changes the input (R136). -/
def Obligations.AmbientWordsAndQuietInput : Prop :=
  ∀ (l : LegId) (k : Side) (v : BitVec 7) (s : State), s.resetHeld = false →
    (served s l = true → v.toNat ≤ 120 →
      let average := match (ambientOf s l k).average with
        | none => 16 * v.toNat
        | some a => ((a : Int) + (16 * (v.toNat : Int) - (a : Int)) / 8).toNat
      let r : Ambient := { average := some average, staleness := { running := true, count := 20 }, stale := false }
      exec (.ambientWord l k v) s = .next (settle { later s with ambient := s.ambient.set l ((s.ambient.get l).set k r) })) ∧
    (served s l = false ∨ 120 < v.toNat → exec (.ambientWord l k v) s = .next s) ∧
    (∀ high, s.quietInput ≠ high →
      exec (.quietInputChange high) s = .next (settle { later s with quietPin := high, quietInput := high })) ∧
    (∀ a, v.toNat ≤ 120 → a ≤ 1920 →
      min a (16 * v.toNat) ≤ smooth (some a) v.toNat ∧ smooth (some a) v.toNat ≤ max a (16 * v.toNat) ∧
      smooth (some a) v.toNat ≤ 1920 ∧ (16 * v.toNat < a → smooth (some a) v.toNat < a) ∧
      (a ≤ 16 * v.toNat → 16 * v.toNat ≤ a + 7 → smooth (some a) v.toNat = a))

/-- Under a configuration in range the levels are in order (R137, R138, R123): the floor is below every kerb level, the kerb
level below the combined cap, the cap below the ceiling; the locator level lies between floor and kerb level, the walk level
and the envelope start between kerb level and cap; nightcap bounds them all while quiet, isocap while ISOLATED. -/
def Obligations.LevelsStayInOrder : Prop :=
  ∀ (l : LegId) (k : Side) (s : State), StationConfig.inRange (conf s) →
    (conf s).floor ≤ kerbLevel s l k ∧ kerbLevel s l k ≤ combinedCap s ∧ combinedCap s ≤ (conf s).ceiling ∧
    (conf s).floor ≤ locatorLevel s l k ∧ locatorLevel s l k ≤ kerbLevel s l k ∧
    kerbLevel s l k ≤ walkLevel s l k ∧ walkLevel s l k ≤ combinedCap s ∧
    kerbLevel s l k ≤ envelopeStart s l k ∧ envelopeStart s l k ≤ combinedCap s ∧
    (quietActive s = true → combinedCap s ≤ (conf s).nightcap) ∧ (s.mode = .isolated → combinedCap s ≤ (conf s).isocap)

/-- A leg's kerbs change pattern (R120, R127), and a beep is triggered (R125). On a change a kerb that sounds or beeps gets a stop
word, kerb A first; then kerb A's first burst goes out, and kerb B's with it where koff is 0, otherwise koff eighths of a
period later. Each burst has the pattern's tone, band, level and length (R118, R121), and each stop word the floor (R117). A kerb that
takes WALK starts its envelope before its first burst, at the lower of the cap and boost above Lk, with E (R122, R123, R138); one that
takes another stops its step countdown. A trigger starts a beep on a kerb on LOCATOR and is dropped on any other. -/
def Obligations.PatternChangesAndBeeps : Prop :=
  ∀ (l : LegId) (p : Pattern) (s : State), p ≠ .silent →
    ((s.kerbs.get l).a.pattern ≠ p →
      let t := changePattern l p s
      let stop := fun k => ({ kerb := k, tone := .locator, band := 0, level := (s.cfg.map StationConfig.floor).getD 0, length := 0 } : BurstWord)
      let cut := fun k => if (kerbOf s l k).sounding ≠ 0 ∨ (kerbOf s l k).beep ≠ .none then [stop k] else []
      let start := fun k => min (combinedCap s) (kerbLevel s l k + (conf s).boost)
      let burst := fun k => [({
        kerb := k
        tone := if p = .locator then .locator else .band
        band := if p = .locator then 0 else match slotOf s l with | some x => x.band | none => (kerbOf s l k).shadow
        level := if p = .locator then locatorLevel s l k else if p = .walk then max (kerbLevel s l k) (start k) else kerbLevel s l k
        length := if p = .locator then 40 else 30 } : BurstWord)]
      let period := 8 * (if p = .locator then 1000 else if p = .walk then 125 else 500)
      (∀ k, (kerbOf t l k).pattern = p) ∧
      (kerbOf t l .a).phase = { running := true, count := period } ∧
      (kerbOf t l .b).phase = { running := true, count := if (conf s).koff = 0 then period else (conf s).koff * (period / 8) } ∧
      (t.links.get l).words =
        (s.links.get l).words ++ cut .a ++ cut .b ++ burst .a ++ (if (conf s).koff = 0 then burst .b else []) ∧
      (p = .walk → ∀ k, (kerbOf t l k).envelope = start k ∧ (kerbOf t l k).step = { running := true, count := (conf s).envStep }) ∧
      (p ≠ .walk → ∀ k, (kerbOf t l k).envelope = (kerbOf s l k).envelope ∧ (kerbOf t l k).step.running = false) ∧
      (∀ k, (kerbOf t l k).beep = .none ∧ (kerbOf t l k).late = 0) ∧
      (kerbOf t l .a).sounding = 8 * (if p = .locator then 40 else 30) ∧
      t.kerbs.get (otherLeg l) = s.kerbs.get (otherLeg l) ∧ t.links.get (otherLeg l) = s.links.get (otherLeg l) ∧
      ChangesOnly [.kerbs, .links] s t) ∧
    (∀ (k : Side) (kind : Kind),
      ((kerbOf s l k).pattern ≠ .locator → triggerBeep l k kind s = s) ∧
      ((kerbOf s l k).pattern = .locator →
        let t := triggerBeep l k kind s
        let len := if kind = .plain then 60 else 200
        (kerbOf t l k).beep = (if kind = .plain then .short else .long) ∧
        (kerbOf t l k).beepLeft = { running := true, count := 8 * len } ∧ (kerbOf t l k).sounding = 8 * len ∧
        (t.links.get l).words = (s.links.get l).words ++
          [{ kerb := k, tone := .beep, band := (legConf s l).band, level := kerbLevel s l k, length := len }] ∧
        ChangesOnly [.kerbs, .links] s t))

/-! ## Holds and lamps -/

/-- The preempt lines (R145 to R150). PHQ rising adds PREEMPT and, once every leg in use is HELD or the station is in FLASH,
is acknowledged; it starts the clearway where PREEMPT was absent, with a CLEARWAY queued and 20 ds. PHQ falling lowers PHA and
takes a deferred release. PRQ rising while PHQ is low takes a release: PREEMPT removed, PRA raised, the clearway ended with a
CLEAR_END, and, where no source is left, each HELD leg back to CALLED or REST (R16); while PHQ is high it is deferred, and nothing
else changes. PRQ falling lowers PRA and drops a deferred release. -/
def Obligations.PreemptLines : Prop :=
  let released := fun (s t : State) =>
    t.hold.preempt = false ∧ t.hold.pra = true ∧ t.hold.release = .acknowledged ∧ t.hold.street = s.hold.street ∧
    t.hold.maint = s.hold.maint ∧
    (s.hold.preempt = true → t.hold.clearway = { running := false, count := 0 }) ∧
    (s.hold.preempt = true → 0 < (conf s).clearwayRange → acceptsAny s = true →
      t.line.queue.clear = some { kind := .clearEnd, stamp := s.clock + 1, sending := false }) ∧
    (held s = true → held t = false → s.mode ≠ .isolated → ∀ l, inUse s l = true → legState s l = .held →
      legState t l = if (callOf s l).isSome then .called else .rest)
  ∀ s : State, s.resetHeld = false →
    (s.phq = false → ∃ t, exec .phqRise s = .next t ∧ t.phq = true ∧ t.hold.preempt = true ∧
      t.hold.side = (if holdAnswered t then .acknowledged else .waiting) ∧
      (holdAnswered t = true → t.hold.pha = true) ∧ (s.hold.pha = false → holdAnswered t = false → t.hold.pha = false) ∧
      (s.hold.preempt = false → acceptsAny s = true → 0 < (conf s).clearwayRange →
        t.hold.clearway = { running := true, count := 20 } ∧
        t.line.queue.clear = some { kind := .clearway, stamp := s.clock + 1, sending := false }) ∧
      (s.hold.preempt = true → t.hold.clearway = s.hold.clearway ∧ t.line.queue.clear = s.line.queue.clear) ∧
      t.hold.street = s.hold.street ∧ t.hold.maint = s.hold.maint ∧ t.hold.release = s.hold.release) ∧
    (s.phq = true → s.hold.release ≠ .deferred →
      exec .phqFall s = .next (settle { later s with phq := false, hold := { s.hold with side := .idle, pha := false } })) ∧
    (s.phq = true → s.hold.release = .deferred → ∃ t, exec .phqFall s = .next t ∧ t.phq = false ∧ t.hold.side = .idle ∧
      t.hold.pha = false ∧ released s t) ∧
    (s.prq = false → s.phq = true →
      exec .prqRise s = .next (settle { later s with prq := true, hold := { s.hold with release := .deferred } })) ∧
    (s.prq = false → s.phq = false → ∃ t, exec .prqRise s = .next t ∧ t.prq = true ∧ released s t) ∧
    (s.prq = true →
      exec .prqFall s = .next (settle { later s with prq := false, hold := { s.hold with release := .idle, pra := false } }))

/-- A readback changes (R167, R169) and a mismatch has lasted 3 ds (R168). A change that makes no new conflict is the level
alone (that a change beside a conflict which stands already is none is the model's reading of R169: log entry 15); green and walk read
together set CONFLICT and take LISTEN, RUN and ISOLATED to FLASH with cause CONFLICT. A mismatch
that expires marks the lamp failed and sets LAMP_FAIL; a vehicle red commanded on takes the station to FLASH with cause LAMP. -/
def Obligations.LampReadbacksAndMismatches : Prop :=
  ∀ (l : LegId) (i : LampId) (s : State), s.resetHeld = false →
    (∀ on, let p := (s.lamps.get l).set i { lampRec s l i with readback := on }
      (s.mode = .start ∨ conflictSensed p = false ∨ conflictSensed (s.lamps.get l) = true →
        exec (.lampReadbackChange l i on) s = .next (settle { later s with lamps := s.lamps.set l p })) ∧
      (conflictSensed p = true → conflictSensed (s.lamps.get l) = false → s.mode ≠ .start →
        ∃ t, exec (.lampReadbackChange l i on) s = .next t ∧ t.mode = .flash ∧ flagSet t .conflict = true ∧
          (lampRec t l i).readback = on ∧ t.cause = (if s.mode = .flash then s.cause else .conflict))) ∧
    ((lampRec s l i).mismatch = { running := true, count := 0 } →
      (i ≠ .red ∨ lampOn s l i = false →
        let r : LampRec := { lampRec s l i with failed := true, mismatch := { running := false, count := 0 } }
        exec (.mismatchExpiry l i) s = .next (settle { s with
          lamps := s.lamps.set l ((s.lamps.get l).set i r),
          port := { s.port with flags := s.port.flags ||| flagBit .lampFail } })) ∧
      (i = .red → lampOn s l i = true → (s.mode = .listen ∨ s.mode = .run ∨ s.mode = .isolated) →
        ∃ t, exec (.mismatchExpiry l i) s = .next t ∧ t.mode = .flash ∧ t.cause = .lamp ∧ flagSet t .lampFail = true ∧
          (∀ m, inUse s m = true → legState t m = .flash ∧ callOf t m = none ∧ slotOf t m = none)))

/-- The signal lamps follow the table of R2, "flash" being the flash phase of R3; green and walk are never commanded on
together; every entry into a state of vehicle green from another leaves ALL_RED_OUT; a readback is compared with this command. A
leg that is not in use has every lamp off (R20). -/
def Obligations.LampCommandsFollowTheTable : Prop :=
  ∀ (l : LegId) (s : State),
    let st := legState s l
    let green := fun (x : LegState) => x = .rest ∨ x = .called ∨ x = .claimed ∨ x = .committed ∨ x = .held
    (inUse s l = true →
      (lampOn s l .red = true ↔ st = .allRedIn ∨ st = .walk ∨ st = .clearance ∨ st = .allRedOut) ∧
      (lampOn s l .amber = true ↔ st = .amber ∨ ((st = .start ∨ st = .flash) ∧ (s.legs.get l).flashOn = true)) ∧
      (lampOn s l .green = true ↔ green st) ∧ (lampOn s l .walk = true ↔ st = .walk) ∧
      (lampOn s l .dontWalk = true ↔
        green st ∨ st = .amber ∨ st = .allRedIn ∨ st = .allRedOut ∨ (st = .clearance ∧ (s.legs.get l).flashOn = true))) ∧
    (∀ i, inUse s l = false → lampOn s l i = false) ∧ ¬(lampOn s l .green = true ∧ lampOn s l .walk = true) ∧
    (∀ (c : Instr) (t : State), exec c s = .next t → green (legState t l) → ¬green st → st = .allRedOut) ∧
    (∀ i, mismatched s l i = true ↔ (lampRec s l i).readback ≠ lampOn s l i)

/-- What every event settles (R146, R167). A waiting hold side is acknowledged, and PHA rises, exactly where every leg in use
is HELD or the station is in FLASH; leg 0 is in use always, and leg 1 unless a one-leg configuration is loaded (R20, R160). Outside START a lamp whose readback agrees with its command has no countdown and no failed
mark; one that differs counts from 3 ds, goes on counting, or stays failed. Nothing else changes. That every event compares all ten
lamps, where R167 compares at a change of readback or command, is the model's way of it (log entry 23). -/
def Obligations.EveryEventSettles : Prop :=
  ∀ s : State,
    let answered := s.mode = .flash ∨ ∀ l, inUse s l = true → legState s l = .held
    (∀ l, inUse s l = true ↔ l = .leg0 ∨ ∀ c, s.cfg = some c → c.leg1 ≠ none) ∧ (holdAnswered s = true ↔ answered) ∧
    (s.hold.side = .waiting → answered → (settle s).hold = { s.hold with side := .acknowledged, pha := true }) ∧
    (s.hold.side ≠ .waiting ∨ ¬answered → (settle s).hold = s.hold) ∧
    (s.mode = .start → (settle s).lamps = s.lamps) ∧
    (s.mode ≠ .start → ∀ l i,
      (mismatched s l i = false →
        lampRec (settle s) l i = { lampRec s l i with mismatch := { running := false, count := 0 }, failed := false }) ∧
      (mismatched s l i = true → (lampRec s l i).mismatch.running = true ∨ (lampRec s l i).failed = true →
        lampRec (settle s) l i = lampRec s l i) ∧
      (mismatched s l i = true → (lampRec s l i).mismatch.running = false → (lampRec s l i).failed = false →
        lampRec (settle s) l i = { lampRec s l i with mismatch := { running := true, count := 3 } })) ∧
    ChangesOnly [.hold, .lamps] s (settle s)

/-! ## The maintenance port -/

/-- The reading commands (R173, R175 to R178, R190) put status OK, their code, the content's length and the content in the reply
buffer and change nothing else. The contents of all five are given field by field, as section 12.3 lays them out: a value in two
bytes has its high byte first, a stopped countdown reads 0xFF in every byte, and what is absent reads 0. A leg shows its configuration
where one is loaded and the leg is in use. TREAD counts the records in order of station and leg (R74). An absent TREAD record is two bytes long (the model's reading: log entry 34). -/
def Obligations.ReadingCommandsReply : Prop :=
  let byte := fun (n : Nat) => BitVec.ofNat 8 n
  let word := fun (n : Nat) => [BitVec.ofNat 8 (n / 256), BitVec.ofNat 8 (n % 256)]
  let count := fun (c : Countdown) => if c.running then word c.count else [0xFF#8, 0xFF#8]
  let bit := fun (b : Bool) => if b then 1 else 0
  let sources := fun (s : State) => byte (bit s.hold.preempt + 2 * bit s.hold.street + 4 * bit s.hold.maint)
  let isolation := fun (i : Option Isolation) =>
    match i with | none => 0 | some .line => 1 | some .duplicate => 2 | some .command => 3
  let cause := fun (c : Cause) =>
    match c with | .none => 0 | .line => 1 | .duplicate => 2 | .command => 3 | .config => 4 | .lamp => 5 | .conflict => 6
  let legNumber := fun (l : LegId) => match l with | .leg0 => 0 | .leg1 => 1
  let phase := fun (st : LegState) =>
    match st with
    | .start => 0 | .rest => 1 | .called => 2 | .claimed => 3 | .committed => 4 | .amber => 5 | .allRedIn => 6 | .walk => 7
    | .clearance => 8 | .allRedOut => 9 | .held => 10 | .flash => 11
  let timed := fun (st : LegState) => st = .amber ∨ st = .allRedIn ∨ st = .walk ∨ st = .clearance ∨ st = .allRedOut
  let pattern := fun (p : Pattern) => match p with | .silent => 0 | .locator => 1 | .walk => 2 | .clearance => 3
  let stage := fun (g : Stage) => match g with | .claimed => 1 | .committed => 2 | .running => 3
  let slotBytes := fun (o : Option Slot) =>
    match o with
    | none => List.replicate 7 0
    | some x => [byte (stage x.stage + 4 * bit x.aid + 8 * bit (!x.urgent))] ++ word x.startIn ++ word x.endIn ++ [byte x.band, byte x.rank]
  ∀ s : State, s.resetHeld = false →
    exec (.stat []) s = .next (settle (withReply (0x00 :: 0x01 :: 13 :: statContent (later s)) (later s))) ∧
    statContent s =
      [byte (match s.mode with | .start => 0 | .listen => 1 | .run => 2 | .isolated => 3 | .flash => 4), byte (cause s.cause),
       byte (if s.cause = .config then
         (match s.faultCheck with | .none => 0 | .noAnswer => 1 | .tag => 2 | .sum => 3 | .station => 4 | .legs => 5) else 0),
       byte (isolation s.isolation), byte (bit s.cfg.isSome + 2 * bit s.line.faulted),
       byte (match s.cfg with | none => 0 | some c => c.station),
       byte (match s.cfg with | none => 0 | some c => if c.leg1.isSome then 2 else 1), sources s] ++
      word s.port.flags.toNat ++
      [byte s.table.length, byte s.hold.holders.length,
       byte ((match s.port.quietMode with | .follow => 0 | .forceOn => 1 | .forceOff => 2) + 128 * bit (quietActive s))] ∧
    (∀ b : Byte, b.toNat ≤ 1 → exec (.leg [b]) s =
      .next (settle (withReply (0x00 :: 0x02 :: 41 :: legContent (later s) (if b = 0#8 then .leg0 else .leg1)) (later s)))) ∧
    (∀ l, (legContent s l).length = 41 ∧
      let r := s.legs.get l
      legContent s l =
        [byte (legNumber l), byte (phase r.state)] ++ (if timed r.state then count r.interval else [0xFF, 0xFF]) ++ count r.minGreen ++
        word r.walkElapsed ++ word r.walkLength ++
        [byte ((match callOf s l with
          | none => 0
          | some c => 1 + 2 * bit (decide (c.kind = .aid)) + 4 * bit (decide (c.firstKerb = .b))) + 8 * bit r.walkCancelled)] ++
        word (match callOf s l with | none => 0 | some c => c.waited) ++
        slotBytes (slotOf s l) ++
        [if (s.slots.get l).contest.running then byte (s.slots.get l).contest.count else 0xFF,
         byte (pattern (kerbOf s l .a).pattern + 4 * pattern (kerbOf s l .b).pattern),
         byte (bit (ambientOf s l .a).stale + 2 * bit (ambientOf s l .b).stale)] ++
        (if served s l then
          let c := legConf s l
          [1] ++ word c.gmin ++ [byte c.amber, byte c.rin] ++ word c.walk ++ [byte c.ext] ++ word c.clear ++ [byte c.rout] ++
            word c.maxWait ++ word c.wmin ++ word c.kp ++ [byte c.band]
        else List.replicate 18 0)) ∧
    (∀ b : Byte, b.toNat ≤ 23 → exec (.tread [b]) s = .next (settle (withReply
      (0x00 :: 0x03 :: (if b.toNat < s.table.length then 18 else 2) :: treadContent (later s) b.toNat) (later s)))) ∧
    (∀ i, treadContent s i =
      match s.table[i]? with
      | none => [0, byte s.table.length]
      | some c => [1, byte s.table.length, byte c.station, byte (legNumber c.leg)] ++ word c.position ++ [byte c.radius] ++
          word ((c.position - (conf s).position) + ((conf s).position - c.position)) ++ [byte (phase c.phase)] ++ slotBytes c.slot ++
          [match s.heard.find? (fun h => decide (h.station = c.station)) with | some h => byte h.left | none => 0xFF]) ∧
    holdersContent s = byte s.hold.holders.length :: s.hold.holders.flatMap (fun h => [byte h.station, byte h.left]) ∧
    cntsContent s = word s.line.arbLoss ++ word s.line.collision ++ word s.line.crcErr ++ word s.line.formatErr ∧
    exec (.holders []) s = .next (settle (withReply
      (0x00 :: 0x04 :: BitVec.ofNat 8 (1 + 2 * s.hold.holders.length) :: holdersContent (later s)) (later s))) ∧
    exec (.cnts []) s = .next (settle (withReply (0x00 :: 0x05 :: 8 :: cntsContent (later s)) (later s)))

/-- A command that fails a check has no effect but its reply (R173, R175): UNKNOWN with the byte as received, LENGTH for a wrong
operand count, RANGE for an operand out of range, each without content. A byte that names a command is that command, RSTRT's with the
QUIET pin at the level last told of (the model's choice: log entry 21). -/
def Obligations.RejectedCommandsOnlyReply : Prop :=
  ∀ s : State, s.resetHeld = false →
    (∀ (code : Byte) (ops : List Byte), commandOf code = none →
      exec (.unknownCommand code ops) s = .next (settle (withReply [0x80, code, 0x00] (later s)))) ∧
    (∀ (c : PortCommand) (ops : List Byte) (quiet : Bool), ops.length ≠ operandCount c →
      exec (portInstr c ops quiet) s = .next (settle (withReply [0x81, commandCode c, 0x00] (later s)))) ∧
    (∀ (c : PortCommand) (ops : List Byte) (quiet : Bool), ops.length = operandCount c → operandsInRange c ops = false →
      exec (portInstr c ops quiet) s = .next (settle (withReply [0x82, commandCode c, 0x00] (later s)))) ∧
    (∀ (c : PortCommand) (ops : List Byte), exec (.unknownCommand (commandCode c) ops) s = exec (portInstr c ops s.quietPin) s)

/-- FCLR (R185): in one event it clears every flag whose bit is 1 in its mask and leaves the others as they stand; its reply, status
OK, carries all fourteen flags after the clearing; a mask of 0 clears nothing; a condition detected after it sets its flag
again; SRQ follows the flags in the same event (R186). -/
def Obligations.FclrClearsMaskedFlags : Prop :=
  ∀ (hi lo : Byte) (s : State), s.resetHeld = false → hi.toNat < 64 → ∃ t, exec (.fclr [hi, lo]) s = .next t ∧
    (∀ n, n < 14 → t.port.flags.getLsbD n = (s.port.flags.getLsbD n && !(hi.toNat * 256 + lo.toNat).testBit n)) ∧
    t.port.reply = some [0x00, 0x10, 2, BitVec.ofNat 8 (t.port.flags.toNat / 256), BitVec.ofNat 8 (t.port.flags.toNat % 256)] ∧
    (hi = 0#8 → lo = 0#8 → t.port.flags = s.port.flags) ∧ (∀ f : Flag, flagSet (setFlag f t) f = true) ∧
    (srq t = true ↔ ∃ n, n < 14 ∧ t.port.flags.getLsbD n = true ∧ (∀ c, s.cfg = some c → c.enable.getLsbD n = true)) ∧
    t = settle { later s with port := { s.port with flags := t.port.flags, reply := t.port.reply } }

/-- HOLD, QUIET and CALL (R179, R180). QUIET sets the quiet mode, HOLD adds or removes MAINT; each answers OK where that changed and
NO_CHANGE where it did not. A first hold source takes each leg in use in REST or CALLED to HELD (R143, R12); the last one removed
takes each HELD leg to CALLED or REST (R16). CALL is a classified press at kerb A of the leg it names (R34), and its reply has the
outcome and the leg's call after it. -/
def Obligations.SettingCommands : Prop :=
  ∀ s : State, s.resetHeld = false →
    (∀ b : Byte, b.toNat ≤ 2 →
      let m : QuietMode := if b = 0#8 then .follow else if b = 1#8 then .forceOn else .forceOff
      ∃ t, exec (.quiet [b]) s = .next t ∧
        t.port = { s.port with quietMode := m, reply := some [if s.port.quietMode = m then 0x01 else 0x00, 0x13, 1, quietByte t] } ∧
        ChangesOnly [.clock, .port, .hold, .lamps] s t) ∧
    (∀ b : Byte, b.toNat ≤ 1 → ∃ t, exec (.hold [b]) s = .next t ∧
      t.hold.maint = decide (b = 1#8) ∧ t.hold.preempt = s.hold.preempt ∧ t.hold.street = s.hold.street ∧
      t.hold.holders = s.hold.holders ∧
      t.port.reply = some [if s.hold.maint = decide (b = 1#8) then 0x01 else 0x00, 0x12, 1, sourceByte t] ∧
      (held s = false → b = 1#8 → ∀ l, inUse s l = true → (legState s l = .rest ∨ legState s l = .called) → legState t l = .held) ∧
      (held s = true → held t = false → s.mode ≠ .isolated → ∀ l, inUse s l = true → legState s l = .held →
        legState t l = if (callOf s l).isSome then .called else .rest) ∧
      (held s = held t → t.legs = s.legs)) ∧
    (∀ a b : Byte, a.toNat ≤ 1 → b.toNat ≤ 1 →
      let l : LegId := if a = 0#8 then .leg0 else .leg1
      let p := takePress l .a (if b = 0#8 then .plain else .aid) (later s)
      exec (.call [a, b]) s = .next (settle (withReply
        ([0x00, 0x11, 4, byteOf (outcomeCode p.2), byteOf (callBits (callOf p.1 l))] ++ wordOf (waitedOf (callOf p.1 l))) p.1)))

/-- The outputs that follow the state: the wait lamps (R37), SRQ (R186), what a read of the reply buffer returns (R174) and the address
the port answers (R172). -/
def Obligations.WaitLampsSrqAndReads : Prop :=
  ∀ s : State,
    (∀ l, waitLampOn s l = true ↔ s.mode ≠ .start ∧ s.mode ≠ .flash ∧
      ∃ c, callOf s l = some c ∧ (c.kind = .aid → (s.calls.get l).blinkOn = true)) ∧
    (srq s = true ↔ ∃ n, n < 14 ∧ s.port.flags.getLsbD n = true ∧ (∀ c, s.cfg = some c → c.enable.getLsbD n = true)) ∧
    (∀ n, (readReply s n).length = n) ∧
    (∀ n i, i < n → (readReply s n).getD i 0#8 = match s.port.reply with | none => 0xFF#8 | some b => b.getD i 0xFF#8) ∧
    (portAddress s = none ↔ s.resetHeld = true) ∧ (∀ a, portAddress s = some a → a.toNat = 0x2C + s.port.straps.toNat)

/-- FLASH, ISOL, JOIN and RESUME (R162 to R166, R181, R182), mode by mode, each with its reply: the mode, cause and pending isolation
after the command, with status OK where one of them changed and NO_CHANGE otherwise. An entry into FLASH (R164) takes each leg in use to
FLASH with its phase on (R18), clears calls and slots (R114), sends each kerb of a leg in use a stop word at the floor, kerb A's first,
whether or not it sounds, and silences it (R128, R117), queues a BEACON and loads its countdown with 10 ds (R52); from ISOLATED under
PREEMPT it starts the clearway (R149). An entry into ISOLATED (R162, R100) stops the own frame, empties the queue and the table, drops
pending bids and challengers and stops the beacon and clearway repeat countdowns; a leg in CLAIMED is committed, without a KEEP, and
goes on to AMBER where its start is near (R7); one in CALLED is placed at once on the empty table and committed (R79), of two such legs
either one first; the others go on. RESUME is refused under CONFIG, and where a lamp
differs, with the lamps that differ (that the mask is 0 under CONFIG is the model's choice: log entry 18); accepted, it answers OK. -/
def Obligations.ModeCommands : Prop :=
  let content := fun (s : State) => [
    (match s.mode with | .start => 0x00#8 | .listen => 0x01#8 | .run => 0x02#8 | .isolated => 0x03#8 | .flash => 0x04#8),
    (match s.cause with
      | .none => 0x00#8 | .line => 0x01#8 | .duplicate => 0x02#8 | .command => 0x03#8 | .config => 0x04#8 | .lamp => 0x05#8
      | .conflict => 0x06#8),
    (match s.isolation with | none => 0x00#8 | some .line => 0x01#8 | some .duplicate => 0x02#8 | some .command => 0x03#8)]
  let answer := fun (code : Byte) (s t : State) =>
    [if t.mode = s.mode ∧ t.cause = s.cause ∧ t.isolation = s.isolation then 0x01#8 else 0x00#8, code, 3] ++ content t
  let unchanged := fun (code : Byte) (s : State) => settle (withReply ([0x01, code, 3] ++ content s) (later s))
  ∀ s : State, s.resetHeld = false →
    let floor := (s.cfg.map StationConfig.floor).getD 0
    (∃ t, exec (.flash []) s = .next t ∧ t.port.reply = some (answer 0x20 s t) ∧
      (s.mode = .start ∨ s.mode = .flash → t = unchanged 0x20 s) ∧
      (s.mode = .listen ∨ s.mode = .run ∨ s.mode = .isolated → t.mode = .flash ∧ t.cause = .command ∧
        t.isolation = (if s.mode = .isolated then isolationOf s.cause else none) ∧ t.join.running = false ∧
        t.line.beacon = { running := true, count := 10 } ∧
        (∀ l, inUse s l = true →
          t.legs.get l = { s.legs.get l with
            state := .flash, flashOn := true, flash := { running := true, count := 5 }, interval := { running := false, count := 0 },
            minGreen := { running := false, count := 0 }, walkElapsed := 0, walkCancelled := false, clearanceCut := false } ∧
          (t.links.get l).words = (s.links.get l).words ++ [BurstWord.stop .a floor, BurstWord.stop .b floor] ∧
          ∀ k, (kerbOf t l k).pattern = .silent ∧ (kerbOf t l k).phase.running = false ∧ (kerbOf t l k).sounding = 0 ∧
            (kerbOf t l k).beep = .none ∧ (kerbOf t l k).beepLeft.running = false ∧ (kerbOf t l k).step.running = false ∧
            (kerbOf t l k).shadow = (kerbOf s l k).shadow ∧ (kerbOf t l k).envelope = (kerbOf s l k).envelope) ∧
        (∀ l, inUse s l = false → t.legs.get l = s.legs.get l ∧ t.kerbs.get l = s.kerbs.get l ∧ t.links.get l = s.links.get l) ∧
        (∀ l, callOf t l = none ∧ slotOf t l = none ∧ (t.slots.get l).contest.running = false ∧ (t.slots.get l).challengers = []) ∧
        (s.cfg.isSome = true → t.line.queue.beacon =
          some (s.line.queue.beacon.getD { kind := (), stamp := s.clock + 1, sending := false })) ∧
        (s.cfg.isSome = true → s.mode = .isolated → s.hold.preempt = true → 0 < (conf s).clearwayRange →
          t.hold.clearway = { running := true, count := 20 } ∧
          t.line.queue.clear = some { kind := .clearway, stamp := s.clock + 1, sending := false }) ∧
        (s.mode ≠ .isolated → t.hold.clearway = s.hold.clearway ∧ t.line.queue.clear = s.line.queue.clear))) ∧
    (∃ t, exec (.isol []) s = .next t ∧ t.port.reply = some (answer 0x22 s t) ∧
      (s.mode = .start → t = unchanged 0x22 s) ∧
      (s.mode = .listen ∨ s.mode = .run → t.mode = .isolated ∧ t.cause = .command ∧ t.table = [] ∧ t.heard = [] ∧ t.line.tx = none ∧
        t.line.queue = Queue.empty ∧ t.line.collisions = 0 ∧ t.line.beacon.running = false ∧ t.join.running = false ∧
        t.hold.clearway.running = false ∧ t.hold.holders = s.hold.holders ∧ flagSet t .isolated = true ∧
        (∀ l, (t.slots.get l).bid = none ∧ (t.slots.get l).deferred = [] ∧ (t.slots.get l).challengers = []) ∧
        (∀ l x, inUse s l = true → legState s l = .claimed → slotOf s l = some x →
          slotOf t l = some { x with stage := .committed } ∧ (t.slots.get l).contest.running = false ∧
          legState t l = (if x.startIn ≤ (legConf s l).amber + (legConf s l).rin then .amber else .committed)) ∧
        (∀ l c, inUse s l = true → legState s l = .called → callOf s l = some c → legState t l = .committed ∧
          (legState s (otherLeg l) ≠ .called ∨ inUse s (otherLeg l) = false →
            slotOf t l = some (slotOfBid (place { s with table := [] } l c) .committed)) ∧
          (∀ d, inUse s (otherLeg l) = true → legState s (otherLeg l) = .called → callOf s (otherLeg l) = some d → ∃ first,
            let placed := fun (m : LegId) (u : State) => slotOfBid (place u m (if m = l then c else d)) .committed
            let x := placed first { s with table := [] }
            let u : State := { s with table := [], slots := s.slots.set first { s.slots.get first with slot := some x } }
            slotOf t first = some x ∧ slotOf t (otherLeg first) = some (placed (otherLeg first) u))) ∧
        (∀ l, inUse s l = false ∨ (legState s l ≠ .called ∧ legState s l ≠ .claimed) →
          t.legs.get l = s.legs.get l ∧ slotOf t l = slotOf s l)) ∧
      (s.mode = .isolated → s.cause ≠ .line → t = unchanged 0x22 s) ∧
      (s.mode = .isolated → s.cause = .line →
        t = settle (withReply ([0x00, 0x22, 3] ++ content { s with cause := .command }) { later s with cause := .command })) ∧
      (s.mode = .flash → s.isolation = none ∨ s.isolation = some .line →
        t = settle (withReply ([0x00, 0x22, 3] ++ content { s with isolation := some .command })
          { later s with isolation := some .command })) ∧
      (s.mode = .flash → s.isolation = some .duplicate ∨ s.isolation = some .command → t = unchanged 0x22 s)) ∧
    (∃ t, exec (.join []) s = .next t ∧ t.port.reply = some (answer 0x23 s t) ∧
      (s.mode = .start ∨ s.mode = .listen ∨ s.mode = .run → t = unchanged 0x23 s) ∧
      (s.mode = .isolated → s.line.faulted = true →
        t = settle (withReply ([if s.cause = .line then 0x01 else 0x00, 0x23, 3] ++ content { s with cause := .line })
          { later s with cause := .line })) ∧
      (s.mode = .isolated → s.line.faulted = false → t.mode = .listen ∧ t.cause = .none ∧ t.join = { running := true, count := 30 } ∧
        t.line.beacon = { running := true, count := 10 } ∧ (s.cfg.isSome = true → t.line.queue.beacon.isSome = true)) ∧
      (s.mode = .flash →
        let i := if s.line.faulted ∨ s.isolation = some .line then some Isolation.line else none
        t = settle (withReply ([if s.isolation = i then 0x01 else 0x00, 0x23, 3] ++ content { s with isolation := i })
          { later s with isolation := i }))) ∧
    (∃ t, exec (.resume []) s = .next t ∧
      (s.mode ≠ .flash → t = unchanged 0x21 s) ∧
      (s.mode = .flash → s.cause = .config → t = settle (withReply [0x02, 0x21, 3, 0, 0, 0] (later s))) ∧
      (s.mode = .flash → s.cause ≠ .config → anyMismatch s = true →
        t = settle (withReply ([0x02, 0x21, 3, 1] ++ wordOf (lampMask s)) (later s)) ∧
        ∀ l i, (lampMask s).testBit ((match l with | .leg0 => 0 | .leg1 => 5) +
          (match i with | .red => 0 | .amber => 1 | .green => 2 | .walk => 3 | .dontWalk => 4)) = mismatched s l i) ∧
      (s.mode = .flash → s.cause ≠ .config → anyMismatch s = false →
        t.port.reply = some ([0x00, 0x21, 3] ++ content t) ∧
        (∀ l, inUse s l = true → legState t l = .allRedOut ∧
          ((∀ k, (kerbOf s l k).pattern = .silent) → ∀ k, (kerbOf t l k).pattern = .locator) ∧
          (t.legs.get l).interval = { running := true, count := (legConf s l).rout }) ∧
        (s.isolation = none → t.mode = .run ∧ t.cause = .none ∧ t.isolation = none ∧ t.line = s.line) ∧
        (∀ i, s.isolation = some i → t.mode = .isolated ∧ t.cause = causeOf i ∧ t.isolation = none ∧ t.table = [] ∧
          flagSet t .isolated = true)))

/-- RSTRT (R183, R157, R170): RESTART, with the flags, the line counters, the strap value and its own reply kept, the quiet mode
follow, the QUIET input sampled as its pin stands (R136), every block at its RESTART values, the hold and release sides as PHQ and PRQ
read (R142): PREEMPT and a waiting hold side where PHQ is high, a spent release side where PRQ is, both acknowledge lines low and the
sets empty; the lamps' countdowns stopped, no lamp failed and the readbacks as they read (R167), the line watch not running and
normal (R41), the beacon countdown stopped (R52), a stop word to each kerb, the configuration discarded and its read begun. The model's
own in it: the stop words carry level 0, the configuration being discarded first (log entry 9); stopped counts are 0 (log entry 19);
`walkAid` is no (log entry 20); and the QUIET pin's level is an operand of the write (log entry 22). -/
def Obligations.RestartKeepsFlagsAndCounters : Prop :=
  ∀ (quiet : Bool) (s : State), s.resetHeld = false → ∃ t, exec (.rstrt { bytes := [], quiet := quiet }) s = .next t ∧
    t.port = { straps := s.port.straps, reply := some [0x00, 0x2F, 0x00], flags := s.port.flags, quietMode := .follow } ∧
    t.line.arbLoss = s.line.arbLoss ∧ t.line.collision = s.line.collision ∧ t.line.crcErr = s.line.crcErr ∧
    t.line.formatErr = s.line.formatErr ∧ t.line.collisions = 0 ∧ t.line.queue = Queue.empty ∧ t.line.tx = none ∧
    t.line.faulted = false ∧ t.line.beacon = { running := false, count := 0 } ∧
    t.mode = .start ∧ t.cause = .none ∧ t.faultCheck = .none ∧ t.isolation = none ∧ t.cfg = none ∧ t.reading = true ∧
    t.join = { running := false, count := 0 } ∧ t.table = [] ∧ t.heard = [] ∧
    (∀ l, t.legs.get l = LegRec.atStart ∧ t.calls.get l = CallRec.atStart ∧ t.slots.get l = SlotRec.atStart) ∧
    (∀ l k, buttonOf t l k = Button.atStart ∧ kerbOf t l k = Kerb.atStart ∧ ambientOf t l k = Ambient.atStart) ∧
    (∀ l i, lampRec t l i = { readback := (lampRec s l i).readback, mismatch := { running := false, count := 0 }, failed := false }) ∧
    (∀ l, (t.links.get l).words = (s.links.get l).words ++ [BurstWord.stop .a 0, BurstWord.stop .b 0]) ∧
    t.hold = { preempt := s.phq, street := false, maint := false, holders := [], side := if s.phq then .waiting else .idle,
               release := if s.prq then .spent else .idle, pha := false, pra := false, clearway := { running := false, count := 0 } } ∧
    t.phq = s.phq ∧ t.prq = s.prq ∧ t.quietPin = quiet ∧ t.quietInput = quiet ∧
    t.resetHeld = false ∧ t.sinceTick = s.sinceTick ∧ t.choices = s.choices ∧ t.pending = s.pending

/-! ## Whole-machine rules -/

/-- The decisecond tick (00_scope.md, Time; R27, R24, R9, R37, R167): every running decisecond count steps once, in every block, the
blink countdown of a call and the ten mismatch countdowns among them; a waited count stops at 4095, held time at 600, walk elapsed at
the walk length; a pending bid does not count (R77), a deferred frame's slot does (R107). Then the event settles, as every one does.
The model's own in it: a count at 0 stays there, and what its expiry does is a command of its own (log entry 2); and the rest of the
decisecond, in eighths of a millisecond, passes at the kerbs and on the audio links (log entry 3). -/
def Obligations.TickStepsEveryCount : Prop :=
  ∀ s : State, s.resetHeld = false → ∃ t u, exec .decisecondTick s = .next t ∧ t = settle u ∧
    let step := fun (c : Countdown) => if c.running then { c with count := c.count - 1 } else c
    let stepSlot := fun (x : Slot) => { x with startIn := x.startIn - 1, endIn := x.endIn - 1 }
    let rest := 800 - s.sinceTick
    let pass := fun (c : Countdown) => if c.running then { c with count := c.count - rest } else c
    u.join = step s.join ∧ u.line = { s.line with beacon := step s.line.beacon } ∧
    (∀ l, u.legs.get l = { s.legs.get l with
      interval := step (s.legs.get l).interval, minGreen := step (s.legs.get l).minGreen, flash := step (s.legs.get l).flash,
      walkElapsed := if legState s l = .walk ∧ (s.legs.get l).walkElapsed < (s.legs.get l).walkLength then
        (s.legs.get l).walkElapsed + 1 else (s.legs.get l).walkElapsed }) ∧
    (∀ l k, buttonOf u l k = { buttonOf s l k with
      heldTime := if (buttonOf s l k).input = .held ∧ (buttonOf s l k).heldTime < 600 then (buttonOf s l k).heldTime + 1
                  else (buttonOf s l k).heldTime }) ∧
    (∀ l, u.calls.get l = { s.calls.get l with
      call := (callOf s l).map (fun c => { c with waited := min 4095 (c.waited + 1) }), blink := step (s.calls.get l).blink }) ∧
    (∀ l, u.slots.get l = { s.slots.get l with
      slot := (slotOf s l).map stepSlot, contest := step (s.slots.get l).contest,
      deferred := (s.slots.get l).deferred.map (fun d =>
        match d with
        | .frame c => .frame { c with slot := stepSlot c.slot }
        | .upgrade => .upgrade) }) ∧
    u.table = s.table.map (fun c => { c with slot := c.slot.map stepSlot }) ∧
    u.heard = s.heard.map (fun h => { h with left := h.left - 1 }) ∧
    u.hold = { s.hold with
      holders := s.hold.holders.map (fun h => { h with left := h.left - 1 }), clearway := step s.hold.clearway } ∧
    (∀ l i, lampRec u l i = { lampRec s l i with mismatch := step (lampRec s l i).mismatch }) ∧
    (∀ l k, ambientOf u l k = { ambientOf s l k with staleness := step (ambientOf s l k).staleness }) ∧
    (∀ l k, let r := kerbOf s l k
      kerbOf u l k = { r with
        step := step r.step, phase := pass r.phase, sounding := r.sounding - rest, beepLeft := pass r.beepLeft,
        late := if r.phase.running then r.late + (rest - r.phase.count) else r.late }) ∧
    (∀ l, u.links.get l = drain rest (s.links.get l).left (s.links.get l).words) ∧ u.sinceTick = s.sinceTick - 800 ∧
    ChangesOnly [.clock, .join, .legs, .buttons, .calls, .slots, .table, .heard, .line, .hold, .kerbs, .links, .ambient, .lamps,
      .sinceTick] s u

/-- A command whose rule's condition on the state does not hold changes nothing. That such a command may be sent at all is the
model's choice (log entry 1). -/
def Obligations.CommandsOutOfTurnChangeNothing : Prop :=
  ∀ (c : Instr) (s : State), occurs c s = false → exec c s = .next s

/-- Every command changes only the parts that `commandParts` lists for it, and what every event settles; the queue of waiting
commands is never among them. -/
def Obligations.CommandsChangeOnlyTheirParts : Prop :=
  ∀ (c : Instr) (s : State), ∃ t, exec c s = .next t ∧ ChangesOnly (settledParts ++ commandParts c) s t

/-- A leg enters WALK only at the expiry of its ALL_RED_IN interval, in RUN or ISOLATED, with no hold source (R9); a leg goes
from a state that shows no vehicle green to one that does only at the expiry of its ALL_RED_OUT interval (R2, R11). From every
state whatever. -/
def Obligations.WalkAndGreenAreEnteredSafely : Prop :=
  ∀ (c : Instr) (l : LegId) (s t : State), exec c s = .next t →
    (legState t l = .walk → legState s l ≠ .walk →
      c = .allRedInExpiry l ∧ legState s l = .allRedIn ∧ (s.legs.get l).interval = { running := true, count := 0 } ∧
      (s.mode = .run ∨ s.mode = .isolated) ∧ held s = false) ∧
    (greenShown (legState t l) = true → greenShown (legState s l) = false →
      c = .allRedOutExpiry l ∧ legState s l = .allRedOut ∧ (s.legs.get l).interval = { running := true, count := 0 })

/-- Every step keeps what the model says of the Crossing Table, the holders and the own number (R57, R60, R71, R74, R142, R153). -/
def Obligations.ForeignStateIsKept : Prop :=
  ∀ s t : State, ModeOk s → TableOk s → HoldersOk s → OwnNumberOk s → step s = .next t → TableOk t ∧ HoldersOk t ∧ OwnNumberOk t

/-- Every step keeps the agreement of mode, cause, fault check, pending isolation, join countdown and configuration (R156), and
has a configuration read in progress in START alone (R157, R160). That no read is in progress while the RESET pin is held is the model's
reading of R157 (log entry 10). -/
def Obligations.ModeIsKept : Prop := ∀ s t : State, ModeOk s → step s = .next t → ModeOk t

/-- Every step keeps the agreement of the legs with the mode, of the intervals with the leg states, and of the slots and contests
with the leg states (R1, R13, R18, R19, R20, R76, R97). -/
def Obligations.LegsAreKept : Prop := ∀ s t : State, ModeOk s → LegsOk s → step s = .next t → LegsOk t

/-- Every step keeps the acknowledge lines at the state of the request sides, and the sides idle while their lines are low (R145
to R148); and the lamp records in agreement with the readbacks and the commands (R167). -/
def Obligations.HandshakeAndLampsAreKept : Prop :=
  ∀ s t : State, ModeOk s → step s = .next t → (HandshakeOk s → HandshakeOk t) ∧ (LampsOk s → LampsOk t)

/-- Every step keeps each pending bid to the BID in transmission, each deferred list to a pending bid, and the queue empty and the
line quiet in START and ISOLATED (R51, R54, R77, R93, R96). -/
def Obligations.LineIsKept : Prop := ∀ s t : State, ModeOk s → LineOk s → step s = .next t → LineOk t

/-- The state after reset meets every invariant. -/
def Obligations.ResetMeetsInvariants : Prop :=
  ModeOk State.reset ∧ TableOk State.reset ∧ HoldersOk State.reset ∧ OwnNumberOk State.reset ∧ LegsOk State.reset ∧
  HandshakeOk State.reset ∧ LineOk State.reset ∧ LampsOk State.reset

/-- A leg changes state only along the service cycle and its hold paths (R5 to R17), except into FLASH (R18) and by a command
that begins START (R19): never, for one, from AMBER back to green, or from WALK to green. -/
def Obligations.LegsMoveAlongTheCycle : Prop :=
  ∀ (c : Instr) (l : LegId) (s t : State), ModeOk s → LegsOk s → restarts c = false → exec c s = .next t →
    legState t l = legState s l ∨ legState t l = .flash ∨ legMove (legState s l) (legState t l) = true
end

