-- ==== Sys2Proof/Laws/State.lean ====
section
/-! SUPPORT. What reads of State give after an update: one lemma per field per update, and the reads of one of two or of
five. -/

namespace Sys2Proof.Machine

/-! ### One of two, one of five -/

@[simp] theorem Legs.get_set_self {α : Type} (p : Legs α) (l : LegId) (v : α) : (p.set l v).get l = v := by cases l <;> rfl

theorem Legs.get_set {α : Type} (p : Legs α) (l m : LegId) (v : α) : (p.set l v).get m = if m = l then v else p.get m := by
  cases l <;> cases m <;> rfl

@[simp] theorem Legs.get_set_other {α : Type} (p : Legs α) (l : LegId) (v : α) : (p.set l v).get (otherLeg l) = p.get (otherLeg l) := by
  cases l <;> rfl

@[simp] theorem Legs.get_upd_self {α : Type} (p : Legs α) (l : LegId) (f : α → α) : (p.upd l f).get l = f (p.get l) := by
  cases l <;> rfl

@[simp] theorem Legs.get_upd_other {α : Type} (p : Legs α) (l : LegId) (f : α → α) :
    (p.upd l f).get (otherLeg l) = p.get (otherLeg l) := by cases l <;> rfl

theorem Legs.get_upd {α : Type} (p : Legs α) (l m : LegId) (f : α → α) :
    (p.upd l f).get m = if m = l then f (p.get l) else p.get m := by cases l <;> cases m <;> rfl

@[simp] theorem Legs.get_map {α β : Type} (f : α → β) (p : Legs α) (l : LegId) : (p.map f).get l = f (p.get l) := by cases l <;> rfl

@[simp] theorem Legs.set_get {α : Type} (p : Legs α) (l : LegId) : p.set l (p.get l) = p := by cases l <;> rfl

@[simp] theorem Legs.set_set {α : Type} (p : Legs α) (l : LegId) (v w : α) : (p.set l v).set l w = p.set l w := by cases l <;> rfl

theorem Legs.ext_get {α : Type} {p q : Legs α} (h : ∀ l, p.get l = q.get l) : p = q := by
  cases p; cases q; have h0 := h .leg0; have h1 := h .leg1; simp only [Legs.get] at h0 h1; subst h0 h1; rfl

@[simp] theorem Kerbs.get_set_self {α : Type} (p : Kerbs α) (k : Side) (v : α) : (p.set k v).get k = v := by cases k <;> rfl

theorem Kerbs.get_set {α : Type} (p : Kerbs α) (k m : Side) (v : α) : (p.set k v).get m = if m = k then v else p.get m := by
  cases k <;> cases m <;> rfl

@[simp] theorem Kerbs.get_upd_self {α : Type} (p : Kerbs α) (k : Side) (f : α → α) : (p.upd k f).get k = f (p.get k) := by
  cases k <;> rfl

theorem Kerbs.get_upd {α : Type} (p : Kerbs α) (k m : Side) (f : α → α) :
    (p.upd k f).get m = if m = k then f (p.get k) else p.get m := by cases k <;> cases m <;> rfl

@[simp] theorem Kerbs.get_map {α β : Type} (f : α → β) (p : Kerbs α) (k : Side) : (p.map f).get k = f (p.get k) := by cases k <;> rfl

@[simp] theorem Lamps.get_set_self {α : Type} (p : Lamps α) (i : LampId) (v : α) : (p.set i v).get i = v := by cases i <;> rfl

theorem Lamps.get_set {α : Type} (p : Lamps α) (i j : LampId) (v : α) : (p.set i v).get j = if j = i then v else p.get j := by
  cases i <;> cases j <;> rfl

@[simp] theorem Lamps.get_upd_self {α : Type} (p : Lamps α) (i : LampId) (f : α → α) : (p.upd i f).get i = f (p.get i) := by
  cases i <;> rfl

theorem Lamps.get_upd {α : Type} (p : Lamps α) (i j : LampId) (f : α → α) :
    (p.upd i f).get j = if j = i then f (p.get i) else p.get j := by cases i <;> cases j <;> rfl

@[simp] theorem otherLeg_otherLeg (l : LegId) : otherLeg (otherLeg l) = l := by cases l <;> rfl

theorem otherLeg_ne (l : LegId) : otherLeg l ≠ l := by cases l <;> decide

theorem eq_otherLeg {l m : LegId} (h : m ≠ l) : m = otherLeg l := by cases l <;> cases m <;> simp_all [otherLeg]

/-! ### Countdowns -/

@[simp] theorem Countdown.due_load (n : Nat) : (Countdown.load n).due = decide (n = 0) := rfl

@[simp] theorem Countdown.due_stopped : Countdown.stopped.due = false := rfl

@[simp] theorem Countdown.tick_stopped : Countdown.stopped.tick = Countdown.stopped := rfl

@[simp] theorem Countdown.tick_running (c : Countdown) : c.tick.running = c.running := by
  unfold Countdown.tick; split <;> rfl

theorem Countdown.due_iff (c : Countdown) : c.due = true ↔ c = { running := true, count := 0 } := by
  cases c with | mk r n => cases r <;> simp [Countdown.due]

/-! ### Updates of one piece of State -/

@[simp] theorem updLeg_resetHeld (l : LegId) (f : LegRec → LegRec) (s : State) : (updLeg l f s).resetHeld = s.resetHeld := rfl
@[simp] theorem updLeg_reading (l : LegId) (f : LegRec → LegRec) (s : State) : (updLeg l f s).reading = s.reading := rfl
@[simp] theorem updLeg_mode (l : LegId) (f : LegRec → LegRec) (s : State) : (updLeg l f s).mode = s.mode := rfl
@[simp] theorem updLeg_cause (l : LegId) (f : LegRec → LegRec) (s : State) : (updLeg l f s).cause = s.cause := rfl
@[simp] theorem updLeg_faultCheck (l : LegId) (f : LegRec → LegRec) (s : State) : (updLeg l f s).faultCheck = s.faultCheck := rfl
@[simp] theorem updLeg_isolation (l : LegId) (f : LegRec → LegRec) (s : State) : (updLeg l f s).isolation = s.isolation := rfl
@[simp] theorem updLeg_join (l : LegId) (f : LegRec → LegRec) (s : State) : (updLeg l f s).join = s.join := rfl
@[simp] theorem updLeg_cfg (l : LegId) (f : LegRec → LegRec) (s : State) : (updLeg l f s).cfg = s.cfg := rfl
@[simp] theorem updLeg_legs (l : LegId) (f : LegRec → LegRec) (s : State) : (updLeg l f s).legs = s.legs.upd l f := rfl
@[simp] theorem updLeg_buttons (l : LegId) (f : LegRec → LegRec) (s : State) : (updLeg l f s).buttons = s.buttons := rfl
@[simp] theorem updLeg_calls (l : LegId) (f : LegRec → LegRec) (s : State) : (updLeg l f s).calls = s.calls := rfl
@[simp] theorem updLeg_slots (l : LegId) (f : LegRec → LegRec) (s : State) : (updLeg l f s).slots = s.slots := rfl
@[simp] theorem updLeg_table (l : LegId) (f : LegRec → LegRec) (s : State) : (updLeg l f s).table = s.table := rfl
@[simp] theorem updLeg_heard (l : LegId) (f : LegRec → LegRec) (s : State) : (updLeg l f s).heard = s.heard := rfl
@[simp] theorem updLeg_line (l : LegId) (f : LegRec → LegRec) (s : State) : (updLeg l f s).line = s.line := rfl
@[simp] theorem updLeg_hold (l : LegId) (f : LegRec → LegRec) (s : State) : (updLeg l f s).hold = s.hold := rfl
@[simp] theorem updLeg_kerbs (l : LegId) (f : LegRec → LegRec) (s : State) : (updLeg l f s).kerbs = s.kerbs := rfl
@[simp] theorem updLeg_links (l : LegId) (f : LegRec → LegRec) (s : State) : (updLeg l f s).links = s.links := rfl
@[simp] theorem updLeg_ambient (l : LegId) (f : LegRec → LegRec) (s : State) : (updLeg l f s).ambient = s.ambient := rfl
@[simp] theorem updLeg_lamps (l : LegId) (f : LegRec → LegRec) (s : State) : (updLeg l f s).lamps = s.lamps := rfl
@[simp] theorem updLeg_port (l : LegId) (f : LegRec → LegRec) (s : State) : (updLeg l f s).port = s.port := rfl
@[simp] theorem updLeg_phq (l : LegId) (f : LegRec → LegRec) (s : State) : (updLeg l f s).phq = s.phq := rfl
@[simp] theorem updLeg_prq (l : LegId) (f : LegRec → LegRec) (s : State) : (updLeg l f s).prq = s.prq := rfl
@[simp] theorem updLeg_quietPin (l : LegId) (f : LegRec → LegRec) (s : State) : (updLeg l f s).quietPin = s.quietPin := rfl
@[simp] theorem updLeg_quietInput (l : LegId) (f : LegRec → LegRec) (s : State) : (updLeg l f s).quietInput = s.quietInput := rfl
@[simp] theorem updLeg_sinceTick (l : LegId) (f : LegRec → LegRec) (s : State) : (updLeg l f s).sinceTick = s.sinceTick := rfl
@[simp] theorem updLeg_clock (l : LegId) (f : LegRec → LegRec) (s : State) : (updLeg l f s).clock = s.clock := rfl
@[simp] theorem updLeg_choices (l : LegId) (f : LegRec → LegRec) (s : State) : (updLeg l f s).choices = s.choices := rfl
@[simp] theorem updLeg_pending (l : LegId) (f : LegRec → LegRec) (s : State) : (updLeg l f s).pending = s.pending := rfl

@[simp] theorem updButton_resetHeld (l : LegId) (k : Side) (f : Button → Button) (s : State) : (updButton l k f s).resetHeld = s.resetHeld := rfl
@[simp] theorem updButton_reading (l : LegId) (k : Side) (f : Button → Button) (s : State) : (updButton l k f s).reading = s.reading := rfl
@[simp] theorem updButton_mode (l : LegId) (k : Side) (f : Button → Button) (s : State) : (updButton l k f s).mode = s.mode := rfl
@[simp] theorem updButton_cause (l : LegId) (k : Side) (f : Button → Button) (s : State) : (updButton l k f s).cause = s.cause := rfl
@[simp] theorem updButton_faultCheck (l : LegId) (k : Side) (f : Button → Button) (s : State) : (updButton l k f s).faultCheck = s.faultCheck := rfl
@[simp] theorem updButton_isolation (l : LegId) (k : Side) (f : Button → Button) (s : State) : (updButton l k f s).isolation = s.isolation := rfl
@[simp] theorem updButton_join (l : LegId) (k : Side) (f : Button → Button) (s : State) : (updButton l k f s).join = s.join := rfl
@[simp] theorem updButton_cfg (l : LegId) (k : Side) (f : Button → Button) (s : State) : (updButton l k f s).cfg = s.cfg := rfl
@[simp] theorem updButton_legs (l : LegId) (k : Side) (f : Button → Button) (s : State) : (updButton l k f s).legs = s.legs := rfl
@[simp] theorem updButton_buttons (l : LegId) (k : Side) (f : Button → Button) (s : State) : (updButton l k f s).buttons = s.buttons.upd l (fun p => p.upd k f) := rfl
@[simp] theorem updButton_calls (l : LegId) (k : Side) (f : Button → Button) (s : State) : (updButton l k f s).calls = s.calls := rfl
@[simp] theorem updButton_slots (l : LegId) (k : Side) (f : Button → Button) (s : State) : (updButton l k f s).slots = s.slots := rfl
@[simp] theorem updButton_table (l : LegId) (k : Side) (f : Button → Button) (s : State) : (updButton l k f s).table = s.table := rfl
@[simp] theorem updButton_heard (l : LegId) (k : Side) (f : Button → Button) (s : State) : (updButton l k f s).heard = s.heard := rfl
@[simp] theorem updButton_line (l : LegId) (k : Side) (f : Button → Button) (s : State) : (updButton l k f s).line = s.line := rfl
@[simp] theorem updButton_hold (l : LegId) (k : Side) (f : Button → Button) (s : State) : (updButton l k f s).hold = s.hold := rfl
@[simp] theorem updButton_kerbs (l : LegId) (k : Side) (f : Button → Button) (s : State) : (updButton l k f s).kerbs = s.kerbs := rfl
@[simp] theorem updButton_links (l : LegId) (k : Side) (f : Button → Button) (s : State) : (updButton l k f s).links = s.links := rfl
@[simp] theorem updButton_ambient (l : LegId) (k : Side) (f : Button → Button) (s : State) : (updButton l k f s).ambient = s.ambient := rfl
@[simp] theorem updButton_lamps (l : LegId) (k : Side) (f : Button → Button) (s : State) : (updButton l k f s).lamps = s.lamps := rfl
@[simp] theorem updButton_port (l : LegId) (k : Side) (f : Button → Button) (s : State) : (updButton l k f s).port = s.port := rfl
@[simp] theorem updButton_phq (l : LegId) (k : Side) (f : Button → Button) (s : State) : (updButton l k f s).phq = s.phq := rfl
@[simp] theorem updButton_prq (l : LegId) (k : Side) (f : Button → Button) (s : State) : (updButton l k f s).prq = s.prq := rfl
@[simp] theorem updButton_quietPin (l : LegId) (k : Side) (f : Button → Button) (s : State) : (updButton l k f s).quietPin = s.quietPin := rfl
@[simp] theorem updButton_quietInput (l : LegId) (k : Side) (f : Button → Button) (s : State) : (updButton l k f s).quietInput = s.quietInput := rfl
@[simp] theorem updButton_sinceTick (l : LegId) (k : Side) (f : Button → Button) (s : State) : (updButton l k f s).sinceTick = s.sinceTick := rfl
@[simp] theorem updButton_clock (l : LegId) (k : Side) (f : Button → Button) (s : State) : (updButton l k f s).clock = s.clock := rfl
@[simp] theorem updButton_choices (l : LegId) (k : Side) (f : Button → Button) (s : State) : (updButton l k f s).choices = s.choices := rfl
@[simp] theorem updButton_pending (l : LegId) (k : Side) (f : Button → Button) (s : State) : (updButton l k f s).pending = s.pending := rfl

@[simp] theorem updCall_resetHeld (l : LegId) (f : CallRec → CallRec) (s : State) : (updCall l f s).resetHeld = s.resetHeld := rfl
@[simp] theorem updCall_reading (l : LegId) (f : CallRec → CallRec) (s : State) : (updCall l f s).reading = s.reading := rfl
@[simp] theorem updCall_mode (l : LegId) (f : CallRec → CallRec) (s : State) : (updCall l f s).mode = s.mode := rfl
@[simp] theorem updCall_cause (l : LegId) (f : CallRec → CallRec) (s : State) : (updCall l f s).cause = s.cause := rfl
@[simp] theorem updCall_faultCheck (l : LegId) (f : CallRec → CallRec) (s : State) : (updCall l f s).faultCheck = s.faultCheck := rfl
@[simp] theorem updCall_isolation (l : LegId) (f : CallRec → CallRec) (s : State) : (updCall l f s).isolation = s.isolation := rfl
@[simp] theorem updCall_join (l : LegId) (f : CallRec → CallRec) (s : State) : (updCall l f s).join = s.join := rfl
@[simp] theorem updCall_cfg (l : LegId) (f : CallRec → CallRec) (s : State) : (updCall l f s).cfg = s.cfg := rfl
@[simp] theorem updCall_legs (l : LegId) (f : CallRec → CallRec) (s : State) : (updCall l f s).legs = s.legs := rfl
@[simp] theorem updCall_buttons (l : LegId) (f : CallRec → CallRec) (s : State) : (updCall l f s).buttons = s.buttons := rfl
@[simp] theorem updCall_calls (l : LegId) (f : CallRec → CallRec) (s : State) : (updCall l f s).calls = s.calls.upd l f := rfl
@[simp] theorem updCall_slots (l : LegId) (f : CallRec → CallRec) (s : State) : (updCall l f s).slots = s.slots := rfl
@[simp] theorem updCall_table (l : LegId) (f : CallRec → CallRec) (s : State) : (updCall l f s).table = s.table := rfl
@[simp] theorem updCall_heard (l : LegId) (f : CallRec → CallRec) (s : State) : (updCall l f s).heard = s.heard := rfl
@[simp] theorem updCall_line (l : LegId) (f : CallRec → CallRec) (s : State) : (updCall l f s).line = s.line := rfl
@[simp] theorem updCall_hold (l : LegId) (f : CallRec → CallRec) (s : State) : (updCall l f s).hold = s.hold := rfl
@[simp] theorem updCall_kerbs (l : LegId) (f : CallRec → CallRec) (s : State) : (updCall l f s).kerbs = s.kerbs := rfl
@[simp] theorem updCall_links (l : LegId) (f : CallRec → CallRec) (s : State) : (updCall l f s).links = s.links := rfl
@[simp] theorem updCall_ambient (l : LegId) (f : CallRec → CallRec) (s : State) : (updCall l f s).ambient = s.ambient := rfl
@[simp] theorem updCall_lamps (l : LegId) (f : CallRec → CallRec) (s : State) : (updCall l f s).lamps = s.lamps := rfl
@[simp] theorem updCall_port (l : LegId) (f : CallRec → CallRec) (s : State) : (updCall l f s).port = s.port := rfl
@[simp] theorem updCall_phq (l : LegId) (f : CallRec → CallRec) (s : State) : (updCall l f s).phq = s.phq := rfl
@[simp] theorem updCall_prq (l : LegId) (f : CallRec → CallRec) (s : State) : (updCall l f s).prq = s.prq := rfl
@[simp] theorem updCall_quietPin (l : LegId) (f : CallRec → CallRec) (s : State) : (updCall l f s).quietPin = s.quietPin := rfl
@[simp] theorem updCall_quietInput (l : LegId) (f : CallRec → CallRec) (s : State) : (updCall l f s).quietInput = s.quietInput := rfl
@[simp] theorem updCall_sinceTick (l : LegId) (f : CallRec → CallRec) (s : State) : (updCall l f s).sinceTick = s.sinceTick := rfl
@[simp] theorem updCall_clock (l : LegId) (f : CallRec → CallRec) (s : State) : (updCall l f s).clock = s.clock := rfl
@[simp] theorem updCall_choices (l : LegId) (f : CallRec → CallRec) (s : State) : (updCall l f s).choices = s.choices := rfl
@[simp] theorem updCall_pending (l : LegId) (f : CallRec → CallRec) (s : State) : (updCall l f s).pending = s.pending := rfl

@[simp] theorem updSlot_resetHeld (l : LegId) (f : SlotRec → SlotRec) (s : State) : (updSlot l f s).resetHeld = s.resetHeld := rfl
@[simp] theorem updSlot_reading (l : LegId) (f : SlotRec → SlotRec) (s : State) : (updSlot l f s).reading = s.reading := rfl
@[simp] theorem updSlot_mode (l : LegId) (f : SlotRec → SlotRec) (s : State) : (updSlot l f s).mode = s.mode := rfl
@[simp] theorem updSlot_cause (l : LegId) (f : SlotRec → SlotRec) (s : State) : (updSlot l f s).cause = s.cause := rfl
@[simp] theorem updSlot_faultCheck (l : LegId) (f : SlotRec → SlotRec) (s : State) : (updSlot l f s).faultCheck = s.faultCheck := rfl
@[simp] theorem updSlot_isolation (l : LegId) (f : SlotRec → SlotRec) (s : State) : (updSlot l f s).isolation = s.isolation := rfl
@[simp] theorem updSlot_join (l : LegId) (f : SlotRec → SlotRec) (s : State) : (updSlot l f s).join = s.join := rfl
@[simp] theorem updSlot_cfg (l : LegId) (f : SlotRec → SlotRec) (s : State) : (updSlot l f s).cfg = s.cfg := rfl
@[simp] theorem updSlot_legs (l : LegId) (f : SlotRec → SlotRec) (s : State) : (updSlot l f s).legs = s.legs := rfl
@[simp] theorem updSlot_buttons (l : LegId) (f : SlotRec → SlotRec) (s : State) : (updSlot l f s).buttons = s.buttons := rfl
@[simp] theorem updSlot_calls (l : LegId) (f : SlotRec → SlotRec) (s : State) : (updSlot l f s).calls = s.calls := rfl
@[simp] theorem updSlot_slots (l : LegId) (f : SlotRec → SlotRec) (s : State) : (updSlot l f s).slots = s.slots.upd l f := rfl
@[simp] theorem updSlot_table (l : LegId) (f : SlotRec → SlotRec) (s : State) : (updSlot l f s).table = s.table := rfl
@[simp] theorem updSlot_heard (l : LegId) (f : SlotRec → SlotRec) (s : State) : (updSlot l f s).heard = s.heard := rfl
@[simp] theorem updSlot_line (l : LegId) (f : SlotRec → SlotRec) (s : State) : (updSlot l f s).line = s.line := rfl
@[simp] theorem updSlot_hold (l : LegId) (f : SlotRec → SlotRec) (s : State) : (updSlot l f s).hold = s.hold := rfl
@[simp] theorem updSlot_kerbs (l : LegId) (f : SlotRec → SlotRec) (s : State) : (updSlot l f s).kerbs = s.kerbs := rfl
@[simp] theorem updSlot_links (l : LegId) (f : SlotRec → SlotRec) (s : State) : (updSlot l f s).links = s.links := rfl
@[simp] theorem updSlot_ambient (l : LegId) (f : SlotRec → SlotRec) (s : State) : (updSlot l f s).ambient = s.ambient := rfl
@[simp] theorem updSlot_lamps (l : LegId) (f : SlotRec → SlotRec) (s : State) : (updSlot l f s).lamps = s.lamps := rfl
@[simp] theorem updSlot_port (l : LegId) (f : SlotRec → SlotRec) (s : State) : (updSlot l f s).port = s.port := rfl
@[simp] theorem updSlot_phq (l : LegId) (f : SlotRec → SlotRec) (s : State) : (updSlot l f s).phq = s.phq := rfl
@[simp] theorem updSlot_prq (l : LegId) (f : SlotRec → SlotRec) (s : State) : (updSlot l f s).prq = s.prq := rfl
@[simp] theorem updSlot_quietPin (l : LegId) (f : SlotRec → SlotRec) (s : State) : (updSlot l f s).quietPin = s.quietPin := rfl
@[simp] theorem updSlot_quietInput (l : LegId) (f : SlotRec → SlotRec) (s : State) : (updSlot l f s).quietInput = s.quietInput := rfl
@[simp] theorem updSlot_sinceTick (l : LegId) (f : SlotRec → SlotRec) (s : State) : (updSlot l f s).sinceTick = s.sinceTick := rfl
@[simp] theorem updSlot_clock (l : LegId) (f : SlotRec → SlotRec) (s : State) : (updSlot l f s).clock = s.clock := rfl
@[simp] theorem updSlot_choices (l : LegId) (f : SlotRec → SlotRec) (s : State) : (updSlot l f s).choices = s.choices := rfl
@[simp] theorem updSlot_pending (l : LegId) (f : SlotRec → SlotRec) (s : State) : (updSlot l f s).pending = s.pending := rfl

@[simp] theorem updLine_resetHeld (f : Line → Line) (s : State) : (updLine f s).resetHeld = s.resetHeld := rfl
@[simp] theorem updLine_reading (f : Line → Line) (s : State) : (updLine f s).reading = s.reading := rfl
@[simp] theorem updLine_mode (f : Line → Line) (s : State) : (updLine f s).mode = s.mode := rfl
@[simp] theorem updLine_cause (f : Line → Line) (s : State) : (updLine f s).cause = s.cause := rfl
@[simp] theorem updLine_faultCheck (f : Line → Line) (s : State) : (updLine f s).faultCheck = s.faultCheck := rfl
@[simp] theorem updLine_isolation (f : Line → Line) (s : State) : (updLine f s).isolation = s.isolation := rfl
@[simp] theorem updLine_join (f : Line → Line) (s : State) : (updLine f s).join = s.join := rfl
@[simp] theorem updLine_cfg (f : Line → Line) (s : State) : (updLine f s).cfg = s.cfg := rfl
@[simp] theorem updLine_legs (f : Line → Line) (s : State) : (updLine f s).legs = s.legs := rfl
@[simp] theorem updLine_buttons (f : Line → Line) (s : State) : (updLine f s).buttons = s.buttons := rfl
@[simp] theorem updLine_calls (f : Line → Line) (s : State) : (updLine f s).calls = s.calls := rfl
@[simp] theorem updLine_slots (f : Line → Line) (s : State) : (updLine f s).slots = s.slots := rfl
@[simp] theorem updLine_table (f : Line → Line) (s : State) : (updLine f s).table = s.table := rfl
@[simp] theorem updLine_heard (f : Line → Line) (s : State) : (updLine f s).heard = s.heard := rfl
@[simp] theorem updLine_line (f : Line → Line) (s : State) : (updLine f s).line = f s.line := rfl
@[simp] theorem updLine_hold (f : Line → Line) (s : State) : (updLine f s).hold = s.hold := rfl
@[simp] theorem updLine_kerbs (f : Line → Line) (s : State) : (updLine f s).kerbs = s.kerbs := rfl
@[simp] theorem updLine_links (f : Line → Line) (s : State) : (updLine f s).links = s.links := rfl
@[simp] theorem updLine_ambient (f : Line → Line) (s : State) : (updLine f s).ambient = s.ambient := rfl
@[simp] theorem updLine_lamps (f : Line → Line) (s : State) : (updLine f s).lamps = s.lamps := rfl
@[simp] theorem updLine_port (f : Line → Line) (s : State) : (updLine f s).port = s.port := rfl
@[simp] theorem updLine_phq (f : Line → Line) (s : State) : (updLine f s).phq = s.phq := rfl
@[simp] theorem updLine_prq (f : Line → Line) (s : State) : (updLine f s).prq = s.prq := rfl
@[simp] theorem updLine_quietPin (f : Line → Line) (s : State) : (updLine f s).quietPin = s.quietPin := rfl
@[simp] theorem updLine_quietInput (f : Line → Line) (s : State) : (updLine f s).quietInput = s.quietInput := rfl
@[simp] theorem updLine_sinceTick (f : Line → Line) (s : State) : (updLine f s).sinceTick = s.sinceTick := rfl
@[simp] theorem updLine_clock (f : Line → Line) (s : State) : (updLine f s).clock = s.clock := rfl
@[simp] theorem updLine_choices (f : Line → Line) (s : State) : (updLine f s).choices = s.choices := rfl
@[simp] theorem updLine_pending (f : Line → Line) (s : State) : (updLine f s).pending = s.pending := rfl

@[simp] theorem updHold_resetHeld (f : Hold → Hold) (s : State) : (updHold f s).resetHeld = s.resetHeld := rfl
@[simp] theorem updHold_reading (f : Hold → Hold) (s : State) : (updHold f s).reading = s.reading := rfl
@[simp] theorem updHold_mode (f : Hold → Hold) (s : State) : (updHold f s).mode = s.mode := rfl
@[simp] theorem updHold_cause (f : Hold → Hold) (s : State) : (updHold f s).cause = s.cause := rfl
@[simp] theorem updHold_faultCheck (f : Hold → Hold) (s : State) : (updHold f s).faultCheck = s.faultCheck := rfl
@[simp] theorem updHold_isolation (f : Hold → Hold) (s : State) : (updHold f s).isolation = s.isolation := rfl
@[simp] theorem updHold_join (f : Hold → Hold) (s : State) : (updHold f s).join = s.join := rfl
@[simp] theorem updHold_cfg (f : Hold → Hold) (s : State) : (updHold f s).cfg = s.cfg := rfl
@[simp] theorem updHold_legs (f : Hold → Hold) (s : State) : (updHold f s).legs = s.legs := rfl
@[simp] theorem updHold_buttons (f : Hold → Hold) (s : State) : (updHold f s).buttons = s.buttons := rfl
@[simp] theorem updHold_calls (f : Hold → Hold) (s : State) : (updHold f s).calls = s.calls := rfl
@[simp] theorem updHold_slots (f : Hold → Hold) (s : State) : (updHold f s).slots = s.slots := rfl
@[simp] theorem updHold_table (f : Hold → Hold) (s : State) : (updHold f s).table = s.table := rfl
@[simp] theorem updHold_heard (f : Hold → Hold) (s : State) : (updHold f s).heard = s.heard := rfl
@[simp] theorem updHold_line (f : Hold → Hold) (s : State) : (updHold f s).line = s.line := rfl
@[simp] theorem updHold_hold (f : Hold → Hold) (s : State) : (updHold f s).hold = f s.hold := rfl
@[simp] theorem updHold_kerbs (f : Hold → Hold) (s : State) : (updHold f s).kerbs = s.kerbs := rfl
@[simp] theorem updHold_links (f : Hold → Hold) (s : State) : (updHold f s).links = s.links := rfl
@[simp] theorem updHold_ambient (f : Hold → Hold) (s : State) : (updHold f s).ambient = s.ambient := rfl
@[simp] theorem updHold_lamps (f : Hold → Hold) (s : State) : (updHold f s).lamps = s.lamps := rfl
@[simp] theorem updHold_port (f : Hold → Hold) (s : State) : (updHold f s).port = s.port := rfl
@[simp] theorem updHold_phq (f : Hold → Hold) (s : State) : (updHold f s).phq = s.phq := rfl
@[simp] theorem updHold_prq (f : Hold → Hold) (s : State) : (updHold f s).prq = s.prq := rfl
@[simp] theorem updHold_quietPin (f : Hold → Hold) (s : State) : (updHold f s).quietPin = s.quietPin := rfl
@[simp] theorem updHold_quietInput (f : Hold → Hold) (s : State) : (updHold f s).quietInput = s.quietInput := rfl
@[simp] theorem updHold_sinceTick (f : Hold → Hold) (s : State) : (updHold f s).sinceTick = s.sinceTick := rfl
@[simp] theorem updHold_clock (f : Hold → Hold) (s : State) : (updHold f s).clock = s.clock := rfl
@[simp] theorem updHold_choices (f : Hold → Hold) (s : State) : (updHold f s).choices = s.choices := rfl
@[simp] theorem updHold_pending (f : Hold → Hold) (s : State) : (updHold f s).pending = s.pending := rfl

@[simp] theorem updKerb_resetHeld (l : LegId) (k : Side) (f : Kerb → Kerb) (s : State) : (updKerb l k f s).resetHeld = s.resetHeld := rfl
@[simp] theorem updKerb_reading (l : LegId) (k : Side) (f : Kerb → Kerb) (s : State) : (updKerb l k f s).reading = s.reading := rfl
@[simp] theorem updKerb_mode (l : LegId) (k : Side) (f : Kerb → Kerb) (s : State) : (updKerb l k f s).mode = s.mode := rfl
@[simp] theorem updKerb_cause (l : LegId) (k : Side) (f : Kerb → Kerb) (s : State) : (updKerb l k f s).cause = s.cause := rfl
@[simp] theorem updKerb_faultCheck (l : LegId) (k : Side) (f : Kerb → Kerb) (s : State) : (updKerb l k f s).faultCheck = s.faultCheck := rfl
@[simp] theorem updKerb_isolation (l : LegId) (k : Side) (f : Kerb → Kerb) (s : State) : (updKerb l k f s).isolation = s.isolation := rfl
@[simp] theorem updKerb_join (l : LegId) (k : Side) (f : Kerb → Kerb) (s : State) : (updKerb l k f s).join = s.join := rfl
@[simp] theorem updKerb_cfg (l : LegId) (k : Side) (f : Kerb → Kerb) (s : State) : (updKerb l k f s).cfg = s.cfg := rfl
@[simp] theorem updKerb_legs (l : LegId) (k : Side) (f : Kerb → Kerb) (s : State) : (updKerb l k f s).legs = s.legs := rfl
@[simp] theorem updKerb_buttons (l : LegId) (k : Side) (f : Kerb → Kerb) (s : State) : (updKerb l k f s).buttons = s.buttons := rfl
@[simp] theorem updKerb_calls (l : LegId) (k : Side) (f : Kerb → Kerb) (s : State) : (updKerb l k f s).calls = s.calls := rfl
@[simp] theorem updKerb_slots (l : LegId) (k : Side) (f : Kerb → Kerb) (s : State) : (updKerb l k f s).slots = s.slots := rfl
@[simp] theorem updKerb_table (l : LegId) (k : Side) (f : Kerb → Kerb) (s : State) : (updKerb l k f s).table = s.table := rfl
@[simp] theorem updKerb_heard (l : LegId) (k : Side) (f : Kerb → Kerb) (s : State) : (updKerb l k f s).heard = s.heard := rfl
@[simp] theorem updKerb_line (l : LegId) (k : Side) (f : Kerb → Kerb) (s : State) : (updKerb l k f s).line = s.line := rfl
@[simp] theorem updKerb_hold (l : LegId) (k : Side) (f : Kerb → Kerb) (s : State) : (updKerb l k f s).hold = s.hold := rfl
@[simp] theorem updKerb_kerbs (l : LegId) (k : Side) (f : Kerb → Kerb) (s : State) : (updKerb l k f s).kerbs = s.kerbs.upd l (fun p => p.upd k f) := rfl
@[simp] theorem updKerb_links (l : LegId) (k : Side) (f : Kerb → Kerb) (s : State) : (updKerb l k f s).links = s.links := rfl
@[simp] theorem updKerb_ambient (l : LegId) (k : Side) (f : Kerb → Kerb) (s : State) : (updKerb l k f s).ambient = s.ambient := rfl
@[simp] theorem updKerb_lamps (l : LegId) (k : Side) (f : Kerb → Kerb) (s : State) : (updKerb l k f s).lamps = s.lamps := rfl
@[simp] theorem updKerb_port (l : LegId) (k : Side) (f : Kerb → Kerb) (s : State) : (updKerb l k f s).port = s.port := rfl
@[simp] theorem updKerb_phq (l : LegId) (k : Side) (f : Kerb → Kerb) (s : State) : (updKerb l k f s).phq = s.phq := rfl
@[simp] theorem updKerb_prq (l : LegId) (k : Side) (f : Kerb → Kerb) (s : State) : (updKerb l k f s).prq = s.prq := rfl
@[simp] theorem updKerb_quietPin (l : LegId) (k : Side) (f : Kerb → Kerb) (s : State) : (updKerb l k f s).quietPin = s.quietPin := rfl
@[simp] theorem updKerb_quietInput (l : LegId) (k : Side) (f : Kerb → Kerb) (s : State) : (updKerb l k f s).quietInput = s.quietInput := rfl
@[simp] theorem updKerb_sinceTick (l : LegId) (k : Side) (f : Kerb → Kerb) (s : State) : (updKerb l k f s).sinceTick = s.sinceTick := rfl
@[simp] theorem updKerb_clock (l : LegId) (k : Side) (f : Kerb → Kerb) (s : State) : (updKerb l k f s).clock = s.clock := rfl
@[simp] theorem updKerb_choices (l : LegId) (k : Side) (f : Kerb → Kerb) (s : State) : (updKerb l k f s).choices = s.choices := rfl
@[simp] theorem updKerb_pending (l : LegId) (k : Side) (f : Kerb → Kerb) (s : State) : (updKerb l k f s).pending = s.pending := rfl

@[simp] theorem updLink_resetHeld (l : LegId) (f : Link → Link) (s : State) : (updLink l f s).resetHeld = s.resetHeld := rfl
@[simp] theorem updLink_reading (l : LegId) (f : Link → Link) (s : State) : (updLink l f s).reading = s.reading := rfl
@[simp] theorem updLink_mode (l : LegId) (f : Link → Link) (s : State) : (updLink l f s).mode = s.mode := rfl
@[simp] theorem updLink_cause (l : LegId) (f : Link → Link) (s : State) : (updLink l f s).cause = s.cause := rfl
@[simp] theorem updLink_faultCheck (l : LegId) (f : Link → Link) (s : State) : (updLink l f s).faultCheck = s.faultCheck := rfl
@[simp] theorem updLink_isolation (l : LegId) (f : Link → Link) (s : State) : (updLink l f s).isolation = s.isolation := rfl
@[simp] theorem updLink_join (l : LegId) (f : Link → Link) (s : State) : (updLink l f s).join = s.join := rfl
@[simp] theorem updLink_cfg (l : LegId) (f : Link → Link) (s : State) : (updLink l f s).cfg = s.cfg := rfl
@[simp] theorem updLink_legs (l : LegId) (f : Link → Link) (s : State) : (updLink l f s).legs = s.legs := rfl
@[simp] theorem updLink_buttons (l : LegId) (f : Link → Link) (s : State) : (updLink l f s).buttons = s.buttons := rfl
@[simp] theorem updLink_calls (l : LegId) (f : Link → Link) (s : State) : (updLink l f s).calls = s.calls := rfl
@[simp] theorem updLink_slots (l : LegId) (f : Link → Link) (s : State) : (updLink l f s).slots = s.slots := rfl
@[simp] theorem updLink_table (l : LegId) (f : Link → Link) (s : State) : (updLink l f s).table = s.table := rfl
@[simp] theorem updLink_heard (l : LegId) (f : Link → Link) (s : State) : (updLink l f s).heard = s.heard := rfl
@[simp] theorem updLink_line (l : LegId) (f : Link → Link) (s : State) : (updLink l f s).line = s.line := rfl
@[simp] theorem updLink_hold (l : LegId) (f : Link → Link) (s : State) : (updLink l f s).hold = s.hold := rfl
@[simp] theorem updLink_kerbs (l : LegId) (f : Link → Link) (s : State) : (updLink l f s).kerbs = s.kerbs := rfl
@[simp] theorem updLink_links (l : LegId) (f : Link → Link) (s : State) : (updLink l f s).links = s.links.upd l f := rfl
@[simp] theorem updLink_ambient (l : LegId) (f : Link → Link) (s : State) : (updLink l f s).ambient = s.ambient := rfl
@[simp] theorem updLink_lamps (l : LegId) (f : Link → Link) (s : State) : (updLink l f s).lamps = s.lamps := rfl
@[simp] theorem updLink_port (l : LegId) (f : Link → Link) (s : State) : (updLink l f s).port = s.port := rfl
@[simp] theorem updLink_phq (l : LegId) (f : Link → Link) (s : State) : (updLink l f s).phq = s.phq := rfl
@[simp] theorem updLink_prq (l : LegId) (f : Link → Link) (s : State) : (updLink l f s).prq = s.prq := rfl
@[simp] theorem updLink_quietPin (l : LegId) (f : Link → Link) (s : State) : (updLink l f s).quietPin = s.quietPin := rfl
@[simp] theorem updLink_quietInput (l : LegId) (f : Link → Link) (s : State) : (updLink l f s).quietInput = s.quietInput := rfl
@[simp] theorem updLink_sinceTick (l : LegId) (f : Link → Link) (s : State) : (updLink l f s).sinceTick = s.sinceTick := rfl
@[simp] theorem updLink_clock (l : LegId) (f : Link → Link) (s : State) : (updLink l f s).clock = s.clock := rfl
@[simp] theorem updLink_choices (l : LegId) (f : Link → Link) (s : State) : (updLink l f s).choices = s.choices := rfl
@[simp] theorem updLink_pending (l : LegId) (f : Link → Link) (s : State) : (updLink l f s).pending = s.pending := rfl

@[simp] theorem updAmbient_resetHeld (l : LegId) (k : Side) (f : Ambient → Ambient) (s : State) : (updAmbient l k f s).resetHeld = s.resetHeld := rfl
@[simp] theorem updAmbient_reading (l : LegId) (k : Side) (f : Ambient → Ambient) (s : State) : (updAmbient l k f s).reading = s.reading := rfl
@[simp] theorem updAmbient_mode (l : LegId) (k : Side) (f : Ambient → Ambient) (s : State) : (updAmbient l k f s).mode = s.mode := rfl
@[simp] theorem updAmbient_cause (l : LegId) (k : Side) (f : Ambient → Ambient) (s : State) : (updAmbient l k f s).cause = s.cause := rfl
@[simp] theorem updAmbient_faultCheck (l : LegId) (k : Side) (f : Ambient → Ambient) (s : State) : (updAmbient l k f s).faultCheck = s.faultCheck := rfl
@[simp] theorem updAmbient_isolation (l : LegId) (k : Side) (f : Ambient → Ambient) (s : State) : (updAmbient l k f s).isolation = s.isolation := rfl
@[simp] theorem updAmbient_join (l : LegId) (k : Side) (f : Ambient → Ambient) (s : State) : (updAmbient l k f s).join = s.join := rfl
@[simp] theorem updAmbient_cfg (l : LegId) (k : Side) (f : Ambient → Ambient) (s : State) : (updAmbient l k f s).cfg = s.cfg := rfl
@[simp] theorem updAmbient_legs (l : LegId) (k : Side) (f : Ambient → Ambient) (s : State) : (updAmbient l k f s).legs = s.legs := rfl
@[simp] theorem updAmbient_buttons (l : LegId) (k : Side) (f : Ambient → Ambient) (s : State) : (updAmbient l k f s).buttons = s.buttons := rfl
@[simp] theorem updAmbient_calls (l : LegId) (k : Side) (f : Ambient → Ambient) (s : State) : (updAmbient l k f s).calls = s.calls := rfl
@[simp] theorem updAmbient_slots (l : LegId) (k : Side) (f : Ambient → Ambient) (s : State) : (updAmbient l k f s).slots = s.slots := rfl
@[simp] theorem updAmbient_table (l : LegId) (k : Side) (f : Ambient → Ambient) (s : State) : (updAmbient l k f s).table = s.table := rfl
@[simp] theorem updAmbient_heard (l : LegId) (k : Side) (f : Ambient → Ambient) (s : State) : (updAmbient l k f s).heard = s.heard := rfl
@[simp] theorem updAmbient_line (l : LegId) (k : Side) (f : Ambient → Ambient) (s : State) : (updAmbient l k f s).line = s.line := rfl
@[simp] theorem updAmbient_hold (l : LegId) (k : Side) (f : Ambient → Ambient) (s : State) : (updAmbient l k f s).hold = s.hold := rfl
@[simp] theorem updAmbient_kerbs (l : LegId) (k : Side) (f : Ambient → Ambient) (s : State) : (updAmbient l k f s).kerbs = s.kerbs := rfl
@[simp] theorem updAmbient_links (l : LegId) (k : Side) (f : Ambient → Ambient) (s : State) : (updAmbient l k f s).links = s.links := rfl
@[simp] theorem updAmbient_ambient (l : LegId) (k : Side) (f : Ambient → Ambient) (s : State) : (updAmbient l k f s).ambient = s.ambient.upd l (fun p => p.upd k f) := rfl
@[simp] theorem updAmbient_lamps (l : LegId) (k : Side) (f : Ambient → Ambient) (s : State) : (updAmbient l k f s).lamps = s.lamps := rfl
@[simp] theorem updAmbient_port (l : LegId) (k : Side) (f : Ambient → Ambient) (s : State) : (updAmbient l k f s).port = s.port := rfl
@[simp] theorem updAmbient_phq (l : LegId) (k : Side) (f : Ambient → Ambient) (s : State) : (updAmbient l k f s).phq = s.phq := rfl
@[simp] theorem updAmbient_prq (l : LegId) (k : Side) (f : Ambient → Ambient) (s : State) : (updAmbient l k f s).prq = s.prq := rfl
@[simp] theorem updAmbient_quietPin (l : LegId) (k : Side) (f : Ambient → Ambient) (s : State) : (updAmbient l k f s).quietPin = s.quietPin := rfl
@[simp] theorem updAmbient_quietInput (l : LegId) (k : Side) (f : Ambient → Ambient) (s : State) : (updAmbient l k f s).quietInput = s.quietInput := rfl
@[simp] theorem updAmbient_sinceTick (l : LegId) (k : Side) (f : Ambient → Ambient) (s : State) : (updAmbient l k f s).sinceTick = s.sinceTick := rfl
@[simp] theorem updAmbient_clock (l : LegId) (k : Side) (f : Ambient → Ambient) (s : State) : (updAmbient l k f s).clock = s.clock := rfl
@[simp] theorem updAmbient_choices (l : LegId) (k : Side) (f : Ambient → Ambient) (s : State) : (updAmbient l k f s).choices = s.choices := rfl
@[simp] theorem updAmbient_pending (l : LegId) (k : Side) (f : Ambient → Ambient) (s : State) : (updAmbient l k f s).pending = s.pending := rfl

@[simp] theorem updLamp_resetHeld (l : LegId) (i : LampId) (f : LampRec → LampRec) (s : State) : (updLamp l i f s).resetHeld = s.resetHeld := rfl
@[simp] theorem updLamp_reading (l : LegId) (i : LampId) (f : LampRec → LampRec) (s : State) : (updLamp l i f s).reading = s.reading := rfl
@[simp] theorem updLamp_mode (l : LegId) (i : LampId) (f : LampRec → LampRec) (s : State) : (updLamp l i f s).mode = s.mode := rfl
@[simp] theorem updLamp_cause (l : LegId) (i : LampId) (f : LampRec → LampRec) (s : State) : (updLamp l i f s).cause = s.cause := rfl
@[simp] theorem updLamp_faultCheck (l : LegId) (i : LampId) (f : LampRec → LampRec) (s : State) : (updLamp l i f s).faultCheck = s.faultCheck := rfl
@[simp] theorem updLamp_isolation (l : LegId) (i : LampId) (f : LampRec → LampRec) (s : State) : (updLamp l i f s).isolation = s.isolation := rfl
@[simp] theorem updLamp_join (l : LegId) (i : LampId) (f : LampRec → LampRec) (s : State) : (updLamp l i f s).join = s.join := rfl
@[simp] theorem updLamp_cfg (l : LegId) (i : LampId) (f : LampRec → LampRec) (s : State) : (updLamp l i f s).cfg = s.cfg := rfl
@[simp] theorem updLamp_legs (l : LegId) (i : LampId) (f : LampRec → LampRec) (s : State) : (updLamp l i f s).legs = s.legs := rfl
@[simp] theorem updLamp_buttons (l : LegId) (i : LampId) (f : LampRec → LampRec) (s : State) : (updLamp l i f s).buttons = s.buttons := rfl
@[simp] theorem updLamp_calls (l : LegId) (i : LampId) (f : LampRec → LampRec) (s : State) : (updLamp l i f s).calls = s.calls := rfl
@[simp] theorem updLamp_slots (l : LegId) (i : LampId) (f : LampRec → LampRec) (s : State) : (updLamp l i f s).slots = s.slots := rfl
@[simp] theorem updLamp_table (l : LegId) (i : LampId) (f : LampRec → LampRec) (s : State) : (updLamp l i f s).table = s.table := rfl
@[simp] theorem updLamp_heard (l : LegId) (i : LampId) (f : LampRec → LampRec) (s : State) : (updLamp l i f s).heard = s.heard := rfl
@[simp] theorem updLamp_line (l : LegId) (i : LampId) (f : LampRec → LampRec) (s : State) : (updLamp l i f s).line = s.line := rfl
@[simp] theorem updLamp_hold (l : LegId) (i : LampId) (f : LampRec → LampRec) (s : State) : (updLamp l i f s).hold = s.hold := rfl
@[simp] theorem updLamp_kerbs (l : LegId) (i : LampId) (f : LampRec → LampRec) (s : State) : (updLamp l i f s).kerbs = s.kerbs := rfl
@[simp] theorem updLamp_links (l : LegId) (i : LampId) (f : LampRec → LampRec) (s : State) : (updLamp l i f s).links = s.links := rfl
@[simp] theorem updLamp_ambient (l : LegId) (i : LampId) (f : LampRec → LampRec) (s : State) : (updLamp l i f s).ambient = s.ambient := rfl
@[simp] theorem updLamp_lamps (l : LegId) (i : LampId) (f : LampRec → LampRec) (s : State) : (updLamp l i f s).lamps = s.lamps.upd l (fun p => p.upd i f) := rfl
@[simp] theorem updLamp_port (l : LegId) (i : LampId) (f : LampRec → LampRec) (s : State) : (updLamp l i f s).port = s.port := rfl
@[simp] theorem updLamp_phq (l : LegId) (i : LampId) (f : LampRec → LampRec) (s : State) : (updLamp l i f s).phq = s.phq := rfl
@[simp] theorem updLamp_prq (l : LegId) (i : LampId) (f : LampRec → LampRec) (s : State) : (updLamp l i f s).prq = s.prq := rfl
@[simp] theorem updLamp_quietPin (l : LegId) (i : LampId) (f : LampRec → LampRec) (s : State) : (updLamp l i f s).quietPin = s.quietPin := rfl
@[simp] theorem updLamp_quietInput (l : LegId) (i : LampId) (f : LampRec → LampRec) (s : State) : (updLamp l i f s).quietInput = s.quietInput := rfl
@[simp] theorem updLamp_sinceTick (l : LegId) (i : LampId) (f : LampRec → LampRec) (s : State) : (updLamp l i f s).sinceTick = s.sinceTick := rfl
@[simp] theorem updLamp_clock (l : LegId) (i : LampId) (f : LampRec → LampRec) (s : State) : (updLamp l i f s).clock = s.clock := rfl
@[simp] theorem updLamp_choices (l : LegId) (i : LampId) (f : LampRec → LampRec) (s : State) : (updLamp l i f s).choices = s.choices := rfl
@[simp] theorem updLamp_pending (l : LegId) (i : LampId) (f : LampRec → LampRec) (s : State) : (updLamp l i f s).pending = s.pending := rfl

@[simp] theorem updPort_resetHeld (f : Port → Port) (s : State) : (updPort f s).resetHeld = s.resetHeld := rfl
@[simp] theorem updPort_reading (f : Port → Port) (s : State) : (updPort f s).reading = s.reading := rfl
@[simp] theorem updPort_mode (f : Port → Port) (s : State) : (updPort f s).mode = s.mode := rfl
@[simp] theorem updPort_cause (f : Port → Port) (s : State) : (updPort f s).cause = s.cause := rfl
@[simp] theorem updPort_faultCheck (f : Port → Port) (s : State) : (updPort f s).faultCheck = s.faultCheck := rfl
@[simp] theorem updPort_isolation (f : Port → Port) (s : State) : (updPort f s).isolation = s.isolation := rfl
@[simp] theorem updPort_join (f : Port → Port) (s : State) : (updPort f s).join = s.join := rfl
@[simp] theorem updPort_cfg (f : Port → Port) (s : State) : (updPort f s).cfg = s.cfg := rfl
@[simp] theorem updPort_legs (f : Port → Port) (s : State) : (updPort f s).legs = s.legs := rfl
@[simp] theorem updPort_buttons (f : Port → Port) (s : State) : (updPort f s).buttons = s.buttons := rfl
@[simp] theorem updPort_calls (f : Port → Port) (s : State) : (updPort f s).calls = s.calls := rfl
@[simp] theorem updPort_slots (f : Port → Port) (s : State) : (updPort f s).slots = s.slots := rfl
@[simp] theorem updPort_table (f : Port → Port) (s : State) : (updPort f s).table = s.table := rfl
@[simp] theorem updPort_heard (f : Port → Port) (s : State) : (updPort f s).heard = s.heard := rfl
@[simp] theorem updPort_line (f : Port → Port) (s : State) : (updPort f s).line = s.line := rfl
@[simp] theorem updPort_hold (f : Port → Port) (s : State) : (updPort f s).hold = s.hold := rfl
@[simp] theorem updPort_kerbs (f : Port → Port) (s : State) : (updPort f s).kerbs = s.kerbs := rfl
@[simp] theorem updPort_links (f : Port → Port) (s : State) : (updPort f s).links = s.links := rfl
@[simp] theorem updPort_ambient (f : Port → Port) (s : State) : (updPort f s).ambient = s.ambient := rfl
@[simp] theorem updPort_lamps (f : Port → Port) (s : State) : (updPort f s).lamps = s.lamps := rfl
@[simp] theorem updPort_port (f : Port → Port) (s : State) : (updPort f s).port = f s.port := rfl
@[simp] theorem updPort_phq (f : Port → Port) (s : State) : (updPort f s).phq = s.phq := rfl
@[simp] theorem updPort_prq (f : Port → Port) (s : State) : (updPort f s).prq = s.prq := rfl
@[simp] theorem updPort_quietPin (f : Port → Port) (s : State) : (updPort f s).quietPin = s.quietPin := rfl
@[simp] theorem updPort_quietInput (f : Port → Port) (s : State) : (updPort f s).quietInput = s.quietInput := rfl
@[simp] theorem updPort_sinceTick (f : Port → Port) (s : State) : (updPort f s).sinceTick = s.sinceTick := rfl
@[simp] theorem updPort_clock (f : Port → Port) (s : State) : (updPort f s).clock = s.clock := rfl
@[simp] theorem updPort_choices (f : Port → Port) (s : State) : (updPort f s).choices = s.choices := rfl
@[simp] theorem updPort_pending (f : Port → Port) (s : State) : (updPort f s).pending = s.pending := rfl

/-! ### Flags (R184) -/

@[simp] theorem setFlag_resetHeld (f : Flag) (s : State) : (setFlag f s).resetHeld = s.resetHeld := rfl
@[simp] theorem setFlag_reading (f : Flag) (s : State) : (setFlag f s).reading = s.reading := rfl
@[simp] theorem setFlag_mode (f : Flag) (s : State) : (setFlag f s).mode = s.mode := rfl
@[simp] theorem setFlag_cause (f : Flag) (s : State) : (setFlag f s).cause = s.cause := rfl
@[simp] theorem setFlag_faultCheck (f : Flag) (s : State) : (setFlag f s).faultCheck = s.faultCheck := rfl
@[simp] theorem setFlag_isolation (f : Flag) (s : State) : (setFlag f s).isolation = s.isolation := rfl
@[simp] theorem setFlag_join (f : Flag) (s : State) : (setFlag f s).join = s.join := rfl
@[simp] theorem setFlag_cfg (f : Flag) (s : State) : (setFlag f s).cfg = s.cfg := rfl
@[simp] theorem setFlag_legs (f : Flag) (s : State) : (setFlag f s).legs = s.legs := rfl
@[simp] theorem setFlag_buttons (f : Flag) (s : State) : (setFlag f s).buttons = s.buttons := rfl
@[simp] theorem setFlag_calls (f : Flag) (s : State) : (setFlag f s).calls = s.calls := rfl
@[simp] theorem setFlag_slots (f : Flag) (s : State) : (setFlag f s).slots = s.slots := rfl
@[simp] theorem setFlag_table (f : Flag) (s : State) : (setFlag f s).table = s.table := rfl
@[simp] theorem setFlag_heard (f : Flag) (s : State) : (setFlag f s).heard = s.heard := rfl
@[simp] theorem setFlag_line (f : Flag) (s : State) : (setFlag f s).line = s.line := rfl
@[simp] theorem setFlag_hold (f : Flag) (s : State) : (setFlag f s).hold = s.hold := rfl
@[simp] theorem setFlag_kerbs (f : Flag) (s : State) : (setFlag f s).kerbs = s.kerbs := rfl
@[simp] theorem setFlag_links (f : Flag) (s : State) : (setFlag f s).links = s.links := rfl
@[simp] theorem setFlag_ambient (f : Flag) (s : State) : (setFlag f s).ambient = s.ambient := rfl
@[simp] theorem setFlag_lamps (f : Flag) (s : State) : (setFlag f s).lamps = s.lamps := rfl
@[simp] theorem setFlag_phq (f : Flag) (s : State) : (setFlag f s).phq = s.phq := rfl
@[simp] theorem setFlag_prq (f : Flag) (s : State) : (setFlag f s).prq = s.prq := rfl
@[simp] theorem setFlag_quietPin (f : Flag) (s : State) : (setFlag f s).quietPin = s.quietPin := rfl
@[simp] theorem setFlag_quietInput (f : Flag) (s : State) : (setFlag f s).quietInput = s.quietInput := rfl
@[simp] theorem setFlag_sinceTick (f : Flag) (s : State) : (setFlag f s).sinceTick = s.sinceTick := rfl
@[simp] theorem setFlag_clock (f : Flag) (s : State) : (setFlag f s).clock = s.clock := rfl
@[simp] theorem setFlag_choices (f : Flag) (s : State) : (setFlag f s).choices = s.choices := rfl
@[simp] theorem setFlag_pending (f : Flag) (s : State) : (setFlag f s).pending = s.pending := rfl
@[simp] theorem setFlag_port (f : Flag) (s : State) :
    (setFlag f s).port = { s.port with flags := s.port.flags ||| flagBit f } := rfl

theorem setFlagIf_eq (c : Bool) (f : Flag) (s : State) : setFlagIf c f s = if c then setFlag f s else s := rfl

/-! ### Reads through an update -/

@[simp] theorem conf_updLeg (l : LegId) (f : LegRec → LegRec) (s : State) : conf (updLeg l f s) = conf s := rfl
@[simp] theorem legConf_updLeg (l : LegId) (f : LegRec → LegRec) (l0 : LegId) (s : State) : legConf (updLeg l f s) l0 = legConf s l0 := rfl
@[simp] theorem inUse_updLeg (l : LegId) (f : LegRec → LegRec) (l0 : LegId) (s : State) : inUse (updLeg l f s) l0 = inUse s l0 := rfl
@[simp] theorem served_updLeg (l : LegId) (f : LegRec → LegRec) (l0 : LegId) (s : State) : served (updLeg l f s) l0 = served s l0 := rfl
@[simp] theorem callOf_updLeg (l : LegId) (f : LegRec → LegRec) (l0 : LegId) (s : State) : callOf (updLeg l f s) l0 = callOf s l0 := rfl
@[simp] theorem slotOf_updLeg (l : LegId) (f : LegRec → LegRec) (l0 : LegId) (s : State) : slotOf (updLeg l f s) l0 = slotOf s l0 := rfl
@[simp] theorem conf_updButton (l : LegId) (k : Side) (f : Button → Button) (s : State) : conf (updButton l k f s) = conf s := rfl
@[simp] theorem legConf_updButton (l : LegId) (k : Side) (f : Button → Button) (l0 : LegId) (s : State) : legConf (updButton l k f s) l0 = legConf s l0 := rfl
@[simp] theorem inUse_updButton (l : LegId) (k : Side) (f : Button → Button) (l0 : LegId) (s : State) : inUse (updButton l k f s) l0 = inUse s l0 := rfl
@[simp] theorem served_updButton (l : LegId) (k : Side) (f : Button → Button) (l0 : LegId) (s : State) : served (updButton l k f s) l0 = served s l0 := rfl
@[simp] theorem legState_updButton (l : LegId) (k : Side) (f : Button → Button) (l0 : LegId) (s : State) : legState (updButton l k f s) l0 = legState s l0 := rfl
@[simp] theorem callOf_updButton (l : LegId) (k : Side) (f : Button → Button) (l0 : LegId) (s : State) : callOf (updButton l k f s) l0 = callOf s l0 := rfl
@[simp] theorem slotOf_updButton (l : LegId) (k : Side) (f : Button → Button) (l0 : LegId) (s : State) : slotOf (updButton l k f s) l0 = slotOf s l0 := rfl
@[simp] theorem conf_updCall (l : LegId) (f : CallRec → CallRec) (s : State) : conf (updCall l f s) = conf s := rfl
@[simp] theorem legConf_updCall (l : LegId) (f : CallRec → CallRec) (l0 : LegId) (s : State) : legConf (updCall l f s) l0 = legConf s l0 := rfl
@[simp] theorem inUse_updCall (l : LegId) (f : CallRec → CallRec) (l0 : LegId) (s : State) : inUse (updCall l f s) l0 = inUse s l0 := rfl
@[simp] theorem served_updCall (l : LegId) (f : CallRec → CallRec) (l0 : LegId) (s : State) : served (updCall l f s) l0 = served s l0 := rfl
@[simp] theorem legState_updCall (l : LegId) (f : CallRec → CallRec) (l0 : LegId) (s : State) : legState (updCall l f s) l0 = legState s l0 := rfl
@[simp] theorem slotOf_updCall (l : LegId) (f : CallRec → CallRec) (l0 : LegId) (s : State) : slotOf (updCall l f s) l0 = slotOf s l0 := rfl
@[simp] theorem conf_updSlot (l : LegId) (f : SlotRec → SlotRec) (s : State) : conf (updSlot l f s) = conf s := rfl
@[simp] theorem legConf_updSlot (l : LegId) (f : SlotRec → SlotRec) (l0 : LegId) (s : State) : legConf (updSlot l f s) l0 = legConf s l0 := rfl
@[simp] theorem inUse_updSlot (l : LegId) (f : SlotRec → SlotRec) (l0 : LegId) (s : State) : inUse (updSlot l f s) l0 = inUse s l0 := rfl
@[simp] theorem served_updSlot (l : LegId) (f : SlotRec → SlotRec) (l0 : LegId) (s : State) : served (updSlot l f s) l0 = served s l0 := rfl
@[simp] theorem legState_updSlot (l : LegId) (f : SlotRec → SlotRec) (l0 : LegId) (s : State) : legState (updSlot l f s) l0 = legState s l0 := rfl
@[simp] theorem callOf_updSlot (l : LegId) (f : SlotRec → SlotRec) (l0 : LegId) (s : State) : callOf (updSlot l f s) l0 = callOf s l0 := rfl
@[simp] theorem conf_updLine (f : Line → Line) (s : State) : conf (updLine f s) = conf s := rfl
@[simp] theorem legConf_updLine (f : Line → Line) (l0 : LegId) (s : State) : legConf (updLine f s) l0 = legConf s l0 := rfl
@[simp] theorem inUse_updLine (f : Line → Line) (l0 : LegId) (s : State) : inUse (updLine f s) l0 = inUse s l0 := rfl
@[simp] theorem served_updLine (f : Line → Line) (l0 : LegId) (s : State) : served (updLine f s) l0 = served s l0 := rfl
@[simp] theorem legState_updLine (f : Line → Line) (l0 : LegId) (s : State) : legState (updLine f s) l0 = legState s l0 := rfl
@[simp] theorem callOf_updLine (f : Line → Line) (l0 : LegId) (s : State) : callOf (updLine f s) l0 = callOf s l0 := rfl
@[simp] theorem slotOf_updLine (f : Line → Line) (l0 : LegId) (s : State) : slotOf (updLine f s) l0 = slotOf s l0 := rfl
@[simp] theorem conf_updHold (f : Hold → Hold) (s : State) : conf (updHold f s) = conf s := rfl
@[simp] theorem legConf_updHold (f : Hold → Hold) (l0 : LegId) (s : State) : legConf (updHold f s) l0 = legConf s l0 := rfl
@[simp] theorem inUse_updHold (f : Hold → Hold) (l0 : LegId) (s : State) : inUse (updHold f s) l0 = inUse s l0 := rfl
@[simp] theorem served_updHold (f : Hold → Hold) (l0 : LegId) (s : State) : served (updHold f s) l0 = served s l0 := rfl
@[simp] theorem legState_updHold (f : Hold → Hold) (l0 : LegId) (s : State) : legState (updHold f s) l0 = legState s l0 := rfl
@[simp] theorem callOf_updHold (f : Hold → Hold) (l0 : LegId) (s : State) : callOf (updHold f s) l0 = callOf s l0 := rfl
@[simp] theorem slotOf_updHold (f : Hold → Hold) (l0 : LegId) (s : State) : slotOf (updHold f s) l0 = slotOf s l0 := rfl
@[simp] theorem conf_updKerb (l : LegId) (k : Side) (f : Kerb → Kerb) (s : State) : conf (updKerb l k f s) = conf s := rfl
@[simp] theorem legConf_updKerb (l : LegId) (k : Side) (f : Kerb → Kerb) (l0 : LegId) (s : State) : legConf (updKerb l k f s) l0 = legConf s l0 := rfl
@[simp] theorem inUse_updKerb (l : LegId) (k : Side) (f : Kerb → Kerb) (l0 : LegId) (s : State) : inUse (updKerb l k f s) l0 = inUse s l0 := rfl
@[simp] theorem served_updKerb (l : LegId) (k : Side) (f : Kerb → Kerb) (l0 : LegId) (s : State) : served (updKerb l k f s) l0 = served s l0 := rfl
@[simp] theorem legState_updKerb (l : LegId) (k : Side) (f : Kerb → Kerb) (l0 : LegId) (s : State) : legState (updKerb l k f s) l0 = legState s l0 := rfl
@[simp] theorem callOf_updKerb (l : LegId) (k : Side) (f : Kerb → Kerb) (l0 : LegId) (s : State) : callOf (updKerb l k f s) l0 = callOf s l0 := rfl
@[simp] theorem slotOf_updKerb (l : LegId) (k : Side) (f : Kerb → Kerb) (l0 : LegId) (s : State) : slotOf (updKerb l k f s) l0 = slotOf s l0 := rfl
@[simp] theorem conf_updLink (l : LegId) (f : Link → Link) (s : State) : conf (updLink l f s) = conf s := rfl
@[simp] theorem legConf_updLink (l : LegId) (f : Link → Link) (l0 : LegId) (s : State) : legConf (updLink l f s) l0 = legConf s l0 := rfl
@[simp] theorem inUse_updLink (l : LegId) (f : Link → Link) (l0 : LegId) (s : State) : inUse (updLink l f s) l0 = inUse s l0 := rfl
@[simp] theorem served_updLink (l : LegId) (f : Link → Link) (l0 : LegId) (s : State) : served (updLink l f s) l0 = served s l0 := rfl
@[simp] theorem legState_updLink (l : LegId) (f : Link → Link) (l0 : LegId) (s : State) : legState (updLink l f s) l0 = legState s l0 := rfl
@[simp] theorem callOf_updLink (l : LegId) (f : Link → Link) (l0 : LegId) (s : State) : callOf (updLink l f s) l0 = callOf s l0 := rfl
@[simp] theorem slotOf_updLink (l : LegId) (f : Link → Link) (l0 : LegId) (s : State) : slotOf (updLink l f s) l0 = slotOf s l0 := rfl
@[simp] theorem conf_updAmbient (l : LegId) (k : Side) (f : Ambient → Ambient) (s : State) : conf (updAmbient l k f s) = conf s := rfl
@[simp] theorem legConf_updAmbient (l : LegId) (k : Side) (f : Ambient → Ambient) (l0 : LegId) (s : State) : legConf (updAmbient l k f s) l0 = legConf s l0 := rfl
@[simp] theorem inUse_updAmbient (l : LegId) (k : Side) (f : Ambient → Ambient) (l0 : LegId) (s : State) : inUse (updAmbient l k f s) l0 = inUse s l0 := rfl
@[simp] theorem served_updAmbient (l : LegId) (k : Side) (f : Ambient → Ambient) (l0 : LegId) (s : State) : served (updAmbient l k f s) l0 = served s l0 := rfl
@[simp] theorem legState_updAmbient (l : LegId) (k : Side) (f : Ambient → Ambient) (l0 : LegId) (s : State) : legState (updAmbient l k f s) l0 = legState s l0 := rfl
@[simp] theorem callOf_updAmbient (l : LegId) (k : Side) (f : Ambient → Ambient) (l0 : LegId) (s : State) : callOf (updAmbient l k f s) l0 = callOf s l0 := rfl
@[simp] theorem slotOf_updAmbient (l : LegId) (k : Side) (f : Ambient → Ambient) (l0 : LegId) (s : State) : slotOf (updAmbient l k f s) l0 = slotOf s l0 := rfl
@[simp] theorem conf_updLamp (l : LegId) (i : LampId) (f : LampRec → LampRec) (s : State) : conf (updLamp l i f s) = conf s := rfl
@[simp] theorem legConf_updLamp (l : LegId) (i : LampId) (f : LampRec → LampRec) (l0 : LegId) (s : State) : legConf (updLamp l i f s) l0 = legConf s l0 := rfl
@[simp] theorem inUse_updLamp (l : LegId) (i : LampId) (f : LampRec → LampRec) (l0 : LegId) (s : State) : inUse (updLamp l i f s) l0 = inUse s l0 := rfl
@[simp] theorem served_updLamp (l : LegId) (i : LampId) (f : LampRec → LampRec) (l0 : LegId) (s : State) : served (updLamp l i f s) l0 = served s l0 := rfl
@[simp] theorem legState_updLamp (l : LegId) (i : LampId) (f : LampRec → LampRec) (l0 : LegId) (s : State) : legState (updLamp l i f s) l0 = legState s l0 := rfl
@[simp] theorem callOf_updLamp (l : LegId) (i : LampId) (f : LampRec → LampRec) (l0 : LegId) (s : State) : callOf (updLamp l i f s) l0 = callOf s l0 := rfl
@[simp] theorem slotOf_updLamp (l : LegId) (i : LampId) (f : LampRec → LampRec) (l0 : LegId) (s : State) : slotOf (updLamp l i f s) l0 = slotOf s l0 := rfl
@[simp] theorem conf_updPort (f : Port → Port) (s : State) : conf (updPort f s) = conf s := rfl
@[simp] theorem legConf_updPort (f : Port → Port) (l0 : LegId) (s : State) : legConf (updPort f s) l0 = legConf s l0 := rfl
@[simp] theorem inUse_updPort (f : Port → Port) (l0 : LegId) (s : State) : inUse (updPort f s) l0 = inUse s l0 := rfl
@[simp] theorem served_updPort (f : Port → Port) (l0 : LegId) (s : State) : served (updPort f s) l0 = served s l0 := rfl
@[simp] theorem legState_updPort (f : Port → Port) (l0 : LegId) (s : State) : legState (updPort f s) l0 = legState s l0 := rfl
@[simp] theorem callOf_updPort (f : Port → Port) (l0 : LegId) (s : State) : callOf (updPort f s) l0 = callOf s l0 := rfl
@[simp] theorem slotOf_updPort (f : Port → Port) (l0 : LegId) (s : State) : slotOf (updPort f s) l0 = slotOf s l0 := rfl
@[simp] theorem conf_setFlag (f : Flag) (s : State) : conf (setFlag f s) = conf s := rfl
@[simp] theorem legConf_setFlag (f : Flag) (l0 : LegId) (s : State) : legConf (setFlag f s) l0 = legConf s l0 := rfl
@[simp] theorem inUse_setFlag (f : Flag) (l0 : LegId) (s : State) : inUse (setFlag f s) l0 = inUse s l0 := rfl
@[simp] theorem served_setFlag (f : Flag) (l0 : LegId) (s : State) : served (setFlag f s) l0 = served s l0 := rfl
@[simp] theorem legState_setFlag (f : Flag) (l0 : LegId) (s : State) : legState (setFlag f s) l0 = legState s l0 := rfl
@[simp] theorem callOf_setFlag (f : Flag) (l0 : LegId) (s : State) : callOf (setFlag f s) l0 = callOf s l0 := rfl
@[simp] theorem slotOf_setFlag (f : Flag) (l0 : LegId) (s : State) : slotOf (setFlag f s) l0 = slotOf s l0 := rfl

end Sys2Proof.Machine
end

