-- ==== Sys2Proof/Laws/Events.lean ====
section
/-! SUPPORT. What taking an event, an expiry or a pin change gives, said once; and the reads that the clock leaves alone. -/

namespace Sys2Proof.Machine

theorem event_live {s : State} (h : s.resetHeld = false) (f : State → State) : event f s = settle (f (later s)) := by
  unfold event; rw [if_neg (by rw [h]; decide)]; rfl

theorem event_held {s : State} (h : s.resetHeld = true) (f : State → State) : event f s = s := by
  unfold event; rw [if_pos h]

theorem eventIf_true {s : State} (h : s.resetHeld = false) {can : Bool} (hc : can = true) (f : State → State) :
    eventIf can f s = settle (f (later s)) := by
  unfold eventIf; rw [if_pos hc, event_live h]

theorem eventIf_false {s : State} {can : Bool} (hc : can = false) (f : State → State) : eventIf can f s = s := by
  unfold eventIf; rw [hc]; rfl

theorem eventIf_held {s : State} (h : s.resetHeld = true) (can : Bool) (f : State → State) : eventIf can f s = s := by
  unfold eventIf; rw [event_held h]; exact ite_self s

theorem expiry_due {s : State} (h : s.resetHeld = false) {due : Bool} (hd : due = true) (f : State → State) :
    expiry due f s = settle (f s) := by
  unfold expiry; rw [hd, if_pos (by rw [h]; decide)]

theorem expiry_not_due {s : State} {due : Bool} (hd : due = false) (f : State → State) : expiry due f s = s := by
  unfold expiry; rw [hd, Bool.and_false]; rfl

theorem expiry_held {s : State} (h : s.resetHeld = true) (due : Bool) (f : State → State) : expiry due f s = s := by
  unfold expiry; rw [if_neg (by rw [h]; simp)]

theorem pinChange_live {s : State} (h : s.resetHeld = false) (level f : State → State) (hl : (level s).resetHeld = s.resetHeld) :
    pinChange level f s = settle (f (later (level s))) := by
  unfold pinChange; rw [if_neg (by rw [h]; decide), event_live (by rw [hl, h])]

theorem pinChange_held {s : State} (h : s.resetHeld = true) (level f : State → State) : pinChange level f s = level s := by
  unfold pinChange; rw [if_pos h]

theorem completeFor_none (f : LegId → State → State) (s : State) : completeFor none f s = s := rfl

theorem completeFor_some {s : State} (h : s.resetHeld = false) (l : LegId) (f : LegId → State → State) :
    completeFor (some l) f s = settle (f l (completeFrame (later s))) :=
  event_live h (fun s => f l (completeFrame s))

theorem completeFor_held {s : State} (h : s.resetHeld = true) (o : Option LegId) (f : LegId → State → State) :
    completeFor o f s = s := by
  cases o with
  | none => rfl
  | some l => exact event_held h (fun s => f l (completeFrame s))

/-! ### Reads that the clock leaves alone -/

@[simp] theorem later_resetHeld (s : State) : (later s).resetHeld = s.resetHeld := rfl
@[simp] theorem later_reading (s : State) : (later s).reading = s.reading := rfl
@[simp] theorem later_mode (s : State) : (later s).mode = s.mode := rfl
@[simp] theorem later_cause (s : State) : (later s).cause = s.cause := rfl
@[simp] theorem later_faultCheck (s : State) : (later s).faultCheck = s.faultCheck := rfl
@[simp] theorem later_isolation (s : State) : (later s).isolation = s.isolation := rfl
@[simp] theorem later_join (s : State) : (later s).join = s.join := rfl
@[simp] theorem later_cfg (s : State) : (later s).cfg = s.cfg := rfl
@[simp] theorem later_legs (s : State) : (later s).legs = s.legs := rfl
@[simp] theorem later_buttons (s : State) : (later s).buttons = s.buttons := rfl
@[simp] theorem later_calls (s : State) : (later s).calls = s.calls := rfl
@[simp] theorem later_slots (s : State) : (later s).slots = s.slots := rfl
@[simp] theorem later_table (s : State) : (later s).table = s.table := rfl
@[simp] theorem later_heard (s : State) : (later s).heard = s.heard := rfl
@[simp] theorem later_line (s : State) : (later s).line = s.line := rfl
@[simp] theorem later_hold (s : State) : (later s).hold = s.hold := rfl
@[simp] theorem later_kerbs (s : State) : (later s).kerbs = s.kerbs := rfl
@[simp] theorem later_links (s : State) : (later s).links = s.links := rfl
@[simp] theorem later_ambient (s : State) : (later s).ambient = s.ambient := rfl
@[simp] theorem later_lamps (s : State) : (later s).lamps = s.lamps := rfl
@[simp] theorem later_port (s : State) : (later s).port = s.port := rfl
@[simp] theorem later_phq (s : State) : (later s).phq = s.phq := rfl
@[simp] theorem later_prq (s : State) : (later s).prq = s.prq := rfl
@[simp] theorem later_quietPin (s : State) : (later s).quietPin = s.quietPin := rfl
@[simp] theorem later_quietInput (s : State) : (later s).quietInput = s.quietInput := rfl
@[simp] theorem later_sinceTick (s : State) : (later s).sinceTick = s.sinceTick := rfl
@[simp] theorem later_choices (s : State) : (later s).choices = s.choices := rfl
@[simp] theorem later_pending (s : State) : (later s).pending = s.pending := rfl
@[simp] theorem later_clock (s : State) : (later s).clock = s.clock + 1 := rfl
@[simp] theorem conf_later (s : State) : conf (later s) = conf s := rfl
@[simp] theorem held_later (s : State) : held (later s) = held s := rfl
@[simp] theorem acceptsAny_later (s : State) : acceptsAny (later s) = acceptsAny s := rfl
@[simp] theorem takesFrames_later (s : State) : takesFrames (later s) = takesFrames s := rfl
@[simp] theorem maySend_later (s : State) : maySend (later s) = maySend s := rfl
@[simp] theorem headOf_later (s : State) : headOf (later s) = headOf s := rfl
@[simp] theorem anyMismatch_later (s : State) : anyMismatch (later s) = anyMismatch s := rfl
@[simp] theorem srq_later (s : State) : srq (later s) = srq s := rfl
@[simp] theorem quietActive_later (s : State) : quietActive (later s) = quietActive s := rfl
@[simp] theorem combinedCap_later (s : State) : combinedCap (later s) = combinedCap s := rfl
@[simp] theorem holdAnswered_later (s : State) : holdAnswered (later s) = holdAnswered s := rfl
@[simp] theorem legConf_later (s : State) (l : LegId) : legConf (later s) l = legConf s l := rfl
@[simp] theorem inUse_later (s : State) (l : LegId) : inUse (later s) l = inUse s l := rfl
@[simp] theorem served_later (s : State) (l : LegId) : served (later s) l = served s l := rfl
@[simp] theorem legState_later (s : State) (l : LegId) : legState (later s) l = legState s l := rfl
@[simp] theorem callOf_later (s : State) (l : LegId) : callOf (later s) l = callOf s l := rfl
@[simp] theorem slotOf_later (s : State) (l : LegId) : slotOf (later s) l = slotOf s l := rfl
@[simp] theorem buttonOf_later (s : State) (l : LegId) (k : Side) : buttonOf (later s) l k = buttonOf s l k := rfl
@[simp] theorem kerbOf_later (s : State) (l : LegId) (k : Side) : kerbOf (later s) l k = kerbOf s l k := rfl
@[simp] theorem ambientOf_later (s : State) (l : LegId) (k : Side) : ambientOf (later s) l k = ambientOf s l k := rfl
@[simp] theorem lampRec_later (s : State) (l : LegId) (i : LampId) : lampRec (later s) l i = lampRec s l i := rfl
@[simp] theorem lampOn_later (s : State) (l : LegId) (i : LampId) : lampOn (later s) l i = lampOn s l i := rfl
@[simp] theorem mismatched_later (s : State) (l : LegId) (i : LampId) : mismatched (later s) l i = mismatched s l i := rfl
@[simp] theorem kerbLevel_later (s : State) (l : LegId) (k : Side) : kerbLevel (later s) l k = kerbLevel s l k := rfl
@[simp] theorem acceptsLeg_later (s : State) (k : LegReq) : acceptsLeg (later s) k = acceptsLeg s k := rfl
@[simp] theorem place_later (s : State) (l : LegId) (c : Call) : place (later s) l c = place s l c := rfl
@[simp] theorem relevant_later (s : State) (p r : Nat) : relevant (later s) p r = relevant s p r := rfl
@[simp] theorem acoustic_later (s : State) (p r : Nat) : acoustic (later s) p r = acoustic s p r := rfl
@[simp] theorem inConflict_later (s : State) (l : LegId) (c : Carried) : inConflict (later s) l c = inConflict s l c := rfl

end Sys2Proof.Machine
end

