-- ==== Sys2Proof/Laws/Frames.lean ====
section
/-! SUPPORT. What each operation of the blocks leaves alone, said once per operation: `ChangesOnly ps s (op s)` lists the parts
that it may change. -/

namespace Sys2Proof.Machine

/-! ### Reasoning with ChangesOnly -/

theorem ChangesOnly.refl (ps : List Part) (s : State) : ChangesOnly ps s s := by
  intro p _; cases p <;> rfl

theorem ChangesOnly.mono {ps qs : List Part} {s t : State} (h : ChangesOnly ps s t) (hs : ∀ p ∈ ps, p ∈ qs) : ChangesOnly qs s t :=
  fun p hp => h p (fun hm => hp (hs p hm))

theorem ChangesOnly.trans {ps : List Part} {s t u : State} (h : ChangesOnly ps s t) (g : ChangesOnly ps t u) : ChangesOnly ps s u := by
  intro p hp
  have a := h p hp
  have b := g p hp
  cases p <;> exact Eq.trans b a

/-- An operation that changes only the listed parts, wherever it starts. -/
def Touches (ps : List Part) (f : State → State) : Prop := ∀ s, ChangesOnly ps s (f s)

/-- Reading a chain of operations from its last one. -/
theorem ChangesOnly.after {ps qs : List Part} {f : State → State} {s t : State} (hf : Touches qs f) (hs : ∀ p ∈ qs, p ∈ ps)
    (h : ChangesOnly ps s t) : ChangesOnly ps s (f t) := h.trans ((hf t).mono hs)

theorem ChangesOnly.ite {ps : List Part} {s t u : State} {c : Prop} [Decidable c] (h : ChangesOnly ps s t) (g : ChangesOnly ps s u) :
    ChangesOnly ps s (if c then t else u) := by
  split
  · exact h
  · exact g

theorem Touches.mono {ps qs : List Part} {f : State → State} (h : Touches ps f) (hs : ∀ p ∈ ps, p ∈ qs) : Touches qs f :=
  fun s => (h s).mono hs

theorem Touches.comp {ps : List Part} {f g : State → State} (hg : Touches ps g) (hf : Touches ps f) : Touches ps (fun s => g (f s)) :=
  fun s => (hf s).trans (hg (f s))

theorem Touches.id (ps : List Part) : Touches ps (fun s => s) := fun s => .refl ps s

theorem Touches.foldl {α : Type} {ps : List Part} {f : State → α → State} (h : ∀ a, Touches ps (fun s => f s a)) (xs : List α) :
    Touches ps (fun s => xs.foldl f s) := by
  intro s
  induction xs generalizing s with
  | nil => exact .refl ps s
  | cons a xs ih => exact (h a s).trans (ih (f s a))

theorem forLegs_touches {ps : List Part} {f : LegId → State → State} (h : ∀ l, Touches ps (f l)) (ls : List LegId) :
    Touches ps (forLegs ls f) :=
  Touches.foldl (fun l s => ChangesOnly.ite (h l s) (.refl ps s)) ls

/-! ### Updates of one part -/

theorem updLeg_touches (l : LegId) (f : LegRec → LegRec) : Touches [.legs] (updLeg l f) := by
  intro s p hp; cases p <;> first | rfl | exact absurd (by decide) hp

theorem updButton_touches (l : LegId) (k : Side) (f : Button → Button) : Touches [.buttons] (updButton l k f) := by
  intro s p hp; cases p <;> first | rfl | exact absurd (by decide) hp

theorem updCall_touches (l : LegId) (f : CallRec → CallRec) : Touches [.calls] (updCall l f) := by
  intro s p hp; cases p <;> first | rfl | exact absurd (by decide) hp

theorem updSlot_touches (l : LegId) (f : SlotRec → SlotRec) : Touches [.slots] (updSlot l f) := by
  intro s p hp; cases p <;> first | rfl | exact absurd (by decide) hp

theorem updLine_touches (f : Line → Line) : Touches [.line] (updLine f) := by
  intro s p hp; cases p <;> first | rfl | exact absurd (by decide) hp

theorem updHold_touches (f : Hold → Hold) : Touches [.hold] (updHold f) := by
  intro s p hp; cases p <;> first | rfl | exact absurd (by decide) hp

theorem updKerb_touches (l : LegId) (k : Side) (f : Kerb → Kerb) : Touches [.kerbs] (updKerb l k f) := by
  intro s p hp; cases p <;> first | rfl | exact absurd (by decide) hp

theorem updLink_touches (l : LegId) (f : Link → Link) : Touches [.links] (updLink l f) := by
  intro s p hp; cases p <;> first | rfl | exact absurd (by decide) hp

theorem updAmbient_touches (l : LegId) (k : Side) (f : Ambient → Ambient) : Touches [.ambient] (updAmbient l k f) := by
  intro s p hp; cases p <;> first | rfl | exact absurd (by decide) hp

theorem updLamp_touches (l : LegId) (i : LampId) (f : LampRec → LampRec) : Touches [.lamps] (updLamp l i f) := by
  intro s p hp; cases p <;> first | rfl | exact absurd (by decide) hp

theorem updPort_touches (f : Port → Port) : Touches [.port] (updPort f) := by
  intro s p hp; cases p <;> first | rfl | exact absurd (by decide) hp

theorem updQueue_touches (f : Queue → Queue) : Touches [.line] (updQueue f) := by
  intro s p hp; cases p <;> first | rfl | exact absurd (by decide) hp

theorem setFlag_touches (f : Flag) : Touches [.port] (setFlag f) := by
  intro s p hp; cases p <;> first | rfl | exact absurd (by decide) hp

/-! ### Flags, the transmit queue and the own frame -/

theorem setFlagIf_touches (c : Bool) (f : Flag) : Touches [.port] (setFlagIf c f) := by
  intro s; unfold setFlagIf
  repeat' first
    | with_reducible exact .refl _ _
    | decide
    | with_reducible apply ChangesOnly.after (setFlag_touches _)
    | split

theorem enqueueLeg_touches (l : LegId) (k : LegReq) : Touches [.line] (enqueueLeg l k) := by
  intro s; unfold enqueueLeg
  repeat' first
    | with_reducible exact .refl _ _
    | decide
    | with_reducible apply ChangesOnly.after (updQueue_touches _)
    | split

theorem enqueueBeacon_touches : Touches [.line] enqueueBeacon := by
  intro s; unfold enqueueBeacon
  repeat' first
    | with_reducible exact .refl _ _
    | decide
    | with_reducible apply ChangesOnly.after (updQueue_touches _)
    | split

theorem enqueueClear_touches (k : ClearReq) : Touches [.line] (enqueueClear k) := by
  intro s; unfold enqueueClear
  repeat' first
    | with_reducible exact .refl _ _
    | decide
    | with_reducible apply ChangesOnly.after (updQueue_touches _)
    | split

theorem dropBids_touches : Touches [.slots] dropBids := by
  intro s p hp; cases p <;> first | rfl | exact absurd (by decide) hp

theorem stopOwnFrame_touches : Touches [.slots, .line] stopOwnFrame := by
  intro s; unfold stopOwnFrame
  repeat' first
    | with_reducible exact .refl _ _
    | decide
    | with_reducible apply ChangesOnly.after (updLine_touches _)
    | with_reducible apply ChangesOnly.after (dropBids_touches)

theorem discardReception_touches : Touches [.line] discardReception := by
  intro s; unfold discardReception
  repeat' first
    | with_reducible exact .refl _ _
    | decide
    | with_reducible apply ChangesOnly.after (updLine_touches _)

/-! ### What every event settles -/

theorem testHoldSide_touches : Touches [.hold] testHoldSide := by
  intro s; unfold testHoldSide
  repeat' first
    | with_reducible exact .refl _ _
    | decide
    | with_reducible apply ChangesOnly.after (updHold_touches _)
    | split

theorem proveLamps_touches : Touches [.lamps] proveLamps := by
  intro s; unfold proveLamps
  repeat' first
    | with_reducible exact .refl _ _
    | decide
    | split
    | (intro p hp; cases p <;> first | rfl | exact absurd (by decide) hp)

theorem settle_touches : Touches [.hold, .lamps] settle := by
  intro s; unfold settle
  repeat' first
    | with_reducible exact .refl _ _
    | decide
    | with_reducible apply ChangesOnly.after (testHoldSide_touches)
    | with_reducible apply ChangesOnly.after (proveLamps_touches)

theorem later_touches : Touches [.clock] later := by
  intro s p hp; cases p <;> first | rfl | exact absurd (by decide) hp

theorem event_changes {ps : List Part} {f : State → State} (h : Touches ps f) (s : State) :
    ChangesOnly (settledParts ++ ps) s (event f s) := by
  unfold event; split
  · exact .refl _ _
  · exact ((later_touches.mono (by simp [settledParts]) s).trans (h.mono (by simp +contextual) _)).trans
      (settle_touches.mono (by simp [settledParts]) _)

theorem expiry_changes {ps : List Part} {f : State → State} (due : Bool) (h : Touches ps f) (s : State) :
    ChangesOnly (settledParts ++ ps) s (expiry due f s) := by
  unfold expiry; split
  · exact (h.mono (by simp +contextual) s).trans (settle_touches.mono (by simp [settledParts]) _)
  · exact .refl _ _

/-! ### Sound -/

theorem sendWord_touches (l : LegId) (w : BurstWord) : Touches [.links] (sendWord l w) := by
  intro s; unfold sendWord
  repeat' first
    | with_reducible exact .refl _ _
    | decide
    | with_reducible apply ChangesOnly.after (updLink_touches _ _)

theorem soundWord_touches (l : LegId) (k : Side) (late : Nat) (w : BurstWord) : Touches [.kerbs, .links] (soundWord l k late w) := by
  intro s; unfold soundWord
  repeat' first
    | with_reducible exact .refl _ _
    | decide
    | with_reducible apply ChangesOnly.after (updKerb_touches _ _ _)
    | with_reducible apply ChangesOnly.after (sendWord_touches _ _)

theorem sendBurst_touches (l : LegId) (k : Side) (late : Nat) : Touches [.kerbs, .links] (sendBurst l k late) := by
  intro s; unfold sendBurst
  repeat' first
    | with_reducible exact .refl _ _
    | decide
    | with_reducible apply ChangesOnly.after (soundWord_touches _ _ _ _)
    | split

theorem stopKerb_touches (l : LegId) (k : Side) : Touches [.kerbs, .links] (stopKerb l k) := by
  intro s; unfold stopKerb
  repeat' first
    | with_reducible exact .refl _ _
    | decide
    | with_reducible apply ChangesOnly.after (updKerb_touches _ _ _)
    | with_reducible apply ChangesOnly.after (sendWord_touches _ _)

theorem cutKerb_touches (l : LegId) (k : Side) : Touches [.kerbs, .links] (cutKerb l k) := by
  intro s; unfold cutKerb; dsimp only
  repeat' first
    | with_reducible exact .refl _ _
    | decide
    | with_reducible apply ChangesOnly.after (stopKerb_touches _ _)
    | split

theorem cutBeep_touches (l : LegId) (k : Side) : Touches [.kerbs, .links] (cutBeep l k) := by
  intro s; unfold cutBeep
  repeat' first
    | with_reducible exact .refl _ _
    | decide
    | with_reducible apply ChangesOnly.after (stopKerb_touches _ _)
    | split

theorem takePattern_touches (l : LegId) (p : Pattern) (k : Side) : Touches [.kerbs] (takePattern l p k) := by
  intro s; unfold takePattern
  repeat' first
    | with_reducible exact .refl _ _
    | decide
    | with_reducible apply ChangesOnly.after (updKerb_touches _ _ _)

theorem loadPhase_touches (l : LegId) (k : Side) (n late : Nat) : Touches [.kerbs] (loadPhase l k n late) := by
  intro s; unfold loadPhase
  repeat' first
    | with_reducible exact .refl _ _
    | decide
    | with_reducible apply ChangesOnly.after (updKerb_touches _ _ _)

theorem changePattern_touches (l : LegId) (p : Pattern) : Touches [.kerbs, .links] (changePattern l p) := by
  intro s; unfold changePattern; dsimp only
  repeat' first
    | with_reducible exact .refl _ _
    | decide
    | with_reducible apply ChangesOnly.after (sendBurst_touches _ _ _)
    | with_reducible apply ChangesOnly.after (cutKerb_touches _ _)
    | with_reducible apply ChangesOnly.after (takePattern_touches _ _ _)
    | with_reducible apply ChangesOnly.after (loadPhase_touches _ _ _ _)
    | split

theorem triggerBeep_touches (l : LegId) (k : Side) (kind : Kind) : Touches [.kerbs, .links] (triggerBeep l k kind) := by
  intro s; unfold triggerBeep
  repeat' first
    | with_reducible exact .refl _ _
    | decide
    | with_reducible apply ChangesOnly.after (updKerb_touches _ _ _)
    | with_reducible apply ChangesOnly.after (soundWord_touches _ _ _ _)
    | split

theorem resetEnvelope_touches (l : LegId) (k : Side) : Touches [.kerbs] (resetEnvelope l k) := by
  intro s; unfold resetEnvelope
  repeat' first
    | with_reducible exact .refl _ _
    | decide
    | with_reducible apply ChangesOnly.after (updKerb_touches _ _ _)
    | split

theorem silenceKerb_touches (l : LegId) (k : Side) : Touches [.kerbs, .links] (silenceKerb l k) := by
  intro s; unfold silenceKerb
  repeat' first
    | with_reducible exact .refl _ _
    | decide
    | with_reducible apply ChangesOnly.after (updKerb_touches _ _ _)
    | with_reducible apply ChangesOnly.after (stopKerb_touches _ _)

theorem silenceLeg_touches (l : LegId) : Touches [.kerbs, .links] (silenceLeg l) := by
  intro s; unfold silenceLeg
  repeat' first
    | with_reducible exact .refl _ _
    | decide
    | with_reducible apply ChangesOnly.after (silenceKerb_touches _ _)

theorem elapse_touches (t : Nat) : Touches [.kerbs, .links, .sinceTick] (elapse t) := by
  intro s p hp; cases p <;> first | rfl | exact absurd (by decide) hp

theorem setSinceTick_touches (f : State → Nat) : Touches [.sinceTick] (fun s => { s with sinceTick := f s }) := by
  intro s p hp; cases p <;> first | rfl | exact absurd (by decide) hp

theorem elapseToTick_touches : Touches [.kerbs, .links, .sinceTick] elapseToTick := by
  intro s; unfold elapseToTick; dsimp only
  generalize decisecond = d
  exact (elapse_touches (d - s.sinceTick) s).trans ((setSinceTick_touches (fun s => s.sinceTick - d)).mono (by decide) _)

/-! ### The Crossing Table -/

theorem removeStation_touches (st : Nat) : Touches [.table, .heard] (removeStation st) := by
  intro s p hp; cases p <;> first | rfl | exact absurd (by decide) hp

theorem removeCrossing_touches (st : Nat) (l : LegId) : Touches [.table, .heard] (removeCrossing st l) := by
  intro s p hp; cases p <;> first | rfl | exact absurd (by decide) hp

theorem emptyTable_touches : Touches [.table, .heard] emptyTable := by
  intro s p hp; cases p <;> first | rfl | exact absurd (by decide) hp

/-- Setting the table touches the table. -/
theorem setTable_touches (f : State → List Crossing) : Touches [.table] (fun s => { s with table := f s }) := by
  intro s p hp; cases p <;> first | rfl | exact absurd (by decide) hp

theorem makeRecord_touches (c : Crossing) : Touches [.table, .heard, .port] (makeRecord c) := by
  intro s; unfold makeRecord; dsimp only
  repeat' first
    | with_reducible exact .refl _ _
    | decide
    | with_reducible apply ChangesOnly.after (setFlag_touches _)
    | with_reducible apply ChangesOnly.after (removeCrossing_touches _ _)
    | split
    | (intro p hp; cases p <;> first | rfl | exact absurd (by decide) hp)

theorem setCrossing_touches (st : Nat) (l : LegId) (position radius : Nat) (phase : Option LegState → LegState) (slot : Option Slot) :
    Touches [.table, .heard, .port] (setCrossing st l position radius phase slot) := by
  intro s; unfold setCrossing; split
  · exact (setTable_touches (fun s => putCrossing _ s.table)).mono (by decide) s
  · exact makeRecord_touches _ s

theorem hearSender_touches (st : Nat) : Touches [.heard] (hearSender st) := by
  intro s p hp; cases p <;> first | rfl | exact absurd (by decide) hp

theorem takeBeacon_touches (f : BeaconFrame) : Touches [.table, .heard, .port] (takeBeacon f) := by
  intro s; unfold takeBeacon; dsimp only
  repeat' first
    | with_reducible exact .refl _ _
    | decide
    | with_reducible apply ChangesOnly.after (removeCrossing_touches _ _)
    | with_reducible apply ChangesOnly.after (setCrossing_touches _ _ _ _ _ _)
    | split

theorem takeBid_touches (f : BidFrame) : Touches [.table, .heard, .port] (takeBid f) := by
  intro s; unfold takeBid
  repeat' first
    | with_reducible exact .refl _ _
    | decide
    | with_reducible apply ChangesOnly.after (setCrossing_touches _ _ _ _ _ _)

theorem takeKeep_touches (f : KeepFrame) : Touches [.table, .heard, .port] (takeKeep f) := by
  intro s; unfold takeKeep
  repeat' first
    | with_reducible exact .refl _ _
    | decide
    | with_reducible apply ChangesOnly.after (setCrossing_touches _ _ _ _ _ _)

theorem takeCede_touches (f : CedeFrame) : Touches [.table] (takeCede f) := by
  intro s; unfold takeCede
  repeat' first
    | with_reducible exact .refl _ _
    | decide
    | split
    | (intro p hp; cases p <;> first | rfl | exact absurd (by decide) hp)

theorem takePlaced_touches (st position radius : Nat) {f : State → State} (h : Touches [.table, .heard, .port] f) :
    Touches [.table, .heard, .port] (takePlaced st position radius f) := by
  intro s; unfold takePlaced placeSender
  by_cases hr : relevant s position radius = true
  · simp only [hr, if_true]
    exact ((setTable_touches (fun s => s.table.map _)).mono (by decide) s).trans
      ((h _).trans ((hearSender_touches st).mono (by decide) _))
  · simp only [hr]
    exact (removeStation_touches st).mono (by decide) s

theorem tableTakes_touches (f : Frame) : Touches [.table, .heard, .port] (tableTakes f) := by
  intro s; unfold tableTakes
  repeat' first
    | with_reducible exact .refl _ _
    | decide
    | with_reducible apply ChangesOnly.after (hearSender_touches _)
    | with_reducible apply ChangesOnly.after (takeBeacon_touches _)
    | with_reducible apply ChangesOnly.after (takeBid_touches _)
    | with_reducible apply ChangesOnly.after (takeKeep_touches _)
    | with_reducible apply ChangesOnly.after (takeCede_touches _)
    | with_reducible apply ChangesOnly.after (takePlaced_touches _ _ _ (takeBeacon_touches _))
    | with_reducible apply ChangesOnly.after (takePlaced_touches _ _ _ (takeBid_touches _))
    | with_reducible apply ChangesOnly.after (takePlaced_touches _ _ _ (takeKeep_touches _))
    | split

/-! ### The Slot Engine -/

theorem amberEntry_touches (l : LegId) : Touches [.legs] (amberEntry l) := by
  intro s; unfold amberEntry
  repeat' first
    | with_reducible exact .refl _ _
    | decide
    | with_reducible apply ChangesOnly.after (updLeg_touches _ _)

theorem takeCommit_touches (l : LegId) : Touches [.legs] (takeCommit l) := by
  intro s; unfold takeCommit; dsimp only
  repeat' first
    | with_reducible exact .refl _ _
    | decide
    | with_reducible apply ChangesOnly.after (updLeg_touches _ _)
    | with_reducible apply ChangesOnly.after (amberEntry_touches _)
    | split

theorem removeSlot_touches (l : LegId) : Touches [.slots] (removeSlot l) := by
  intro s; unfold removeSlot
  repeat' first
    | with_reducible exact .refl _ _
    | decide
    | with_reducible apply ChangesOnly.after (updSlot_touches _ _)

theorem onSlot_touches (l : LegId) (f : Slot → Slot) : Touches [.slots] (onSlot l f) := by
  intro s; unfold onSlot
  repeat' first
    | with_reducible exact .refl _ _
    | decide
    | with_reducible apply ChangesOnly.after (updSlot_touches _ _)

theorem withdraw_touches (l : LegId) : Touches [.slots, .line] (withdraw l) := by
  intro s; unfold withdraw
  repeat' first
    | with_reducible exact .refl _ _
    | decide
    | with_reducible apply ChangesOnly.after (enqueueLeg_touches _ _)
    | with_reducible apply ChangesOnly.after (removeSlot_touches _)
    | split

theorem cede_touches (l : LegId) : Touches [.legs, .slots, .line] (cede l) := by
  intro s; unfold cede; dsimp only
  repeat' first
    | with_reducible exact .refl _ _
    | decide
    | with_reducible apply ChangesOnly.after (updLeg_touches _ _)
    | with_reducible apply ChangesOnly.after (enqueueLeg_touches _ _)
    | with_reducible apply ChangesOnly.after (removeSlot_touches _)
    | split

theorem answerKeep_touches (l : LegId) (c : Carried) : Touches [.slots, .line] (answerKeep l c) := by
  intro s; unfold answerKeep; dsimp only
  repeat' first
    | with_reducible exact .refl _ _
    | decide
    | with_reducible apply ChangesOnly.after (updSlot_touches _ _)
    | with_reducible apply ChangesOnly.after (enqueueLeg_touches _ _)
    | split

theorem react_touches (l : LegId) (c : Carried) : Touches [.legs, .slots, .line, .port] (react l c) := by
  intro s; unfold react
  repeat' first
    | with_reducible exact .refl _ _
    | decide
    | with_reducible apply ChangesOnly.after (setFlag_touches _)
    | with_reducible apply ChangesOnly.after (cede_touches _)
    | with_reducible apply ChangesOnly.after (answerKeep_touches _ _)
    | split

theorem moveBand_changes {l : LegId} {caller : Option Carried} {s t : State} (h : moveBand l caller s = some t) :
    ChangesOnly [.slots, .line] s t := by
  unfold moveBand at h
  split at h
  · cases h
  · split at h
    · cases h
    · cases h
      exact (((onSlot_touches l _).mono (by decide) s).trans ((updSlot_touches l _).mono (by decide) _)).trans
        ((enqueueLeg_touches l .keep).mono (by decide) _)

theorem moveChanged_changes {l : LegId} {own : Slot} {caller : Option Carried} {s t : State} (h : moveChanged l own caller s = some t) :
    ChangesOnly [.slots, .line] s t := by
  unfold moveChanged at h; split at h
  · exact moveBand_changes h
  · cases h

theorem moveOther_changes {l : LegId} {own : Slot} {caller : Option Carried} {s t : State} (h : moveOther l own caller s = some t) :
    ChangesOnly [.slots, .line] s t := by
  unfold moveOther at h; split at h
  · exact moveBand_changes h
  · cases h

theorem checkOwnChange_touches (n : Nat) (l : LegId) (caller : Option Carried) : Touches [.slots, .line] (checkOwnChange n l caller) := by
  induction n generalizing l with
  | zero => exact fun s => .refl _ s
  | succ n ih =>
    intro s; unfold checkOwnChange
    repeat' split
    · exact .refl _ _
    · rename_i h; exact (moveChanged_changes h).trans (ih _ _)
    · rename_i h; exact (moveOther_changes h).trans (ih _ _)
    · exact .refl _ _
    · exact .refl _ _

theorem checkFrame_touches (l : LegId) (c : Carried) : Touches [.slots, .line] (checkFrame l c) := by
  intro s; unfold checkFrame
  split
  · exact .refl _ _
  · split
    · split
      · rename_i h; exact (moveBand_changes h).trans (checkOwnChange_touches _ _ _ _)
      · exact .refl _ _
    · exact .refl _ _

theorem takeConflict_touches (l : LegId) (c : Carried) : Touches [.legs, .slots, .line, .port] (takeConflict l c) := by
  intro s; unfold takeConflict
  repeat' first
    | with_reducible exact .refl _ _
    | decide
    | with_reducible apply ChangesOnly.after (updSlot_touches _ _)
    | with_reducible apply ChangesOnly.after (react_touches _ _)
    | split

theorem slotsTake_touches (c : Carried) : Touches [.legs, .slots, .line, .port] (slotsTake c) := by
  intro s; unfold slotsTake; dsimp only
  repeat' first
    | with_reducible exact .refl _ _
    | decide
    | with_reducible apply ChangesOnly.after (checkFrame_touches _ _)
    | with_reducible apply ChangesOnly.after (takeConflict_touches _ _)

theorem sameStation_touches (l : LegId) : Touches [.legs, .slots, .line, .port] (sameStation l) := by
  intro s; unfold sameStation; dsimp only
  repeat' first
    | with_reducible exact .refl _ _
    | decide
    | with_reducible apply ChangesOnly.after (setFlagIf_touches _ _)
    | with_reducible apply ChangesOnly.after (cede_touches _)
    | split

theorem upgradeSlot_touches (l : LegId) : Touches [.slots] (upgradeSlot l) := by
  intro s; unfold upgradeSlot; dsimp only
  repeat' first
    | with_reducible exact .refl _ _
    | decide
    | with_reducible apply ChangesOnly.after (onSlot_touches _ _)
    | split

theorem checkOther_touches (l : LegId) : Touches [.legs, .slots, .line, .port] (checkOther l) := by
  intro s; unfold checkOther
  repeat' first
    | with_reducible exact .refl _ _
    | decide
    | with_reducible apply ChangesOnly.after (updSlot_touches _ _)
    | with_reducible apply ChangesOnly.after (sameStation_touches _)
    | split

theorem aidUpgrade_touches (l : LegId) : Touches [.legs, .slots, .line, .port] (aidUpgrade l) := by
  intro s; unfold aidUpgrade; dsimp only
  repeat' first
    | with_reducible exact .refl _ _
    | decide
    | with_reducible apply ChangesOnly.after (updSlot_touches _ _)
    | with_reducible apply ChangesOnly.after (enqueueLeg_touches _ _)
    | with_reducible apply ChangesOnly.after (checkOwnChange_touches _ _ _)
    | with_reducible apply ChangesOnly.after (upgradeSlot_touches _)
    | with_reducible apply ChangesOnly.after (checkOther_touches _)
    | split

theorem placeIsolated_touches (l : LegId) : Touches [.legs, .slots, .port] (placeIsolated l) := by
  intro s; unfold placeIsolated; dsimp only
  repeat' first
    | with_reducible exact .refl _ _
    | decide
    | with_reducible apply ChangesOnly.after (updSlot_touches _ _)
    | with_reducible apply ChangesOnly.after (setFlagIf_touches _ _)
    | with_reducible apply ChangesOnly.after (takeCommit_touches _)
    | split

theorem reportEligible_touches (l : LegId) : Touches [.legs, .slots, .line, .port] (reportEligible l) := by
  intro s; unfold reportEligible
  repeat' first
    | with_reducible exact .refl _ _
    | decide
    | with_reducible apply ChangesOnly.after (enqueueLeg_touches _ _)
    | with_reducible apply ChangesOnly.after (placeIsolated_touches _)
    | split

theorem markRenewed_touches (l : LegId) : Touches [.line] (markRenewed l) := by
  intro s; unfold markRenewed
  repeat' first
    | with_reducible exact .refl _ _
    | decide
    | with_reducible apply ChangesOnly.after (updQueue_touches _)

theorem requestSlot_touches (l : LegId) : Touches [.legs, .slots, .line, .port] (requestSlot l) := by
  intro s; unfold requestSlot; dsimp only
  repeat' first
    | with_reducible exact .refl _ _
    | decide
    | with_reducible apply ChangesOnly.after (markRenewed_touches _)
    | with_reducible apply ChangesOnly.after (reportEligible_touches _)
    | split

theorem takeDeferred_touches (l : LegId) (d : Deferred) : Touches [.legs, .slots, .line, .port] (takeDeferred l d) := by
  intro s; unfold takeDeferred
  repeat' first
    | with_reducible exact .refl _ _
    | decide
    | with_reducible apply ChangesOnly.after (react_touches _ _)
    | with_reducible apply ChangesOnly.after (sameStation_touches _)
    | split

theorem bidReported_touches (l : LegId) : Touches [.legs, .slots, .line, .port] (bidReported l) := by
  intro s; unfold bidReported; dsimp only
  repeat' first
    | with_reducible exact .refl _ _
    | decide
    | with_reducible apply ChangesOnly.after (updLeg_touches _ _)
    | with_reducible apply ChangesOnly.after (updSlot_touches _ _)
    | with_reducible apply ChangesOnly.after (setFlagIf_touches _ _)
    | with_reducible apply ChangesOnly.after (enqueueLeg_touches _ _)
    | with_reducible apply ChangesOnly.after (checkOwnChange_touches _ _ _)
    | with_reducible apply ChangesOnly.after (aidUpgrade_touches _)
    | with_reducible apply ChangesOnly.after (takeDeferred_touches _ _)
    | with_reducible apply ChangesOnly.after (Touches.foldl (fun d => takeDeferred_touches l d) _)
    | split

theorem contestWon_touches (l : LegId) : Touches [.legs, .slots, .line] (contestWon l) := by
  intro s; unfold contestWon; dsimp only
  repeat' first
    | with_reducible exact .refl _ _
    | decide
    | with_reducible apply ChangesOnly.after (updSlot_touches _ _)
    | with_reducible apply ChangesOnly.after (enqueueLeg_touches _ _)
    | with_reducible apply ChangesOnly.after (takeCommit_touches _)
    | with_reducible apply ChangesOnly.after (onSlot_touches _ _)
    | split

theorem walkStartReported_touches (l : LegId) (len : Nat) : Touches [.slots] (walkStartReported l len) := by
  intro s; unfold walkStartReported
  repeat' first
    | with_reducible exact .refl _ _
    | decide
    | with_reducible apply ChangesOnly.after (updSlot_touches _ _)
    | with_reducible refine .after (onSlot_touches _ _) ?_ ?_

/-! ### The legs -/

theorem enterAllRedOut_touches (l : LegId) : Touches [.legs] (enterAllRedOut l) := by
  intro s; unfold enterAllRedOut
  repeat' first
    | with_reducible exact .refl _ _
    | decide
    | with_reducible apply ChangesOnly.after (updLeg_touches _ _)

theorem enterClearance_touches (l : LegId) : Touches [.legs, .kerbs, .links] (enterClearance l) := by
  intro s; unfold enterClearance; dsimp only
  repeat' first
    | with_reducible exact .refl _ _
    | decide
    | with_reducible apply ChangesOnly.after (updLeg_touches _ _)
    | with_reducible apply ChangesOnly.after (changePattern_touches _ _)
    | split

theorem skipWalk_touches (l : LegId) : Touches [.legs, .slots, .line] (skipWalk l) := by
  intro s; unfold skipWalk
  repeat' first
    | with_reducible exact .refl _ _
    | decide
    | with_reducible apply ChangesOnly.after (withdraw_touches _)
    | with_reducible apply ChangesOnly.after (enterAllRedOut_touches _)

theorem removeCall_touches (l : LegId) : Touches [.calls] (removeCall l) := by
  intro s; unfold removeCall
  repeat' first
    | with_reducible exact .refl _ _
    | decide
    | with_reducible apply ChangesOnly.after (updCall_touches _ _)

theorem startWalk_touches (l : LegId) : Touches [.legs, .calls, .slots, .kerbs, .links] (startWalk l) := by
  intro s; unfold startWalk; dsimp only
  repeat' first
    | with_reducible exact .refl _ _
    | decide
    | with_reducible apply ChangesOnly.after (updLeg_touches _ _)
    | with_reducible apply ChangesOnly.after (cutBeep_touches _ _)
    | with_reducible apply ChangesOnly.after (changePattern_touches _ _)
    | with_reducible apply ChangesOnly.after (walkStartReported_touches _ _)
    | with_reducible apply ChangesOnly.after (removeCall_touches _)
    | split

theorem allRedInDone_touches (l : LegId) : Touches [.legs, .calls, .slots, .line, .kerbs, .links] (allRedInDone l) := by
  intro s; unfold allRedInDone
  repeat' first
    | with_reducible exact .refl _ _
    | decide
    | with_reducible apply ChangesOnly.after (skipWalk_touches _)
    | with_reducible apply ChangesOnly.after (startWalk_touches _)
    | split

theorem amberDone_touches (l : LegId) : Touches [.legs] (amberDone l) := by
  intro s; unfold amberDone
  repeat' first
    | with_reducible exact .refl _ _
    | decide
    | with_reducible apply ChangesOnly.after (updLeg_touches _ _)
    | with_reducible apply ChangesOnly.after (enterAllRedOut_touches _)
    | split

theorem clearanceDone_touches (l : LegId) : Touches [.legs, .slots, .kerbs, .links] (clearanceDone l) := by
  intro s; unfold clearanceDone
  repeat' first
    | with_reducible exact .refl _ _
    | decide
    | with_reducible apply ChangesOnly.after (changePattern_touches _ _)
    | with_reducible apply ChangesOnly.after (removeSlot_touches _)
    | with_reducible apply ChangesOnly.after (enterAllRedOut_touches _)

theorem allRedOutDone_touches (l : LegId) : Touches [.legs, .slots, .line, .port] (allRedOutDone l) := by
  intro s; unfold allRedOutDone; dsimp only
  repeat' first
    | with_reducible exact .refl _ _
    | decide
    | with_reducible apply ChangesOnly.after (updLeg_touches _ _)
    | with_reducible apply ChangesOnly.after (reportEligible_touches _)
    | split

theorem holdInWalk_touches (l : LegId) : Touches [.legs, .slots, .kerbs, .links, .port] (holdInWalk l) := by
  intro s; unfold holdInWalk; dsimp only
  repeat' first
    | with_reducible exact .refl _ _
    | decide
    | with_reducible apply ChangesOnly.after (updLeg_touches _ _)
    | with_reducible apply ChangesOnly.after (setFlagIf_touches _ _)
    | with_reducible apply ChangesOnly.after (onSlot_touches _ _)
    | with_reducible apply ChangesOnly.after (enterClearance_touches _)
    | split

theorem holdInClearance_touches (l : LegId) : Touches [.legs, .slots, .port] (holdInClearance l) := by
  intro s; unfold holdInClearance; dsimp only
  repeat' first
    | with_reducible exact .refl _ _
    | decide
    | with_reducible apply ChangesOnly.after (updLeg_touches _ _)
    | with_reducible apply ChangesOnly.after (setFlag_touches _)
    | with_reducible apply ChangesOnly.after (onSlot_touches _ _)
    | split

theorem holdLeg_touches (l : LegId) : Touches [.legs, .slots, .line, .kerbs, .links, .port] (holdLeg l) := by
  intro s; unfold holdLeg
  repeat' first
    | with_reducible exact .refl _ _
    | decide
    | with_reducible apply ChangesOnly.after (updLeg_touches _ _)
    | with_reducible apply ChangesOnly.after (withdraw_touches _)
    | with_reducible apply ChangesOnly.after (enterAllRedOut_touches _)
    | with_reducible apply ChangesOnly.after (holdInWalk_touches _)
    | with_reducible apply ChangesOnly.after (holdInClearance_touches _)
    | split

theorem unholdLeg_touches (l : LegId) : Touches [.legs, .slots, .line, .port] (unholdLeg l) := by
  intro s; unfold unholdLeg
  repeat' first
    | with_reducible exact .refl _ _
    | decide
    | with_reducible apply ChangesOnly.after (updLeg_touches _ _)
    | with_reducible apply ChangesOnly.after (reportEligible_touches _)
    | split

theorem flashLeg_touches (l : LegId) : Touches [.legs] (flashLeg l) := by
  intro s; unfold flashLeg
  repeat' first
    | with_reducible exact .refl _ _
    | decide
    | with_reducible apply ChangesOnly.after (updLeg_touches _ _)

theorem releaseLeg_touches (l : LegId) : Touches [.legs, .kerbs, .links] (releaseLeg l) := by
  intro s; unfold releaseLeg
  repeat' first
    | with_reducible exact .refl _ _
    | decide
    | with_reducible apply ChangesOnly.after (changePattern_touches _ _)
    | with_reducible apply ChangesOnly.after (enterAllRedOut_touches _)

/-! ### Calls and buttons -/

theorem latch_touches (l : LegId) (k : Side) (kind : Kind) : Touches [.calls] (latch l k kind) := by
  intro s; unfold latch
  repeat' first
    | with_reducible exact .refl _ _
    | decide
    | with_reducible apply ChangesOnly.after (updCall_touches _ _)

theorem upgradeCall_touches (l : LegId) : Touches [.calls] (upgradeCall l) := by
  intro s; unfold upgradeCall
  repeat' first
    | with_reducible exact .refl _ _
    | decide
    | with_reducible apply ChangesOnly.after (updCall_touches _ _)

theorem takePress_touches (l : LegId) (k : Side) (kind : Kind) : Touches pressParts (fun s => (takePress l k kind s).1) := by
  intro s; dsimp only [takePress, pressInRest, pressInCalled, pressInService, pressInWalk, pressInLater]
  repeat' first
    | with_reducible exact .refl _ _
    | decide
    | with_reducible apply ChangesOnly.after (updLeg_touches _ _)
    | with_reducible apply ChangesOnly.after (triggerBeep_touches _ _ _)
    | with_reducible apply ChangesOnly.after (resetEnvelope_touches _ _)
    | with_reducible apply ChangesOnly.after (aidUpgrade_touches _)
    | with_reducible apply ChangesOnly.after (requestSlot_touches _)
    | with_reducible apply ChangesOnly.after (latch_touches _ _ _)
    | with_reducible apply ChangesOnly.after (upgradeCall_touches _)
    | split

theorem press_touches (l : LegId) (k : Side) (kind : Kind) : Touches pressParts (press l k kind) := by
  intro s; unfold press
  repeat' first
    | with_reducible exact .refl _ _
    | decide
    | with_reducible apply ChangesOnly.after (takePress_touches _ _ _)

theorem markStuck_touches (l : LegId) (k : Side) : Touches [.buttons, .port] (markStuck l k) := by
  intro s; unfold markStuck
  repeat' first
    | with_reducible exact .refl _ _
    | decide
    | with_reducible apply ChangesOnly.after (updButton_touches _ _ _)
    | with_reducible apply ChangesOnly.after (setFlag_touches _)

theorem declarePress_touches (l : LegId) (k : Side) : Touches [.buttons] (declarePress l k) := by
  intro s; unfold declarePress
  repeat' first
    | with_reducible exact .refl _ _
    | decide
    | with_reducible apply ChangesOnly.after (updButton_touches _ _ _)

theorem classifyAid_touches (l : LegId) (k : Side) : Touches (.buttons :: pressParts) (classifyAid l k) := by
  intro s; unfold classifyAid
  repeat' first
    | with_reducible exact .refl _ _
    | decide
    | with_reducible apply ChangesOnly.after (updButton_touches _ _ _)
    | with_reducible apply ChangesOnly.after (press_touches _ _ _)

theorem declareRelease_touches (l : LegId) (k : Side) : Touches (.buttons :: pressParts) (declareRelease l k) := by
  intro s; unfold declareRelease; dsimp only
  have h1 : ChangesOnly (.buttons :: pressParts) s (if aidReached s l k = true then classifyAid l k s else s) :=
    .ite (classifyAid_touches l k s) (.refl _ _)
  revert h1
  generalize (if aidReached s l k = true then classifyAid l k s else s) = t
  intro h1
  have h2 : ChangesOnly (.buttons :: pressParts) s (if stuckReached t l k = true then markStuck l k t else t) :=
    .ite (h1.trans ((markStuck_touches l k).mono (by decide) t)) h1
  revert h2
  generalize (if stuckReached t l k = true then markStuck l k t else t) = u
  intro h2
  have h3 := h2.after (updButton_touches l k (fun _ => Button.atStart)) (by decide)
  split
  · exact h3.after (press_touches l k .plain) (by decide)
  · exact h3

theorem sampleButton_touches (l : LegId) (k : Side) (high : Bool) : Touches (.buttons :: pressParts) (sampleButton l k high) := by
  intro s; unfold sampleButton; dsimp only
  repeat' first
    | with_reducible exact .refl _ _
    | decide
    | with_reducible apply ChangesOnly.after (updButton_touches _ _ _)
    | with_reducible apply ChangesOnly.after (declarePress_touches _ _)
    | with_reducible apply ChangesOnly.after (declareRelease_touches _ _)
    | split

/-! ### Holds -/

/-- Advancing the choices touches them alone. -/
theorem setChoices_touches (c : Bool) : Touches [.choices] (fun s => if c then { s with choices := s.choices + 1 } else s) := by
  intro s; dsimp only; split
  · intro p hp; cases p <;> first | rfl | exact absurd (by decide) hp
  · exact .refl _ _

theorem reportHold_touches : Touches [.legs, .slots, .line, .kerbs, .links, .port] reportHold := by
  intro s; unfold reportHold
  repeat' first
    | with_reducible exact .refl _ _
    | decide
    | with_reducible apply ChangesOnly.after (holdLeg_touches _)
    | with_reducible apply ChangesOnly.after (forLegs_touches holdLeg_touches _)

theorem reportHoldEnded_touches : Touches [.legs, .slots, .line, .port, .choices] reportHoldEnded := by
  intro s; unfold reportHoldEnded; dsimp only
  repeat' first
    | with_reducible exact .refl _ _
    | decide
    | with_reducible apply ChangesOnly.after (unholdLeg_touches _)
    | with_reducible apply ChangesOnly.after (forLegs_touches unholdLeg_touches _)
    | split
    | (intro p hp; cases p <;> first | rfl | exact absurd (by decide) hp)

theorem changeSources_touches (f : Hold → Hold) : Touches holdParts (changeSources f) := by
  intro s; unfold changeSources; dsimp only
  repeat' first
    | with_reducible exact .refl _ _
    | decide
    | with_reducible apply ChangesOnly.after (updHold_touches _)
    | with_reducible apply ChangesOnly.after (reportHold_touches)
    | with_reducible apply ChangesOnly.after (reportHoldEnded_touches)
    | split

theorem startClearway_touches : Touches [.line, .hold] startClearway := by
  intro s; unfold startClearway
  repeat' first
    | with_reducible exact .refl _ _
    | decide
    | with_reducible apply ChangesOnly.after (updHold_touches _)
    | with_reducible apply ChangesOnly.after (enqueueClear_touches _)
    | split

theorem endClearway_touches : Touches [.line, .hold] endClearway := by
  intro s; unfold endClearway; dsimp only
  repeat' first
    | with_reducible exact .refl _ _
    | decide
    | with_reducible apply ChangesOnly.after (updHold_touches _)
    | with_reducible apply ChangesOnly.after (enqueueClear_touches _)
    | split

theorem holdRequested_touches : Touches holdParts holdRequested := by
  intro s; unfold holdRequested; dsimp only
  repeat' first
    | with_reducible exact .refl _ _
    | decide
    | with_reducible apply ChangesOnly.after (updHold_touches _)
    | with_reducible apply ChangesOnly.after (changeSources_touches _)
    | with_reducible apply ChangesOnly.after (startClearway_touches)
    | split

theorem releaseTaken_touches : Touches holdParts releaseTaken := by
  intro s; unfold releaseTaken; dsimp only
  repeat' first
    | with_reducible exact .refl _ _
    | decide
    | with_reducible apply ChangesOnly.after (updHold_touches _)
    | with_reducible apply ChangesOnly.after (changeSources_touches _)
    | with_reducible apply ChangesOnly.after (endClearway_touches)
    | split

theorem holdLowered_touches : Touches holdParts holdLowered := by
  intro s; unfold holdLowered; dsimp only
  repeat' first
    | with_reducible exact .refl _ _
    | decide
    | with_reducible apply ChangesOnly.after (updHold_touches _)
    | with_reducible apply ChangesOnly.after (releaseTaken_touches)
    | split

theorem releaseRaised_touches : Touches holdParts releaseRaised := by
  intro s; unfold releaseRaised
  repeat' first
    | with_reducible exact .refl _ _
    | decide
    | with_reducible apply ChangesOnly.after (updHold_touches _)
    | with_reducible apply ChangesOnly.after (releaseTaken_touches)
    | split

theorem changeHolders_touches (f : List Holder → List Holder) : Touches holdParts (changeHolders f) := by
  intro s; unfold changeHolders
  repeat' first
    | with_reducible exact .refl _ _
    | decide
    | with_reducible apply ChangesOnly.after (changeSources_touches _)

theorem holdTakesClearway_touches (f : ClearwayFrame) : Touches holdParts (holdTakesClearway f) := by
  intro s; unfold holdTakesClearway
  repeat' first
    | with_reducible exact .refl _ _
    | decide
    | with_reducible apply ChangesOnly.after (changeHolders_touches _)
    | split

theorem holdTakesClearEnd_touches (f : ClearwayFrame) : Touches holdParts (holdTakesClearEnd f) := by
  intro s; unfold holdTakesClearEnd
  repeat' first
    | with_reducible exact .refl _ _
    | decide
    | with_reducible apply ChangesOnly.after (changeHolders_touches _)

/-! ### The station modes -/

theorem startBeacon_touches : Touches [.line] startBeacon := by
  intro s; unfold startBeacon
  repeat' first
    | with_reducible exact .refl _ _
    | decide
    | with_reducible apply ChangesOnly.after (updLine_touches _)
    | with_reducible apply ChangesOnly.after (enqueueBeacon_touches)

theorem setMode_touches (f : State → Mode × Cause × Option Isolation × Countdown) :
    Touches [.mode, .cause, .isolation, .join]
      (fun s => { s with mode := (f s).1, cause := (f s).2.1, isolation := (f s).2.2.1, join := (f s).2.2.2 }) := by
  intro s p hp; cases p <;> first | rfl | exact absurd (by decide) hp

theorem enterListen_touches : Touches [.mode, .cause, .isolation, .join, .line, .hold] enterListen := by
  intro s; unfold enterListen
  repeat' first
    | with_reducible exact .refl _ _
    | decide
    | with_reducible apply ChangesOnly.after (startClearway_touches)
    | with_reducible apply ChangesOnly.after (startBeacon_touches)
    | split
    | (intro p hp; cases p <;> first | rfl | exact absurd (by decide) hp)

theorem isolateLeg_touches (l : LegId) : Touches [.legs, .slots, .port] (isolateLeg l) := by
  intro s; unfold isolateLeg
  repeat' first
    | with_reducible exact .refl _ _
    | decide
    | with_reducible apply ChangesOnly.after (updSlot_touches _ _)
    | with_reducible apply ChangesOnly.after (takeCommit_touches _)
    | with_reducible apply ChangesOnly.after (onSlot_touches _ _)
    | with_reducible apply ChangesOnly.after (placeIsolated_touches _)
    | split

theorem setSlots_touches (f : Legs SlotRec → Legs SlotRec) : Touches [.slots] (fun s => { s with slots := f s.slots }) := by
  intro s p hp; cases p <;> first | rfl | exact absurd (by decide) hp

theorem setEntry_touches (m : Mode) (c : Cause) (j : Countdown) :
    Touches [.mode, .cause, .join] (fun s => { s with mode := m, cause := c, join := j }) := by
  intro s p hp; cases p <;> first | rfl | exact absurd (by decide) hp

theorem choose_touches : Touches [.choices] (fun s => { s with choices := s.choices + 1 }) := by
  intro s p hp; cases p <;> first | rfl | exact absurd (by decide) hp

theorem enterIsolated_touches (i : Isolation) : Touches isolationParts (enterIsolated i) := by
  intro s; unfold enterIsolated
  extract_lets s1 s2 s3 s4 s5 s6 both order
  have h1 : ChangesOnly isolationParts s s1 :=
    .after (setFlag_touches _) (by decide) (.after (setEntry_touches _ _ _) (by decide) (.refl _ s))
  have h2 : ChangesOnly isolationParts s s2 :=
    .after discardReception_touches (by decide) (.after stopOwnFrame_touches (by decide) h1)
  have h3 : ChangesOnly isolationParts s s3 := .after (updLine_touches _) (by decide) h2
  have h4 : ChangesOnly isolationParts s s4 := .after emptyTable_touches (by decide) h3
  have h5 : ChangesOnly isolationParts s s5 := .after (setSlots_touches _) (by decide) h4
  have h6 : ChangesOnly isolationParts s s6 := .after (updHold_touches _) (by decide) h5
  clear_value s6
  exact .after (forLegs_touches isolateLeg_touches order) (by decide)
    (.ite (.after choose_touches (by decide) h6) h6)

theorem flashBlocks_touches : Touches [.legs, .calls, .slots, .kerbs, .links] flashBlocks := by
  intro s; unfold flashBlocks; dsimp only
  refine .after (forLegs_touches silenceLeg_touches _) (by decide) ?_
  refine .after (setSlots_touches (fun x => x.map SlotRec.flash)) (by decide) ?_
  refine .after (removeCall_touches .leg1) (by decide) (.after (removeCall_touches .leg0) (by decide) ?_)
  exact .after (forLegs_touches flashLeg_touches _) (by decide) (.refl _ _)

theorem enterFlash_touches (c : Cause) : Touches flashParts (enterFlash c) := by
  intro s; unfold enterFlash; dsimp only
  repeat' first
    | with_reducible exact .refl _ _
    | decide
    | with_reducible apply ChangesOnly.after (startClearway_touches)
    | with_reducible apply ChangesOnly.after (startBeacon_touches)
    | with_reducible apply ChangesOnly.after (flashBlocks_touches)
    | split
    | (intro p hp; cases p <;> first | rfl | exact absurd (by decide) hp)

theorem flashFrom_touches (c : Cause) : Touches flashParts (flashFrom c) := by
  intro s; unfold flashFrom
  repeat' first
    | with_reducible exact .refl _ _
    | decide
    | with_reducible apply ChangesOnly.after (enterFlash_touches _)
    | split

theorem reportIsolation_touches (i : Isolation) : Touches isolationParts (reportIsolation i) := by
  intro s; unfold reportIsolation
  repeat' first
    | with_reducible exact .refl _ _
    | decide
    | with_reducible apply ChangesOnly.after (enterIsolated_touches _)
    | split
    | (intro p hp; cases p <;> first | rfl | exact absurd (by decide) hp)

theorem duplicateFound_touches : Touches isolationParts duplicateFound := by
  intro s; unfold duplicateFound
  repeat' first
    | with_reducible exact .refl _ _
    | decide
    | with_reducible apply ChangesOnly.after (setFlag_touches _)
    | with_reducible apply ChangesOnly.after (reportIsolation_touches _)

theorem takeLineFault_touches : Touches isolationParts takeLineFault := by
  intro s; unfold takeLineFault; dsimp only
  repeat' first
    | with_reducible exact .refl _ _
    | decide
    | with_reducible apply ChangesOnly.after (updLine_touches _)
    | with_reducible apply ChangesOnly.after (setFlag_touches _)
    | with_reducible apply ChangesOnly.after (stopOwnFrame_touches)
    | with_reducible apply ChangesOnly.after (discardReception_touches)
    | with_reducible apply ChangesOnly.after (reportIsolation_touches _)
    | split

theorem takeLineClear_touches : Touches [.mode, .cause, .isolation, .join, .line, .hold] takeLineClear := by
  intro s; unfold takeLineClear; dsimp only
  repeat' first
    | with_reducible exact .refl _ _
    | decide
    | with_reducible apply ChangesOnly.after (updLine_touches _)
    | with_reducible apply ChangesOnly.after (enterListen_touches)
    | split
    | (intro p hp; cases p <;> first | rfl | exact absurd (by decide) hp)

theorem takeJoin_touches : Touches [.mode, .cause, .isolation, .join, .line, .hold] takeJoin := by
  intro s; unfold takeJoin
  repeat' first
    | with_reducible exact .refl _ _
    | decide
    | with_reducible apply ChangesOnly.after (enterListen_touches)
    | split
    | (intro p hp; cases p <;> first | rfl | exact absurd (by decide) hp)

theorem takeResume_touches : Touches (isolationParts ++ [.kerbs, .links]) takeResume := by
  intro s; unfold takeResume; dsimp only
  have h : ChangesOnly (isolationParts ++ [.kerbs, .links]) s
      (forLegs bothLegs releaseLeg { s with mode := .run, cause := .none }) := by
    refine .after (forLegs_touches releaseLeg_touches bothLegs) (by decide) ?_
    intro p hp; cases p <;> first | rfl | exact absurd (by decide) hp
  split
  · exact h
  · refine .after (enterIsolated_touches _) (by decide) (h.trans ?_)
    intro p hp; cases p <;> first | rfl | exact absurd (by decide) hp

theorem joinDone_touches : Touches [.mode, .cause, .isolation, .join, .line] joinDone := by
  intro s; unfold joinDone
  refine .after (forLegs_touches (fun l s => ChangesOnly.ite (enqueueLeg_touches l .bid s) (.refl _ s)) bothLegs) (by decide) ?_
  intro p hp; cases p <;> first | rfl | exact absurd (by decide) hp

/-! ### The street line -/

theorem dropHead_touches (h : Head) : Touches [.line] (dropHead h) := by
  intro s; unfold dropHead
  repeat' first
    | with_reducible exact .refl _ _
    | decide
    | with_reducible apply ChangesOnly.after (updQueue_touches _)

theorem sendFrame_touches (h : Head) (f : Frame) : Touches [.line] (sendFrame h f) := by
  intro s; unfold sendFrame; dsimp only
  repeat' first
    | with_reducible exact .refl _ _
    | decide
    | with_reducible apply ChangesOnly.after (updLine_touches _)
    | with_reducible apply ChangesOnly.after (updQueue_touches _)

theorem beginFrame_touches (h : Head) : Touches [.slots, .line] (beginFrame h) := by
  intro s; unfold beginFrame; dsimp only
  repeat' first
    | with_reducible exact .refl _ _
    | decide
    | with_reducible apply ChangesOnly.after (updSlot_touches _ _)
    | with_reducible apply ChangesOnly.after (sendFrame_touches _ _)
    | split

theorem takeHead_touches (n : Nat) : Touches [.slots, .line] (takeHead n) := by
  induction n with
  | zero => exact fun s => .refl _ s
  | succ n ih =>
    intro s; unfold takeHead
    repeat' split
    · exact .refl _ _
    · exact beginFrame_touches _ _
    · exact ((dropHead_touches _).mono (by decide) s).trans (ih _)

theorem completeFrame_touches : Touches [.line] completeFrame := by
  intro s; unfold completeFrame
  repeat' first
    | with_reducible exact .refl _ _
    | decide
    | with_reducible apply ChangesOnly.after (updLine_touches _)

theorem loseArbitration_touches : Touches [.slots, .line] loseArbitration := by
  intro s; unfold loseArbitration
  repeat' first
    | with_reducible exact .refl _ _
    | decide
    | with_reducible apply ChangesOnly.after (updLine_touches _)
    | with_reducible apply ChangesOnly.after (stopOwnFrame_touches)

theorem collide_touches : Touches isolationParts collide := by
  intro s; unfold collide; dsimp only
  repeat' first
    | with_reducible exact .refl _ _
    | decide
    | with_reducible apply ChangesOnly.after (updLine_touches _)
    | with_reducible apply ChangesOnly.after (stopOwnFrame_touches)
    | with_reducible apply ChangesOnly.after (duplicateFound_touches)
    | split

theorem countFormat_touches : Touches [.line] countFormat := by
  intro s; unfold countFormat
  repeat' first
    | with_reducible exact .refl _ _
    | decide
    | with_reducible apply ChangesOnly.after (updLine_touches _)

theorem countCrc_touches : Touches [.line] countCrc := by
  intro s; unfold countCrc
  repeat' first
    | with_reducible exact .refl _ _
    | decide
    | with_reducible apply ChangesOnly.after (updLine_touches _)

theorem blocksTake_touches (f : Frame) : Touches holdParts (blocksTake f) := by
  intro s; unfold blocksTake
  repeat' first
    | with_reducible exact .refl _ _
    | decide
    | with_reducible apply ChangesOnly.after (slotsTake_touches _)
    | with_reducible apply ChangesOnly.after (holdTakesClearway_touches _)
    | with_reducible apply ChangesOnly.after (holdTakesClearEnd_touches _)
    | split

theorem dispatch_touches (f : Frame) : Touches frameParts (dispatch f) := by
  intro s; unfold dispatch
  exact ((blocksTake_touches f).mono (by decide) s).trans ((tableTakes_touches f).mono (by decide) _)

theorem takeValid_touches (f : Frame) : Touches frameParts (takeValid f) := by
  intro s; unfold takeValid
  repeat' first
    | with_reducible exact .refl _ _
    | decide
    | with_reducible apply ChangesOnly.after (duplicateFound_touches)
    | with_reducible apply ChangesOnly.after (dispatch_touches _)
    | split

theorem atFrameEnd_touches {ps : List Part} (hl : .line ∈ ps) {take : State → State} (h : Touches ps take) :
    Touches ps (atFrameEnd take) := by
  intro s; unfold atFrameEnd; dsimp only
  have hq : ∀ p ∈ [Part.line], p ∈ ps := by simpa using hl
  split
  · exact .after h (fun _ hp => hp) (.after (updLine_touches _) hq (.refl _ _))
  · exact .after (updLine_touches _) hq (.refl _ _)

theorem takeFrame_touches (f : Frame) : Touches frameParts (takeFrame f) :=
  atFrameEnd_touches (by decide) (fun s => ChangesOnly.ite (takeValid_touches f s) ((countFormat_touches.mono (by decide)) s))

theorem takeBits_touches (bits : List Bool) : Touches frameParts (takeBits bits) := by
  refine atFrameEnd_touches (by decide) (fun s => ?_)
  split
  · exact takeValid_touches _ _
  · exact countCrc_touches.mono (by decide) _
  · exact countFormat_touches.mono (by decide) _

theorem judgePulse_touches (recessive : Nat) (dominant : Dominant) : Touches isolationParts (judgePulse recessive dominant) := by
  intro s; unfold judgePulse; dsimp only
  repeat' first
    | with_reducible exact .refl _ _
    | decide
    | with_reducible apply ChangesOnly.after (updLine_touches _)
    | with_reducible apply ChangesOnly.after (takeLineFault_touches)
    | split

/-! ### RSTRT -/

theorem pinAtRestart_touches (w : RstrtWrite) : Touches [.quietPin] (pinAtRestart w) := by
  intro s; unfold pinAtRestart; split
  · intro p hp; cases p <;> first | rfl | exact absurd (by decide) hp
  · exact .refl _ _

/-- A RSTRT whose write carries the level last told of is the command alone. -/
theorem takeRstrt_told (bytes : List Byte) (s : State) :
    takeRstrt { bytes := bytes, quiet := s.quietPin } s = takeCommand .rstrt bytes s := by
  unfold takeRstrt pinAtRestart; split <;> rfl

/-! ### The decisecond tick -/

theorem stepCounts_touches :
    Touches [.join, .legs, .buttons, .calls, .slots, .table, .heard, .line, .hold, .kerbs, .ambient, .lamps] stepCounts := by
  intro s p hp; cases p <;> first | rfl | exact absurd (by decide) hp

theorem tick_touches : Touches (commandParts .decisecondTick) tick := by
  intro s; unfold tick
  exact (elapseToTick_touches.mono (by decide) s).trans (stepCounts_touches.mono (by decide) _)

end Sys2Proof.Machine
end

