-- ==== Sys2Proof/Laws/Lists.lean ====
section
/-! SUPPORT. The ordered lists of the Crossing Table and the holders set: what putting an entry does to their members, their order and
their length. -/

namespace Sys2Proof.Machine

/-! ### Crossing records -/

/-- The records that remain beside a record put in are those of other crossings. -/
theorem mem_putCrossing {c d : Crossing} {t : List Crossing} (ht : t.Pairwise (fun a b => crossingKey a < crossingKey b)) :
    d ∈ putCrossing c t ↔ d = c ∨ (d ∈ t ∧ crossingKey d ≠ crossingKey c) := by
  induction t with
  | nil => simp [putCrossing]
  | cons e es ih =>
    have hes := (List.pairwise_cons.mp ht)
    unfold putCrossing
    split
    · rename_i h
      constructor
      · intro hm
        rcases List.mem_cons.mp hm with rfl | hm
        · exact .inl rfl
        · refine .inr ⟨hm, ?_⟩
          rcases List.mem_cons.mp hm with rfl | hm
          · omega
          · have := hes.1 d hm; omega
      · rintro (rfl | ⟨hm, -⟩)
        · exact List.mem_cons_self ..
        · exact List.mem_cons_of_mem _ hm
    · split
      · rename_i h
        constructor
        · intro hm
          rcases List.mem_cons.mp hm with rfl | hm
          · exact .inl rfl
          · exact .inr ⟨List.mem_cons_of_mem _ hm, by have := hes.1 d hm; omega⟩
        · rintro (rfl | ⟨hm, hk⟩)
          · exact List.mem_cons_self ..
          · rcases List.mem_cons.mp hm with rfl | hm
            · exact absurd h.symm hk
            · exact List.mem_cons_of_mem _ hm
      · rename_i h1 h2
        rw [List.mem_cons, ih hes.2, List.mem_cons]
        constructor
        · rintro (rfl | h | ⟨h, hk⟩)
          · exact .inr ⟨.inl rfl, fun e => h2 e.symm⟩
          · exact .inl h
          · exact .inr ⟨.inr h, hk⟩
        · rintro (h | ⟨h | h, hk⟩)
          · exact .inr (.inl h)
          · exact .inl h
          · exact .inr (.inr ⟨h, hk⟩)

/-- Putting a record keeps the order of the table. -/
theorem putCrossing_pairwise {c : Crossing} {t : List Crossing} (ht : t.Pairwise (fun a b => crossingKey a < crossingKey b)) :
    (putCrossing c t).Pairwise (fun a b => crossingKey a < crossingKey b) := by
  induction t with
  | nil => simp [putCrossing]
  | cons e es ih =>
    have hes := List.pairwise_cons.mp ht
    unfold putCrossing
    split
    · rename_i h
      refine List.pairwise_cons.mpr ⟨fun d hd => ?_, ht⟩
      rcases List.mem_cons.mp hd with rfl | hd
      · exact h
      · have := hes.1 d hd; omega
    · split
      · rename_i h
        exact List.pairwise_cons.mpr ⟨fun d hd => by have := hes.1 d hd; omega, hes.2⟩
      · rename_i h1 h2
        refine List.pairwise_cons.mpr ⟨fun d hd => ?_, ih hes.2⟩
        rcases (mem_putCrossing hes.2).mp hd with rfl | ⟨hd, -⟩
        · omega
        · exact hes.1 d hd

/-- A record put over one of its crossing leaves the number of records; another adds one. -/
theorem putCrossing_length (c : Crossing) (t : List Crossing) : (putCrossing c t).length ≤ t.length + 1 := by
  induction t with
  | nil => simp [putCrossing]
  | cons e es ih =>
    unfold putCrossing
    split
    · simp
    · split
      · simp
      · simpa using ih

/-- A record put over one of its crossing adds none. -/
theorem putCrossing_length_of_mem {c d : Crossing} {t : List Crossing} (ht : t.Pairwise (fun a b => crossingKey a < crossingKey b))
    (hd : d ∈ t) (hk : crossingKey d = crossingKey c) : (putCrossing c t).length = t.length := by
  induction t with
  | nil => cases hd
  | cons e es ih =>
    have hes := List.pairwise_cons.mp ht
    unfold putCrossing
    rcases List.mem_cons.mp hd with rfl | hd
    · rw [if_neg (by omega), if_pos hk.symm]; rfl
    · have := hes.1 d hd
      rw [if_neg (by omega), if_neg (by omega)]
      simpa using ih hes.2 hd

/-- The key names the crossing. -/
theorem crossingKey_eq {a b : Crossing} : crossingKey a = crossingKey b ↔ a.station = b.station ∧ a.leg = b.leg := by
  unfold crossingKey legCode
  constructor
  · intro h
    cases ha : a.leg <;> cases hb : b.leg <;> simp only [ha, hb] at h ⊢ <;> simp <;> omega
  · rintro ⟨h, g⟩
    rw [h, g]

/-- In an ordered table a crossing's record is the one that is found. -/
theorem findCrossing_eq_some {t : List Crossing} (ht : t.Pairwise (fun a b => crossingKey a < crossingKey b)) {st : Nat} {l : LegId}
    {c : Crossing} : findCrossing t st l = some c ↔ c ∈ t ∧ c.station = st ∧ c.leg = l := by
  unfold findCrossing
  constructor
  · intro h
    exact ⟨List.mem_of_find?_eq_some h, by simpa using List.find?_some h⟩
  · rintro ⟨hm, hs, hl⟩
    induction t with
    | nil => cases hm
    | cons e es ih =>
      have hes := List.pairwise_cons.mp ht
      rcases List.mem_cons.mp hm with rfl | hm
      · simp [hs, hl]
      · have hne : ¬(e.station = st ∧ e.leg = l) := by
          rintro ⟨h1, h2⟩
          have h3 := hes.1 c hm
          have h4 : crossingKey e = crossingKey c := crossingKey_eq.mpr ⟨h1.trans hs.symm, h2.trans hl.symm⟩
          omega
        rw [List.find?_cons_of_neg (by simpa using hne)]
        exact ih hes.2 hm

/-- No record is found where none is of the crossing. -/
theorem findCrossing_eq_none {t : List Crossing} {st : Nat} {l : LegId} :
    findCrossing t st l = none ↔ ∀ c ∈ t, ¬(c.station = st ∧ c.leg = l) := by
  unfold findCrossing
  rw [List.find?_eq_none]
  simp

theorem hasRecord_iff {t : List Crossing} {st : Nat} : hasRecord t st = true ↔ ∃ c ∈ t, c.station = st := by
  unfold hasRecord
  simp

/-! ### Heard countdowns -/

theorem mem_putHeard {h d : HeardCount} {hs : List HeardCount} (ho : hs.Pairwise (fun a b => a.station < b.station)) :
    d ∈ putHeard h hs ↔ d = h ∨ (d ∈ hs ∧ d.station ≠ h.station) := by
  induction hs with
  | nil => simp [putHeard]
  | cons e es ih =>
    have hes := List.pairwise_cons.mp ho
    unfold putHeard
    split
    · rename_i hlt
      constructor
      · intro hm
        rcases List.mem_cons.mp hm with rfl | hm
        · exact .inl rfl
        · refine .inr ⟨hm, ?_⟩
          rcases List.mem_cons.mp hm with rfl | hm
          · omega
          · have := hes.1 d hm; omega
      · rintro (rfl | ⟨hm, -⟩)
        · exact List.mem_cons_self ..
        · exact List.mem_cons_of_mem _ hm
    · split
      · rename_i heq
        constructor
        · intro hm
          rcases List.mem_cons.mp hm with rfl | hm
          · exact .inl rfl
          · exact .inr ⟨List.mem_cons_of_mem _ hm, by have := hes.1 d hm; omega⟩
        · rintro (rfl | ⟨hm, hk⟩)
          · exact List.mem_cons_self ..
          · rcases List.mem_cons.mp hm with rfl | hm
            · exact absurd heq.symm hk
            · exact List.mem_cons_of_mem _ hm
      · rename_i h1 h2
        rw [List.mem_cons, ih hes.2, List.mem_cons]
        constructor
        · rintro (rfl | h | ⟨h, hk⟩)
          · exact .inr ⟨.inl rfl, fun e => h2 e.symm⟩
          · exact .inl h
          · exact .inr ⟨.inr h, hk⟩
        · rintro (h | ⟨h | h, hk⟩)
          · exact .inr (.inl h)
          · exact .inl h
          · exact .inr (.inr ⟨h, hk⟩)

theorem putHeard_pairwise {h : HeardCount} {hs : List HeardCount} (ho : hs.Pairwise (fun a b => a.station < b.station)) :
    (putHeard h hs).Pairwise (fun a b => a.station < b.station) := by
  induction hs with
  | nil => simp [putHeard]
  | cons e es ih =>
    have hes := List.pairwise_cons.mp ho
    unfold putHeard
    split
    · rename_i hlt
      refine List.pairwise_cons.mpr ⟨fun d hd => ?_, ho⟩
      rcases List.mem_cons.mp hd with rfl | hd
      · exact hlt
      · have := hes.1 d hd; omega
    · split
      · exact List.pairwise_cons.mpr ⟨fun d hd => by have := hes.1 d hd; omega, hes.2⟩
      · refine List.pairwise_cons.mpr ⟨fun d hd => ?_, ih hes.2⟩
        rcases (mem_putHeard hes.2).mp hd with rfl | ⟨hd, -⟩
        · omega
        · exact hes.1 d hd

theorem mem_dropHeard {st : Nat} {d : HeardCount} {hs : List HeardCount} : d ∈ dropHeard st hs ↔ d ∈ hs ∧ d.station ≠ st := by
  simp [dropHeard]

theorem dropHeard_pairwise {st : Nat} {hs : List HeardCount} (ho : hs.Pairwise (fun a b => a.station < b.station)) :
    (dropHeard st hs).Pairwise (fun a b => a.station < b.station) := ho.filter _

/-! ### Holders -/

theorem mem_putHolder {h d : Holder} {hs : List Holder} (ho : hs.Pairwise (fun a b => a.station < b.station)) :
    d ∈ putHolder h hs ↔ d = h ∨ (d ∈ hs ∧ d.station ≠ h.station) := by
  induction hs with
  | nil => simp [putHolder]
  | cons e es ih =>
    have hes := List.pairwise_cons.mp ho
    unfold putHolder
    split
    · rename_i hlt
      constructor
      · intro hm
        rcases List.mem_cons.mp hm with rfl | hm
        · exact .inl rfl
        · refine .inr ⟨hm, ?_⟩
          rcases List.mem_cons.mp hm with rfl | hm
          · omega
          · have := hes.1 d hm; omega
      · rintro (rfl | ⟨hm, -⟩)
        · exact List.mem_cons_self ..
        · exact List.mem_cons_of_mem _ hm
    · split
      · rename_i heq
        constructor
        · intro hm
          rcases List.mem_cons.mp hm with rfl | hm
          · exact .inl rfl
          · exact .inr ⟨List.mem_cons_of_mem _ hm, by have := hes.1 d hm; omega⟩
        · rintro (rfl | ⟨hm, hk⟩)
          · exact List.mem_cons_self ..
          · rcases List.mem_cons.mp hm with rfl | hm
            · exact absurd heq.symm hk
            · exact List.mem_cons_of_mem _ hm
      · rename_i h1 h2
        rw [List.mem_cons, ih hes.2, List.mem_cons]
        constructor
        · rintro (rfl | h | ⟨h, hk⟩)
          · exact .inr ⟨.inl rfl, fun e => h2 e.symm⟩
          · exact .inl h
          · exact .inr ⟨.inr h, hk⟩
        · rintro (h | ⟨h | h, hk⟩)
          · exact .inr (.inl h)
          · exact .inl h
          · exact .inr (.inr ⟨h, hk⟩)

theorem putHolder_pairwise {h : Holder} {hs : List Holder} (ho : hs.Pairwise (fun a b => a.station < b.station)) :
    (putHolder h hs).Pairwise (fun a b => a.station < b.station) := by
  induction hs with
  | nil => simp [putHolder]
  | cons e es ih =>
    have hes := List.pairwise_cons.mp ho
    unfold putHolder
    split
    · rename_i hlt
      refine List.pairwise_cons.mpr ⟨fun d hd => ?_, ho⟩
      rcases List.mem_cons.mp hd with rfl | hd
      · exact hlt
      · have := hes.1 d hd; omega
    · split
      · exact List.pairwise_cons.mpr ⟨fun d hd => by have := hes.1 d hd; omega, hes.2⟩
      · refine List.pairwise_cons.mpr ⟨fun d hd => ?_, ih hes.2⟩
        rcases (mem_putHolder hes.2).mp hd with rfl | ⟨hd, -⟩
        · omega
        · exact hes.1 d hd

theorem mem_dropHolder {st : Nat} {d : Holder} {hs : List Holder} : d ∈ dropHolder st hs ↔ d ∈ hs ∧ d.station ≠ st := by
  simp [dropHolder]

theorem dropHolder_pairwise {st : Nat} {hs : List Holder} (ho : hs.Pairwise (fun a b => a.station < b.station)) :
    (dropHolder st hs).Pairwise (fun a b => a.station < b.station) := ho.filter _

end Sys2Proof.Machine
end

