-- ==== Sys2Proof/WellFormed.lean ====
section
/-! DEFINITION. When a command is one that the part can meet: the conditions its row's rule puts on the operands alone. -/

namespace Sys2Proof

open Machine

/-- The configuration read transfers at most 64 bytes (R157). -/
def imageLengthOk (bytes : List Byte) : Bool := decide (bytes.length ≤ 64)

/-- A frame that passes the checks of R56 as its row requires. -/
def receivedOk (f : Frame) : Bool := frameOk f

/-- The bits fail one of the checks of R56. -/
def bitsInvalid (bits : List Bool) : Bool :=
  match decodeFrame bits with
  | .ok _ => false
  | .error _ => true

/-- The command byte names no command (R173 step 1). -/
def codeUnknown (code : Byte) : Bool := (commandOf code).isNone

/-- A dominant stretch, "after at least 500 µs of recessive line" (R39). -/
def pulseOk (recessive : Nat) (dominant : Dominant) : Bool := decide (500 ≤ recessive) && decide (0 < dominant.length)

/-- The command is well formed. -/
def Instr.wellFormed (i : Instr) : Bool :=
  match i with
  | .configurationRead bytes => imageLengthOk bytes
  | .invalidFrameReceived bits => bitsInvalid bits
  | .duplicateFrameReceived f => receivedOk f
  | .beaconReceived f => receivedOk (.beacon f)
  | .bidReceived f => receivedOk (.bid f)
  | .keepReceived f => receivedOk (.keep f)
  | .cedeReceived f => receivedOk (.cede f)
  | .clearwayReceived f => receivedOk (.clearway f)
  | .clearEndReceived f => receivedOk (.clearEnd f)
  | .unknownCommand code _ => codeUnknown code
  | .startPulse recessive dominant => pulseOk recessive dominant
  | .start _ _ _ _ | .resetPinAssert | .joinExpiry | .pressDeclared _ _ | .releaseDeclared _ _ | .aidClassification _ _
  | .stuck _ _ | .blinkExpiry _ | .flashCountdownExpiry _ | .minGreenExpiry _ | .startNear _ | .amberExpiry _
  | .allRedInExpiry _ | .walkExpiry _ | .clearanceExpiry _ | .allRedOutExpiry _ | .slotEndInExpiry _ | .contestExpiry _
  | .transmissionStart | .arbitrationLoss | .collisionError | .ownFrameCompleted | .bidCompleted | .keepCompleted
  | .cedeCompleted | .beaconCountdownExpiry | .lineFault | .lineClear | .brokenFrame | .heardExpiry _ | .tableSlotExpiry _ _
  | .burstDue _ _ | .soundingExpiry _ _ | .beepEnd _ _ | .envelopeStep _ _ | .ambientWord _ _ _ | .stalenessExpiry _ _
  | .quietInputChange _ | .phqRise | .phqFall | .prqRise | .prqFall | .clearwayRepeatExpiry | .refreshExpiry _
  | .lampReadbackChange _ _ _ | .mismatchExpiry _ _ | .stat _ | .leg _ | .tread _ | .holders _ | .cnts _ | .fclr _ | .call _
  | .hold _ | .quiet _ | .flash _ | .resume _ | .isol _ | .join _ | .rstrt _ | .buttonSample _ _ _ | .decisecondTick => true

end Sys2Proof
end

