-- ==== Sys2Proof/Tests/Slice0.lean ====
section
/-! SUPPORT. Tests: each well-formedness check refuses an ill-formed command; single commands against the worked examples and tables of
the spec, whose expected values the comments place; and for each statement with hypotheses a state and operands that meet
them. -/

namespace Sys2Proof.Tests

open Machine

/-! ### Ill-formed commands -/

/-- An image of 65 bytes (R157: 64 bytes are read). -/
theorem test_long_image_ill_formed : (Instr.configurationRead (List.replicate 65 0#8)).wellFormed = false := by decide

/-- A BID of the station. -/
def bidOf (st : BitVec 4) (startIn endIn : BitVec 12) (band : BitVec 3) : BidFrame :=
  { station := st, leg := .leg0, urgent := false, rank := 24, position := 470, radius := 50, startIn := startIn, endIn := endIn,
    aid := true, band := band }

/-- A KEEP of the station. -/
def keepOf (st : BitVec 4) (stage : BitVec 2) (startIn endIn : BitVec 12) (band : BitVec 3) : KeepFrame :=
  { station := st, leg := .leg0, position := 470, radius := 50, stage := stage, startIn := startIn, endIn := endIn, aid := true,
    band := band, keyNormal := true, rank := 22 }

/-- A leg block of a BEACON. -/
def blockOfPhase (phase : BitVec 4) : LegBlock :=
  { phase := phase, stage := 0, startIn := 0, endIn := 0, aid := false, band := 0, keyNormal := false, rank := 0 }

/-- A BEACON with two leg blocks. -/
def beaconOf (st : BitVec 4) (phase0 phase1 : BitVec 4) : BeaconFrame :=
  { station := st, position := 470, radius := 50, block0 := blockOfPhase phase0, block1 := some (blockOfPhase phase1) }

/-- Phase 12 is none of R188's; a start_in of 1201 and a band of 6 pass no field check (R56 step 4); a KEEP has a slot. -/
theorem test_bad_frame_fields_ill_formed :
    (Instr.beaconReceived (beaconOf 6 1 12)).wellFormed = false ∧ (Instr.bidReceived (bidOf 6 1201 1300 0)).wellFormed = false ∧
    (Instr.bidReceived (bidOf 6 110 300 6)).wellFormed = false ∧ (Instr.keepReceived (keepOf 6 0 40 250 3)).wellFormed = false ∧
    (Instr.duplicateFrameReceived (.bid (bidOf 6 110 1901 0))).wellFormed = false ∧
    (Instr.keepReceived (keepOf 6 2 40 250 3)).wellFormed = true := by decide

set_option maxRecDepth 20000 in
/-- The bits of a frame that passes the checks of R56 are no invalid frame's. -/
theorem test_valid_bits_ill_formed :
    (Instr.invalidFrameReceived (encodeFrame (.cede { station := 4, leg := .leg0 }))).wellFormed = false := by decide

/-- STAT's code names a command (12.3); a stretch after less than 500 µs of recessive line is no start pulse (R39). -/
theorem test_known_code_and_short_gap_ill_formed :
    (Instr.unknownCommand 0x01 []).wellFormed = false ∧ (Instr.startPulse 499 { before := 0, watched := 200 }).wellFormed = false ∧
    (Instr.startPulse 500 { before := 0, watched := 0 }).wellFormed = false ∧ (Instr.unknownCommand 0x06 []).wellFormed = true := by decide

/-- The table gives no row bits, so no word spells a command. -/
theorem test_no_word_spells_a_command (nbits w : Nat) : decodeTableWord nbits w = none := rfl

/-! ### Formats -/

/-- 12.1: a CEDE's header is class 3, rank 0, the station and the leg, most significant bit first. -/
theorem test_cede_header :
    (encodeFrame (.cede { station := 0b0101#4, leg := .leg1 })).take 13 =
      [false, true, true, false, false, false, false, false, false, true, false, true, true] := by decide

/-- 12.1: the whole lengths of the six kinds of frame, in bits. -/
theorem test_frame_lengths :
    (encodeFrame (.cede { station := 4, leg := .leg0 })).length = 21 ∧
    (encodeFrame (.clearway { station := 4, position := 1, range := 2 })).length = 44 ∧
    (encodeFrame (.bid (bidOf 6 110 300 2))).length = 68 ∧ (encodeFrame (.keep (keepOf 6 2 40 250 3))).length = 76 ∧
    (encodeFrame (.beacon (beaconOf 6 1 1))).length = 121 := by decide

/-- 12.4: kerb, tone, band, level, six spare bits and the length of a burst word. -/
theorem test_burst_word_bits :
    burstBits { kerb := .b, tone := .band, band := 3, level := 8, length := 30 } =
      [true, false, true, false, true, true, true, false, false, false, false, false, false, false, false, false,
       false, false, false, true, true, true, true, false] := by decide

/-! ### The configuration image -/

/-- The leg block of the worked examples: Gmin 150, A 40, Rin 20, W 70, X 30, K 90, Rout 20, M 900, Wmin 50, Kp 40, band 3. -/
def legBytes : List Byte := [0, 150, 40, 20, 0, 70, 30, 0, 90, 20, 3, 132, 0, 50, 0, 40, 3]

/-- The first 24 bytes of an image of station 5 at 420 m with the given legs field. -/
def stationBytes (legs floor ceiling : Byte) : List Byte :=
  [0xC2, 5, 1, 164, 60, 100, 1, 244, legs, 40, 20, 10, 60, 6, floor, ceiling, 6, 7, 2, 2, 5, 2, 0x3F, 0xFF]

/-- A 64-byte image with its sum in place (12.2). -/
def image (legs floor ceiling : Byte) : List Byte :=
  let body := stationBytes legs floor ceiling ++ legBytes ++ legBytes ++ [0, 0, 0, 0]
  let sum := body.foldl (fun acc b => acc + b.toNat) 0
  body ++ [BitVec.ofNat 8 (sum / 256), BitVec.ofNat 8 sum]

/-- The leg parameters of `legBytes`. -/
def legParams : LegConfig :=
  { gmin := 150, amber := 40, rin := 20, walk := 70, ext := 30, clear := 90, rout := 20, maxWait := 900, wmin := 50, kp := 40, band := 3 }

/-- Station 5 of the worked examples. -/
def stationParams : StationConfig :=
  { station := 5, position := 420, radius := 60, coupling := 100, clearwayRange := 500, join := 40, guard := 20, aidHold := 10,
    ref := 60, base := 6, floor := 3, ceiling := 10, nightcap := 6, isocap := 7, locoffset := 2, boost := 2, envStep := 5, koff := 2,
    enable := 0x3FFF, leg0 := legParams, leg1 := some legParams }

set_option maxRecDepth 20000 in
/-- 12.2: the fields of the image at their offsets; nothing is clamped. -/
theorem test_image_loads : imageFault (image 2 3 10) = .none ∧ loadImage (image 2 3 10) = stationParams ∧ imageClamped (image 2 3 10) = false := by
  decide

set_option maxRecDepth 20000 in
/-- R158: the checks in order. R159, R139: a floor above the ceiling is lowered to it, which is a clamp. -/
theorem test_image_checks :
    imageFault [] = .noAnswer ∧ imageFault ((image 2 3 10).set 0 0xC3) = .tag ∧ imageFault ((image 2 3 10).set 2 2) = .sum ∧
    imageFault (image 3 3 10) = .legs ∧ (loadImage (image 2 11 4)).floor = 4 ∧ imageClamped (image 2 11 4) = true := by decide

/-! ### A station to test on -/

/-- A leg in a state with its flash countdown stopped. -/
def legIn (st : LegState) : LegRec := { LegRec.atStart with state := st, flash := { running := false, count := 5 } }

/-- Station 5 in RUN with both legs in REST and its kerbs on LOCATOR. -/
def running : State :=
  let kerb : Kerb := { Kerb.atStart with pattern := .locator, phase := { running := true, count := 8000 } }
  let ambient : Ambient := { average := none, staleness := { running := true, count := 20 }, stale := false }
  { State.reset with
    reading := false, mode := .run, cfg := some stationParams, legs := { leg0 := legIn .rest, leg1 := legIn .rest },
    kerbs := { leg0 := { a := kerb, b := kerb }, leg1 := { a := kerb, b := kerb } },
    ambient := { leg0 := { a := ambient, b := ambient }, leg1 := { a := ambient, b := ambient } } }

/-- The state with leg 0 in a leg state whose interval has expired. -/
def expired (st : LegState) (s : State) : State :=
  withLeg .leg0 { s.legs.leg0 with state := st, interval := { running := true, count := 0 } } s

/-- The state with a call of leg 0. -/
def calling (kind : Kind) (waited : Nat) (s : State) : State :=
  { s with calls := s.calls.set .leg0 { CallRec.atStart with call := some { kind := kind, waited := waited, firstKerb := .a } } }

/-- An own slot of the worked examples: station 5's claim at 65 to 255. -/
def ownSlot (stage : Stage) : Slot := { startIn := 65, endIn := 255, aid := true, band := 3, urgent := false, rank := 29, stage := stage }

/-- The state with a slot of leg 0. -/
def holding (x : Slot) (s : State) : State := { s with slots := s.slots.set .leg0 { s.slots.leg0 with slot := some x } }

/-- The state after a command. -/
def after (c : Instr) (s : State) : State :=
  match exec c s with
  | .next t => t
  | .fault _ => s
  | .refused _ => s

/-- The state with other station parameters of leg 0 and the line's request of leg 0. -/
def asking (k : LegReq) (s : State) : State :=
  { s with line := { s.line with queue := { s.line.queue with legs := { leg0 := some { kind := k, stamp := 0, sending := false }, leg1 := none } } } }

/-! ### Worked examples -/

/-- Section 2.1, worked example: the counts after samples 6 and 7, the fourth high one in a row. -/
theorem test_press_declared_on_fourth_high_sample :
    let s := withButton .leg0 .b { Button.atStart with pressCount := 2 } running
    let t := after (.buttonSample .leg0 .b true) s
    (buttonOf t .leg0 .b).pressCount = 3 ∧
    buttonOf (after (.buttonSample .leg0 .b true) t) .leg0 .b = { Button.atStart with input := .held } := by decide

/-- Section 2.1: classified aid at held time 10 with the button still closed; a call is latched and a BID queued (R29). -/
theorem test_aid_classification :
    let s := withButton .leg0 .b { Button.atStart with input := .held, heldTime := 10 } running
    let t := after (.aidClassification .leg0 .b) s
    callOf t .leg0 = some { kind := .aid, waited := 0, firstKerb := .b } ∧ legState t .leg0 = .called ∧
    (buttonOf t .leg0 .b).classified = true ∧ (t.line.queue.legs.get .leg0).isSome = true := by decide

/-- R88's examples with M = 900. -/
theorem test_ranks :
    rankOf 0 900 = 31 ∧ rankOf 60 900 = 29 ∧ rankOf 400 900 = 17 ∧ rankOf 871 900 = 1 ∧ rankOf 872 900 = 0 ∧ rankOf 4095 900 = 0 := by
  decide

/-- R81, R82: with min green 0 and the parameters of station 5 a plain slot starts at 65 and an aid slot lasts 190. -/
theorem test_bid_places_the_slot :
    let t := after .transmissionStart (asking .bid (expired .called (calling .aid 60 running)))
    t.line.tx = some (.bid { station := 5, leg := .leg0, urgent := false, rank := 29, position := 420, radius := 60, startIn := 65,
                             endIn := 255, aid := true, band := 3 }) := by decide

/-- Section 6.6: station 6's BID, rank 24, against the claim of rank 29 makes it cede. -/
theorem test_lower_key_wins :
    let t := after (.bidReceived (bidOf 6 110 300 2)) (holding (ownSlot .claimed) (expired .claimed (calling .aid 60 running)))
    slotOf t .leg0 = none ∧ legState t .leg0 = .called ∧
    (t.line.queue.legs.get .leg0).map Entry.kind = some .cede := by decide

/-- R102, R106: a committed slot meets a committed KEEP: it is answered, and DOUBLE_COMMIT is set. -/
theorem test_double_commit :
    let t := after (.keepReceived (keepOf 6 2 40 250 2)) (holding (ownSlot .committed) (expired .committed running))
    slotOf t .leg0 = some (ownSlot .committed) ∧ flagSet t .doubleCommit = true := by decide

/-- R9: an aid walk lasts W + X = 100 and its slot W + X + K = 190. -/
theorem test_aid_walk_starts :
    let t := after (.allRedInExpiry .leg0) (holding (ownSlot .committed) (expired .allRedIn (calling .aid 60 running)))
    legState t .leg0 = .walk ∧ (t.legs.get .leg0).interval.count = 100 ∧ (slotOf t .leg0).map Slot.endIn = some 190 ∧
    callOf t .leg0 = none ∧ (kerbOf t .leg0 .a).pattern = .walk := by decide

/-- R9: a hold source skips the walk; the slot is withdrawn and the call kept. -/
theorem test_held_walk_is_skipped :
    let s := holding (ownSlot .committed) (expired .allRedIn (calling .aid 60 { running with hold := { running.hold with maint := true } }))
    let t := after (.allRedInExpiry .leg0) s
    legState t .leg0 = .allRedOut ∧ slotOf t .leg0 = none ∧ (callOf t .leg0).isSome = true := by decide

/-- R10: a cut clearance lasts Kp = 40. -/
theorem test_walk_ends_in_cut_clearance :
    let s := expired .walk running
    let t := after (.walkExpiry .leg0) (withLeg .leg0 { s.legs.leg0 with clearanceCut := true } s)
    legState t .leg0 = .clearance ∧ (t.legs.get .leg0).interval.count = 40 ∧ (t.legs.get .leg0).clearanceCut = false := by decide

/-- R14 with Wmin 50, Kp 40: PHQ rises 30 ds into an aid walk: 20 ds are left, the slot ends at 20 + 40, TRUNCATED is set. -/
theorem test_hold_in_walk :
    let s := withLeg .leg0 { legIn .walk with interval := { running := true, count := 70 }, walkElapsed := 30, walkLength := 100 } running
    let t := after .phqRise (holding { ownSlot .running with startIn := 0, endIn := 160 } s)
    (t.legs.get .leg0).interval.count = 20 ∧ (slotOf t .leg0).map Slot.endIn = some 60 ∧ flagSet t .truncated = true ∧
    legState t .leg1 = .held ∧ t.hold.pha = false ∧ t.line.queue.clear.isSome = true := by decide

/-- Section 9.6: station 6, at 50 m of the sender, is within the range of 150 m. -/
theorem test_clearway_makes_a_holder :
    let t := after (.clearwayReceived { station := 6, position := 470, range := 150 }) running
    t.hold.holders = [{ station := 6, left := 60 }] ∧ t.hold.street = true ∧ legState t .leg0 = .held := by decide

/-- Section 8.5: the average after words 68, 74, 80 and 60. -/
theorem test_smoothing :
    smooth none 68 = 1088 ∧ smooth (some 1088) 74 = 1100 ∧ smooth (some 1100) 80 = 1122 ∧ smooth (some 1122) 60 = 1101 := by decide

/-- Section 8.5: after word 3, with base 5 and floor 2, Lk 8, locator level 6 and envelope start 10. -/
theorem test_levels :
    let c := { stationParams with base := 5, floor := 2 }
    let s : State := { running with
      cfg := some c, ambient := running.ambient.set .leg0 { running.ambient.leg0 with a := { average := some 1122, staleness := .stopped, stale := false } } }
    kerbLevel s .leg0 .a = 8 ∧ combinedCap s = 10 ∧ locatorLevel s .leg0 .a = 6 ∧ envelopeStart s .leg0 .a = 10 := by decide

/-- R167, R168: a red lamp that fails while commanded on, once its 3 ds have passed, takes the station to FLASH. -/
theorem test_red_lamp_failure :
    let s := expired .allRedOut running
    let t := after (.mismatchExpiry .leg0 .red) { s with
      lamps := s.lamps.set .leg0 { s.lamps.leg0 with red := { readback := false, mismatch := { running := true, count := 0 }, failed := false } } }
    t.mode = .flash ∧ t.cause = .lamp ∧ flagSet t .lampFail = true ∧ legState t .leg0 = .flash := by decide

/-- 12.3: STAT's reply in RUN: OK, its code, 13 bytes; mode 2, cause 0, configuration valid, station 5, two legs. -/
theorem test_stat :
    (after (.stat []) running).port.reply = some [0, 1, 13, 2, 0, 0, 0, 1, 5, 2, 0, 0, 0, 0, 0, 0] := by decide

/-- R175: UNKNOWN, LENGTH and RANGE with no content. -/
theorem test_rejections :
    (after (.unknownCommand 0x77 []) running).port.reply = some [0x80, 0x77, 0] ∧
    (after (.leg []) running).port.reply = some [0x81, 0x02, 0] ∧ (after (.tread [24]) running).port.reply = some [0x82, 0x03, 0] := by
  decide

/-- R181: FLASH from RUN has cause COMMAND, code 3; RESUME is refused while lamps differ, with their mask. -/
theorem test_flash_and_resume :
    let t := after (.flash []) running
    t.port.reply = some [0, 0x20, 3, 4, 3, 0] ∧ (after (.resume []) t).port.reply = some [2, 0x21, 3, 1, 0, 66] := by decide

/-- R39, R41: of a stretch that was on when the watch began only what came since counts toward the 1 ms of a line fault; one that
came wholly after, were it the first, is a line fault at 1 ms. -/
theorem test_line_watch_begins_at_the_load :
    (after (.startPulse 500 { before := 1, watched := 999 }) running).mode = .run ∧
    (after (.startPulse 500 { before := 0, watched := 1000 }) running).mode = .isolated := by decide

/-- R95, an aid press upgrading the call in CALLED, taken before the placement of the same instant: an aid slot is placed, and the
BID request of the upgrade, which supersedes the entry in transmission, still waits at completion, to be dropped there unsent. -/
theorem test_upgrade_at_transmission_start :
    let s := asking .bid (expired .called (calling .plain 60 running))
    let t := after .transmissionStart (after (.call [0, 1]) s)
    let u := after .bidCompleted t
    t.line.tx.isSome = true ∧ (slotOf u .leg0).map Slot.aid = some true ∧
    (u.line.queue.legs.get .leg0).map Entry.kind = some .bid ∧ legState u .leg0 = .claimed := by decide

/-- R120: kerb B's burst, koff eighths after kerb A's, keeps its offset whichever command comes late. -/
theorem test_kerb_offset_kept :
    let s := changePattern .leg0 .walk (after (.soundingExpiry .leg0 .a) running)
    let t := after (.burstDue .leg0 .b) s
    (kerbOf t .leg0 .b).phase.count = 1000 ∧ (kerbOf t .leg0 .a).phase.count = 750 ∧ after (.burstDue .leg0 .b) t = t := by decide

/-- R136: RESTART samples the QUIET pin as it stands, changed since the last sample or not; a RSTRT of a wrong length samples nothing. -/
theorem test_restart_samples_quiet :
    running.quietInput = false ∧ (after (.rstrt { bytes := [], quiet := true }) running).quietInput = true ∧
    (after (.rstrt { bytes := [0], quiet := true }) running).quietPin = false := by decide

/-! ### States and operands that meet the hypotheses of the statements -/

/-- The state with a command waiting. -/
def waiting (c : Instr) (s : State) : State := { s with pending := [c] }

/-- The state with leg 0's kerb A changed. -/
def withKerb (r : Kerb) (s : State) : State := { s with kerbs := s.kerbs.set .leg0 { s.kerbs.leg0 with a := r } }

/-- The state with a frame in transmission. -/
def sending (f : Frame) (s : State) : State := { s with line := { s.line with tx := some f } }

/-- The state with a faulted line watch. -/
def faulted (s : State) : State := { s with line := { s.line with faulted := true } }

/-- The state with a record of station 6's leg 0 with a slot at its end, heard for 45 ds. -/
def hearing (s : State) : State :=
  { s with
    table := [{ station := 6, leg := .leg0, position := 470, radius := 50, phase := .claimed,
                slot := some { startIn := 0, endIn := 0, aid := true, band := 2, urgent := false, rank := 24, stage := .claimed } }]
    heard := [{ station := 6, left := 0 }] }

/-- The state with station 6 a holder at the end of its refresh countdown, and MAINT present. -/
def heldBySix (s : State) : State := { s with hold := { s.hold with holders := [{ station := 6, left := 0 }], street := true, maint := true } }

theorem witness_StepRunsFrontCommand : (waiting (.stat []) running).pending = [.stat []] ∧ running.pending = [] := by decide

theorem witness_ResetHeldTakesNoEvent :
    { running with resetHeld := true }.resetHeld = true ∧ (∀ a b d e, Instr.phqRise ≠ .start a b d e) ∧ Instr.phqRise ≠ .resetPinAssert ∧
    (∀ a b d e, Instr.decisecondTick ≠ .start a b d e) ∧ Instr.decisecondTick ≠ .resetPinAssert :=
  ⟨rfl, nofun, nofun, nofun, nofun⟩

set_option maxRecDepth 20000 in
theorem witness_ConfigurationReadLoads :
    let preempted := { State.reset with hold := Hold.atStart true false }
    State.reset.resetHeld = false ∧ State.reset.reading = true ∧ imageFault (image 2 3 10) = .none ∧ imageFault (image 1 11 4) = .none ∧
    State.reset.hold.preempt = false ∧ preempted.hold.preempt = true ∧ preempted.reading = true ∧
    (∀ l, conflictSensed (State.reset.lamps.get l) = false) ∧
    (∀ l, (State.reset.legs.get l).state = .start) ∧ (∀ l k, (kerbOf State.reset l k).pattern = .silent) ∧
    (loadImage (image 1 11 4)).leg1 = none ∧ 0 < (loadImage (image 1 11 4)).clearwayRange :=
  ⟨rfl, rfl, by decide, by decide, rfl, rfl, rfl, fun l => by cases l <;> rfl, fun l => by cases l <;> rfl,
   fun l k => by cases l <;> cases k <;> rfl, by decide, by decide⟩

theorem witness_ConfigurationReadFaults :
    State.reset.resetHeld = false ∧ State.reset.reading = true ∧ State.reset.cfg = none ∧ imageFault [] ≠ .none := by decide

set_option maxRecDepth 20000 in
theorem witness_LoadedConfigurationInRange : imageFault (image 2 11 4) = .none := by decide

theorem witness_JoinExpiryEntersRun :
    let s := { expired .called running with mode := .listen, join := { running := true, count := 0 } }
    s.resetHeld = false ∧ s.join = { running := true, count := 0 } ∧ s.cfg.isSome = true ∧ legState s .leg0 = .called := by decide

theorem witness_ButtonSamplesCount :
    let at_ := fun (i : InputState) (p r : Nat) => withButton .leg0 .a { Button.atStart with input := i, pressCount := p, releaseCount := r } running
    running.resetHeld = false ∧ served running .leg0 = true ∧
    (buttonOf (at_ .released 2 0) .leg0 .a).pressCount < 3 ∧ (buttonOf (at_ .released 3 0) .leg0 .a).pressCount = 3 ∧
    (buttonOf (at_ .stuck 0 2) .leg0 .a).input ≠ .released ∧ (buttonOf (at_ .held 0 2) .leg0 .a).releaseCount < 3 := by decide

theorem witness_ReleaseAidAndStuck :
    let at_ := fun (i : InputState) (h : Nat) (c : Bool) =>
      withButton .leg0 .a { Button.atStart with input := i, releaseCount := 3, heldTime := h, classified := c } running
    running.resetHeld = false ∧ served running .leg0 = true ∧ (buttonOf (at_ .stuck 600 true) .leg0 .a).releaseCount = 3 ∧
    (buttonOf (at_ .stuck 600 true) .leg0 .a).input ≠ .released ∧
    (buttonOf (at_ .held 599 true) .leg0 .a).heldTime < 600 ∧
    (buttonOf (at_ .held 9 false) .leg0 .a).heldTime < (conf (at_ .held 9 false)).aidHold ∧
    (buttonOf (at_ .held 10 false) .leg0 .a).heldTime = (conf (at_ .held 10 false)).aidHold ∧
    (buttonOf (at_ .held 600 true) .leg0 .a).heldTime = 600 := by decide

/-- Every leg state; and a plain slot of leg 0 beside an aid slot of leg 1 that collides with it only once it is X longer, claimed or
committed on either side, and beside one that does not collide. -/
theorem witness_PressOutcomes :
    let plain := fun g => ({ ownSlot g with aid := false, endIn := 225 } : Slot)
    let s := fun g h => { holding (plain g) running with
      slots := { leg0 := (holding (plain g) running).slots.leg0, leg1 := { SlotRec.atStart with slot := some { ownSlot h with startIn := 274 } } } }
    let longer := fun g => ({ ownSlot g with endIn := 255, band := 3 } : Slot)
    (∀ st ∈ [LegState.rest, .called, .claimed, .committed, .amber, .allRedIn, .walk, .clearance, .allRedOut, .held, .start, .flash],
      legState (expired st (calling .plain 4 running)) .leg0 = st ∧
      (callOf (expired st (calling .plain 4 running)) .leg0).map Call.kind = some .plain) ∧
    (∀ g ∈ [Stage.claimed, .committed], ∀ h ∈ [Stage.claimed, .committed],
      slotOf (s g h) .leg0 = some (plain g) ∧ (plain g).aid = false ∧ ((s g h).slots.get .leg1).bid = none ∧
      slotOf (s g h) .leg1 = some { ownSlot h with startIn := 274 } ∧
      collideGuard (conf (s g h)).guard (longer g) { ownSlot h with startIn := 274 } = true) ∧
    keyLt (ownKey running .leg1 (ownSlot .claimed)) (ownKey running .leg0 (plain .claimed)) = false ∧
    keyLt (ownKey running .leg0 (ownSlot .claimed)) (ownKey running .leg1 (plain .claimed)) = true ∧
    collideGuard 20 (longer .claimed) { ownSlot .claimed with startIn := 275 } = false ∧
    (let c := expired .called (calling .aid 60 running)
     c.mode = .run ∧ c.cfg.isSome = true ∧ { c with mode := .listen }.mode ≠ .run ∧ { c with mode := .isolated }.mode = .isolated ∧
     legState c .leg0 = .called ∧ (callOf c .leg0).isSome = true) ∧
    (kerbOf running .leg0 .a).pattern ≠ .walk ∧ (kerbOf (changePattern .leg0 .walk running) .leg0 .a).pattern = .walk := by decide

theorem witness_CountdownsReloadOrStop :
    let due : Countdown := { running := true, count := 0 }
    let s := withLeg .leg0 { LegRec.atStart with flash := due, minGreen := due }
      { running with calls := running.calls.set .leg0 { CallRec.atStart with blink := due } }
    let k := withKerb { Kerb.atStart with pattern := .walk, envelope := 10, step := due } running
    let q := { k with ambient := k.ambient.set .leg0 { k.ambient.leg0 with a := { average := none, staleness := due, stale := false } } }
    s.resetHeld = false ∧ (s.calls.get .leg0).blink = due ∧ (s.legs.get .leg0).flash = due ∧ (s.legs.get .leg0).minGreen = due ∧
    q.resetHeld = false ∧ (kerbOf q .leg0 .a).step = due ∧ (ambientOf q .leg0 .a).staleness = due ∧ kerbLevel q .leg0 .a < 10 := by decide

theorem witness_LampCommandsFollowTheTable :
    let g := expired .allRedOut running
    let one := { running with cfg := some { stationParams with leg1 := none } }
    inUse running .leg0 = true ∧ inUse one .leg1 = false ∧
    ∃ t, exec (.allRedOutExpiry .leg0) g = .next t ∧ legState t .leg0 = .rest ∧ legState g .leg0 = .allRedOut :=
  ⟨rfl, rfl, ⟨_, rfl, by decide, by decide⟩⟩

theorem witness_FclrClearsMaskedFlags : running.resetHeld = false ∧ (63#8).toNat < 64 := by decide

theorem witness_WaitLampsSrqAndReads :
    waitLampOn (calling .plain 0 running) .leg0 = true ∧ srq (setFlag .stuck running) = true ∧ srq running = false ∧
    portAddress State.reset = some 0x2C := by decide

theorem witness_AmberEntryAndExpiry :
    let near := holding { ownSlot .committed with startIn := 60 } (expired .committed running)
    let amber := expired .amber running
    let cancelled := withLeg .leg0 { amber.legs.leg0 with walkCancelled := true } amber
    running.resetHeld = false ∧ legState near .leg0 = .committed ∧ slotOf near .leg0 = some { ownSlot .committed with startIn := 60 } ∧
    60 ≤ (legConf near .leg0).amber + (legConf near .leg0).rin ∧ legState amber .leg0 = .amber ∧
    (amber.legs.get .leg0).interval = { running := true, count := 0 } ∧ (amber.legs.get .leg0).walkCancelled = false ∧
    (cancelled.legs.get .leg0).walkCancelled = true := by decide

theorem witness_AllRedInExpiryWalksOrSkips :
    let s := expired .allRedIn running
    s.resetHeld = false ∧ legState s .leg0 = .allRedIn ∧ (s.legs.get .leg0).interval = { running := true, count := 0 } ∧
    (kerbOf s .leg0 .a).pattern = .locator ∧ (kerbOf s .leg0 .b).pattern = .locator ∧ s.mode = .run ∧ held s = false ∧
    held (heldBySix s) = true := by decide

theorem witness_WalkAndClearanceExpiry :
    let w := expired .walk running
    let c := expired .clearance running
    w.resetHeld = false ∧ (w.legs.get .leg0).interval = { running := true, count := 0 } ∧ legState w .leg0 = .walk ∧
    (c.legs.get .leg0).interval = { running := true, count := 0 } ∧ legState c .leg0 = .clearance ∧
    (kerbOf w .leg0 .a).pattern = .locator ∧ (kerbOf w .leg0 .b).pattern = .locator := by decide

theorem witness_AllRedOutExpiryChoosesGreen :
    let s := expired .allRedOut running
    let c : Call := { kind := .aid, waited := 60, firstKerb := .a }
    s.resetHeld = false ∧ legState s .leg0 = .allRedOut ∧ (s.legs.get .leg0).interval = { running := true, count := 0 } ∧ held s = false ∧
    callOf s .leg0 = none ∧ held (heldBySix s) = true ∧ callOf (calling .aid 60 s) .leg0 = some c ∧ s.mode ≠ .isolated ∧
    { calling .aid 60 s with mode := .isolated, cause := .command }.mode = .isolated := by decide

theorem witness_SlotEndAndContestExpiry :
    let ended := holding { ownSlot .running with startIn := 0, endIn := 0 } running
    let won := holding (ownSlot .claimed) (expired .claimed running)
    let s := { won with slots := won.slots.set .leg0 { won.slots.leg0 with
      contest := { running := true, count := 0 }, challengers := [{ station := 6, leg := .leg0, told := true }] } }
    s.resetHeld = false ∧ slotOf ended .leg0 = some { ownSlot .running with startIn := 0, endIn := 0 } ∧ slotOf s .leg0 = some (ownSlot .claimed) ∧
    legState s .leg0 = .claimed ∧ (s.slots.get .leg0).contest = { running := true, count := 0 } ∧ (s.slots.get .leg0).challengers ≠ [] ∧
    acceptsLeg s .keep = true := by decide

theorem witness_ScanFindsEarliestClearStart :
    let x : Excl := { startIn := 40, endIn := 250, band := 3, key := { urgent := false, rank := 22, station := 6, leg := .leg0 } }
    collides 20 190 65 x = true ∧ collides 20 190 269 x = true ∧ collides 20 190 270 x = false ∧ scan 20 190 [x] 2 65 = 270 := by decide

theorem witness_PlacementResult :
    let b := place (hearing (calling .aid 60 running)) .leg0 { kind := .aid, waited := 60, firstKerb := .a }
    b.urgent = false ∧ (place running .leg0 { kind := .aid, waited := 900, firstKerb := .a }).urgent = true ∧
    (place running .leg0 { kind := .plain, waited := 899, firstKerb := .a }).urgent = false := by decide

theorem witness_QueueHeadIsFirst :
    headOf running = none ∧ headOf (asking .cede running) = some (.leg .leg0 .cede) := by decide

/-- One request of each kind at the head, and a head that fails. -/
theorem witness_TransmissionStarts :
    let line := fun (q : Queue) => { running with line := { running.line with queue := q } }
    let called := asking .bid (expired .called (calling .aid 60 running))
    let keep := asking .keep (holding (ownSlot .claimed) (expired .claimed running))
    let beacon := line { Queue.empty with beacon := some { kind := (), stamp := 0, sending := false } }
    let clear := fun k => line { Queue.empty with clear := some { kind := k, stamp := 0, sending := false } }
    running.resetHeld = false ∧ running.line.tx = none ∧ running.line.faulted = false ∧ headOf running = none ∧
    headOf (asking .bid running) = some (.leg .leg0 .bid) ∧ headPasses (asking .bid running) (.leg .leg0 .bid) = false ∧
    called.line.tx = none ∧ called.line.faulted = false ∧ headOf called = some (.leg .leg0 .bid) ∧ headPasses called (.leg .leg0 .bid) = true ∧
    headOf keep = some (.leg .leg0 .keep) ∧ headPasses keep (.leg .leg0 .keep) = true ∧
    headOf (asking .cede running) = some (.leg .leg0 .cede) ∧ headPasses (asking .cede running) (.leg .leg0 .cede) = true ∧
    headOf beacon = some .beacon ∧ headPasses beacon .beacon = true ∧
    headOf (clear .clearway) = some (.clear .clearway) ∧ headPasses (clear .clearway) (.clear .clearway) = true ∧
    headOf (clear .clearEnd) = some (.clear .clearEnd) ∧ headPasses (clear .clearEnd) (.clear .clearEnd) = true := by decide

theorem witness_LostFramesKeepTheirRequest :
    let s := sending (.cede { station := 5, leg := .leg0 }) running
    let n := fun k => { s with line := { s.line with collisions := k } }
    s.resetHeld = false ∧ s.line.tx.isSome = true ∧ (n 1).line.collisions < 2 ∧ 2 ≤ (n 2).line.collisions ∧ (n 2).mode = .run ∧
    { n 2 with mode := .flash, cause := .command }.mode = .flash := by decide

theorem witness_OwnFramesComplete :
    let b : Bid := { startIn := 65, endIn := 255, aid := true, band := 3, urgent := true, rank := 29 }
    let bid := sending (.bid (bidOf 5 65 255 3)) { running with slots := running.slots.set .leg0 { SlotRec.atStart with bid := some b } }
    let called := expired .called (calling .aid 60 bid)
    running.resetHeld = false ∧ sendsPlain (sending (.beacon (beaconOf 5 1 1)) running) = true ∧
    keepInFlight (sending (.keep (keepOf 5 1 65 255 3)) running) = some .leg0 ∧
    cedeInFlight (sending (.cede { station := 5, leg := .leg0 }) running) = some .leg0 ∧ legState running .leg0 ≠ .called ∧
    legState (expired .called running) .leg0 = .called ∧ bidInFlight bid = some .leg0 ∧ (bid.slots.get .leg0).bid = some b ∧
    legState bid .leg0 ≠ .called ∧ bidInFlight called = some .leg0 ∧ (called.slots.get .leg0).bid = some b ∧ legState called .leg0 = .called ∧
    callOf called .leg0 = some { kind := .aid, waited := 60, firstKerb := .a } ∧ (called.slots.get .leg0).deferred = [] ∧
    called.table = [] ∧ slotOf called (otherLeg .leg0) = none ∧ (called.slots.get (otherLeg .leg0)).bid = none ∧ b.aid = true ∧
    { b with aid := false, endIn := 225 }.aid = false := by decide

/-- A frame deferred, in conflict with the new slot to the guard's last decisecond or not, of the lower key and of the greater; and an
upgrade of the other leg deferred, its slot claimed or committed. -/
theorem witness_OwnFramesComplete_deferred :
    let b : Bid := { startIn := 65, endIn := 255, aid := true, band := 3, urgent := false, rank := 29 }
    let s := fun (ds : List Deferred) (o : Option Slot) => expired .called (calling .aid 60 (sending (.bid (bidOf 5 65 255 3))
      { running with slots := { leg0 := { SlotRec.atStart with bid := some b, deferred := ds }, leg1 := { SlotRec.atStart with slot := o } } }))
    let c := carriedBid (bidOf 6 274 400 2)
    let y := fun g => { ownSlot g with startIn := 274, endIn := 400, rank := 28 }
    bidInFlight (s [.frame c] none) = some .leg0 ∧ (s [.frame c] none).mode = .run ∧ (s [.frame c] none).cfg.isSome = true ∧
    (s [.frame c] none).table = [] ∧ acoustic (s [.frame c] none) c.position c.radius = true ∧ c.slot.aid = true ∧ 0 < c.slot.endIn ∧
    c.slot.startIn < 255 + (conf running).guard ∧ ¬(275 < 255 + (conf running).guard) ∧ c.isBid = true ∧
    keyLt (foreignKey c.station c.leg c.slot) { urgent := false, rank := 29, station := 5, leg := .leg0 } = true ∧
    keyLt (foreignKey 6 .leg0 { c.slot with rank := 30 }) { urgent := false, rank := 29, station := 5, leg := .leg0 } = false ∧
    slotOf (s [.upgrade] (some (y .claimed))) (otherLeg .leg0) = some (y .claimed) ∧ (y .claimed).aid = true ∧
    keyLt (ownKey running .leg1 (y .claimed)) { urgent := false, rank := 29, station := 5, leg := .leg0 } = true ∧
    keyLt (ownKey running .leg1 { y .claimed with rank := 30 }) { urgent := false, rank := 29, station := 5, leg := .leg0 } = false ∧
    (y .committed).stage ≠ .claimed := by decide

theorem witness_RepeatCountdownsQueueFrames :
    let due : Countdown := { running := true, count := 0 }
    let s := { running with line := { running.line with beacon := due }, hold := { running.hold with clearway := due } }
    s.resetHeld = false ∧ acceptsAny s = true ∧ s.line.beacon = due ∧ s.hold.clearway = due := by decide

theorem witness_LineWatch :
    let isolated := { faulted running with mode := .isolated, cause := .line }
    let flashing := { faulted running with mode := .flash, cause := .command, isolation := some .line }
    running.resetHeld = false ∧ running.cfg.isSome = true ∧ running.line.faulted = false ∧ running.mode = .run ∧
    (faulted running).line.faulted = true ∧ isolated.mode = .isolated ∧ isolated.cause = .line ∧ isolated.cfg.isSome = true ∧
    ¬(flashing.mode = .isolated ∧ flashing.cause = .line) ∧ flashing.line.faulted = true ∧ flashing.mode = .flash ∧
    { running with mode := .flash, cause := .command }.line.faulted = false ∧
    { running with mode := .isolated, cause := .command }.line.faulted = false := by decide

/-- The station listens, in RUN and in FLASH. -/
theorem listening_running : listening running ∧ listening { running with mode := .flash, cause := .command } :=
  ⟨⟨rfl, rfl, nofun⟩, ⟨rfl, rfl, nofun⟩⟩

set_option maxRecDepth 20000 in
theorem witness_BadFramesAreCounted :
    listening running ∧ decodeFrame (List.replicate 21 false) = .error .crc ∧ decodeFrame (List.replicate 20 false) = .error .size ∧
    frameOk (.bid (bidOf 6 110 1901 0)) = false :=
  ⟨listening_running.1, rfl, rfl, rfl⟩

theorem witness_OwnNumberHeard :
    listening running ∧ listening { running with mode := .flash, cause := .command } ∧ frameOk (.bid (bidOf 5 1200 1900 5)) = true ∧
    frameStation (.bid (bidOf 5 1200 1900 5)) = (conf running).station :=
  ⟨listening_running.1, listening_running.2, rfl, rfl⟩

/-- Twenty-two records of the stations 6 to 15 and 0: the fullest table that takes a two-leg BEACON as the statement has it. -/
def nearlyFull (s : State) : State :=
  let stations := [0, 6, 7, 8, 9, 10, 11, 12, 13, 14, 15]
  let record := fun st l => ({ station := st, leg := l, position := 470, radius := 50, phase := .rest, slot := none } : Crossing)
  { s with table := stations.flatMap (fun st => [record st .leg0, record st .leg1])
           heard := stations.map (fun st => { station := st, left := 45 }) }

/-- The table of `nearlyFull` with both legs of station 1 far away: full, with (1, leg 1) its farthest record. -/
def full (s : State) : State :=
  let far := fun l => ({ station := 1, leg := l, position := 520, radius := 50, phase := .rest, slot := none } : Crossing)
  let t := nearlyFull s
  { t with table := t.table.take 2 ++ [far .leg0, far .leg1] ++ t.table.drop 2
           heard := t.heard.take 1 ++ [{ station := 1, left := 45 }] ++ t.heard.drop 1 }

/-- A BID at 519 m is nearer than the farthest record at 520 m, one at 520 m is not. -/
theorem witness_NeighbourFramesReachTheTable :
    listening running ∧ listening (nearlyFull running) ∧ TableOk (hearing running) ∧ (nearlyFull running).table.length + 2 = tableCapacity ∧
    TableOk (nearlyFull running) ∧ legBlockOk (blockOfPhase 11) = true ∧ (6#4).toNat ≠ (conf running).station ∧
    relevant running 520 50 = true ∧ relevant running 521 50 = false ∧ slotCodesOk 1200 1900 5 = true ∧
    (keepOf 6 1 40 250 3).stage ≠ 0#2 ∧ hasRecord (hearing running).table 6 = true ∧
    listening (full running) ∧ TableOk (full running) ∧ (full running).table.length = tableCapacity ∧
    hasRecord (full running).table (2#4).toNat = false ∧
    (∃ far ∈ (full running).table, far.leg = .leg1 ∧ distance far.position (conf running).position = 100 ∧
      ∀ c ∈ (full running).table, distance c.position (conf running).position < 100 ∨
        (distance c.position (conf running).position = 100 ∧ crossingKey c ≤ crossingKey far)) ∧
    distance 519 (conf running).position < 100 ∧ 100 ≤ distance 520 (conf running).position :=
  ⟨listening_running.1, ⟨rfl, rfl, nofun⟩, by decide, by decide, by decide, by decide, by decide, by decide, by decide, by decide, by decide,
   by decide, ⟨rfl, rfl, nofun⟩, by decide, by decide, by decide, by decide, by decide, by decide⟩

theorem witness_ConflictIsAnsweredByKey :
    let s := holding (ownSlot .claimed) (expired .claimed running)
    let u := holding { ownSlot .claimed with urgent := true } (expired .claimed running)
    let v := holding (ownSlot .committed) (expired .committed running)
    listening s ∧ s.mode = .run ∧ slotOf s .leg0 = some (ownSlot .claimed) ∧ (ownSlot .claimed).stage = .claimed ∧
    slotOf s (otherLeg .leg0) = none ∧ (∀ m, (s.slots.get m).bid = none) ∧ legState s .leg0 = .claimed ∧
    (s.slots.get .leg0).challengers = [] ∧ slotCodesOk 110 300 2 = true ∧ (6#4).toNat ≠ (conf s).station ∧
    inConflict s .leg0 (carriedBid (bidOf 6 274 400 2)) = true ∧ inConflict s .leg0 (carriedBid (bidOf 6 275 400 2)) = false ∧
    keyLt { urgent := false, rank := 24, station := 6, leg := .leg0 } (ownKey s .leg0 (ownSlot .claimed)) = true ∧
    keyLt { urgent := false, rank := 29, station := 6, leg := .leg0 } (ownKey s .leg0 (ownSlot .claimed)) = false ∧
    (keepOf 6 2 40 250 3).stage ≠ 0#2 ∧ (keepOf 6 2 40 250 3).stage ≠ 1#2 ∧ (keepOf 6 1 40 250 3).stage = 1#2 ∧
    inConflict s .leg0 (carriedKeep (keepOf 6 2 40 250 3)) = true ∧ inConflict u .leg0 (carriedKeep (keepOf 6 2 40 250 3)) = true ∧
    inConflict v .leg0 (carriedKeep (keepOf 6 1 40 250 3)) = true ∧ inConflict v .leg0 (carriedBid (bidOf 6 274 400 2)) = true ∧
    (ownSlot .committed).stage ≠ .claimed ∧ overlap (ownSlot .committed) (carriedKeep (keepOf 6 1 40 250 3)).slot = true ∧
    keyLt (foreignKey 6 .leg0 (carriedKeep (keepOf 6 1 40 250 3)).slot) (ownKey v .leg0 (ownSlot .committed)) = true ∧
    (ownSlot .committed).aid = true ∧
    (let told := { s with slots := s.slots.set .leg0 { s.slots.leg0 with challengers := [{ station := 6, leg := .leg0, told := true }] } }
     inConflict told .leg0 (carriedKeep (keepOf 6 1 40 250 3)) = true ∧
     ((told.slots.get .leg0).challengers.find? (fun q => decide (q.station = 6 ∧ q.leg = .leg0))).any Challenger.told = true) := by
  refine ⟨⟨rfl, rfl, nofun⟩, rfl, rfl, rfl, rfl, fun m => ?_, rfl, rfl, ?_⟩
  · cases m <;> rfl
  · decide

theorem witness_ClearwayFramesHold :
    let s := heldBySix running
    listening running ∧ listening s ∧ (6#4).toNat ≠ (conf s).station ∧ HoldersOk s ∧ HoldersOk running ∧
    distance 470 (conf s).position ≤ 50 ∧ ¬distance 471 (conf s).position ≤ 50 ∧ held running = false ∧ inUse running .leg1 = true ∧
    (∀ st ∈ [LegState.rest, .called, .claimed, .committed, .amber, .allRedIn, .walk, .clearance, .allRedOut, .held, .start, .flash],
      legState (expired st running) .leg0 = st) ∧ slotOf (holding (ownSlot .claimed) running) .leg0 ≠ none ∧
    (legConf running .leg0).wmin - 49 = 1 ∧ (legConf running .leg0).wmin - 50 = 0 ∧ (legConf running .leg0).kp < 41 ∧
    (let last := { heldBySix (expired .held (calling .aid 60 running)) with hold := { s.hold with maint := false } }
     last.hold.preempt = false ∧ last.hold.maint = false ∧ last.hold.street = true ∧ (∀ h ∈ last.hold.holders, h.station = (6#4).toNat) ∧
     legState last .leg0 = .held ∧ callOf last .leg0 ≠ none ∧ callOf last .leg1 = none) :=
  ⟨listening_running.1, ⟨rfl, rfl, nofun⟩, by decide, by decide, by decide, by decide, by decide, by decide, by decide, by decide, by decide,
   by decide, by decide, by decide, by decide⟩

/-- The boundary values 149, 150, 399, 400, 999 and 1000 µs each meet one clause. -/
theorem witness_StartPulseIsJudged :
    let d := fun (before watched : Nat) => ({ before := before, watched := watched } : Dominant).length
    running.resetHeld = false ∧ d 100 49 < 150 ∧ 150 ≤ d 0 150 ∧ d 0 399 < 400 ∧ 400 ≤ d 0 400 ∧ 400 ≤ d 500 999 ∧ 500 ≤ 500 ∧
    (faulted running).line.faulted = true ∧ State.reset.cfg = none ∧ running.line.faulted = false ∧ running.cfg.isSome = true ∧
    running.mode = .run := by decide

theorem witness_FramesRoundTrip :
    frameOk (.bid (bidOf 15 1200 1900 5)) = true ∧ frameOk (.keep (keepOf 15 3 1200 1900 5)) = true ∧
    frameOk (.beacon (beaconOf 0 11 0)) = true ∧ frameOk (.cede { station := 4, leg := .leg1 }) = true ∧
    frameOk (.clearway { station := 0, position := 2047, range := 2047 }) = true := by decide

theorem witness_SingleBitErrorsFailTheCrc :
    0 < (encodeFrame (.cede { station := 4, leg := .leg1 })).length ∧ 67 < (encodeFrame (.bid (bidOf 6 110 300 2))).length := by decide

theorem witness_ForeignCountsExpire :
    let s := heldBySix (hearing running)
    s.resetHeld = false ∧ heardOver s (6#4).toNat = true ∧ foreignOver s (6#4).toNat .leg0 = true ∧ refreshOver s (6#4).toNat = true ∧
    (s.hold.preempt = true ∨ s.hold.maint = true) ∧
    (let last := { heldBySix (expired .held (calling .aid 60 running)) with hold := { s.hold with maint := false } }
     refreshOver last (6#4).toNat = true ∧ last.hold.preempt = false ∧ last.hold.maint = false ∧ last.hold.street = true ∧
     (∀ h ∈ last.hold.holders, h.station = (6#4).toNat) ∧ legState last .leg0 = .held ∧ (callOf last .leg0).isSome = true ∧
     callOf last .leg1 = none ∧ last.mode = .run ∧ { last with mode := .isolated, cause := .command }.mode = .isolated) := by decide

/-- Two kerbs due at one instant: kerb A's comes first. -/
theorem witness_KerbTimesRunOut :
    let r : Kerb := { Kerb.atStart with
      pattern := .locator, phase := { running := true, count := 8 }, sounding := 16, beep := .short, beepLeft := { running := true, count := 16 } }
    let s := withKerb r running
    let left := fun (x : Kerb) => (x.phase.count : Int) - x.late
    s.resetHeld = false ∧ (kerbOf s .leg0 .a).phase.running = true ∧ (kerbOf s .leg0 .a).pattern ≠ .silent ∧ (kerbOf s .leg0 .a).beep ≠ .none ∧
    (kerbOf running .leg0 .a).beep = .none ∧ (kerbOf s .leg0 .a).sounding ≠ 0 ∧ (kerbOf s .leg0 .a).beepLeft.running = true ∧
    left (kerbOf s .leg0 .a) < left (kerbOf s .leg0 .b) ∧ left (kerbOf running .leg0 .a) = left (kerbOf running .leg0 .b) ∧
    burstReady running .leg0 .a = true ∧ burstReady running .leg0 .b = false := by decide

theorem witness_AmbientWordsAndQuietInput :
    running.resetHeld = false ∧ served running .leg0 = true ∧ (120#7).toNat ≤ 120 ∧ 120 < (121#7).toNat ∧ served State.reset .leg0 = false ∧
    running.quietInput ≠ true ∧ (1120 : Nat) ≤ 1920 ∧ 1120 ≤ 16 * (70#7).toNat ∧ 16 * (70#7).toNat ≤ 1120 + 7 ∧ 1113 + 7 = 16 * (70#7).toNat ∧
    16 * (60#7).toNat < 1122 := by decide

theorem witness_LevelsStayInOrder :
    StationConfig.inRange stationParams ∧ quietActive { running with quietInput := true } = true ∧
    { running with mode := .isolated, cause := .command }.mode = .isolated :=
  ⟨by simp [StationConfig.inRange, LegConfig.inRange, stationParams, legParams], rfl, rfl⟩

theorem witness_PatternChangesAndBeeps :
    Pattern.walk ≠ .silent ∧ (running.kerbs.get .leg0).a.pattern ≠ .walk ∧ (kerbOf running .leg0 .a).pattern = .locator ∧
    (kerbOf (withKerb { Kerb.atStart with pattern := .walk } running) .leg0 .a).pattern ≠ .locator ∧ (conf running).koff ≠ 0 := by decide

theorem witness_PreemptLines :
    let up := { running with phq := true, hold := { running.hold with preempt := true, side := .waiting } }
    let deferred := { up with prq := true, hold := { up.hold with release := .deferred } }
    running.resetHeld = false ∧ running.phq = false ∧ running.prq = false ∧ running.hold.preempt = false ∧ acceptsAny running = true ∧
    0 < (conf running).clearwayRange ∧ up.phq = true ∧ up.hold.release ≠ .deferred ∧ up.prq = false ∧ deferred.phq = true ∧
    deferred.hold.release = .deferred ∧ deferred.prq = true ∧ { up with phq := false }.hold.preempt = true := by decide

theorem witness_LampReadbacksAndMismatches :
    let due : LampRec := { readback := false, mismatch := { running := true, count := 0 }, failed := false }
    let lit : LampRec := { due with readback := true, mismatch := .stopped }
    let s := expired .allRedOut running
    let p : Lamps LampRec := { red := due, amber := due, green := lit, walk := due, dontWalk := due }
    let t := { s with lamps := s.lamps.set .leg0 p }
    t.resetHeld = false ∧ conflictSensed ((t.lamps.get .leg0).set .red { lampRec t .leg0 .red with readback := true }) = false ∧
    conflictSensed ((t.lamps.get .leg0).set .walk { lampRec t .leg0 .walk with readback := true }) = true ∧
    conflictSensed (t.lamps.get .leg0) = false ∧ t.mode ≠ .start ∧ (lampRec t .leg0 .red).mismatch = { running := true, count := 0 } ∧
    lampOn t .leg0 .red = true ∧ t.mode = .run ∧ LampId.amber ≠ .red ∧ (lampRec t .leg0 .amber).mismatch = { running := true, count := 0 } := by
  decide

theorem witness_EveryEventSettles :
    let r : LampRec := { readback := false, mismatch := { running := true, count := 2 }, failed := false }
    let s := { running with lamps := { running.lamps with leg0 := { running.lamps.leg0 with green := r } } }
    let asked := fun (u : State) => { u with hold := Hold.atStart true false }
    (asked running).hold.side = .waiting ∧ (asked running).mode ≠ .flash ∧ inUse (asked running) .leg0 = true ∧
    legState (asked running) .leg0 ≠ .held ∧ { asked running with mode := .flash }.mode = .flash ∧ running.hold.side ≠ .waiting ∧
    running.mode ≠ .start ∧ mismatched running .leg0 .red = false ∧ mismatched s .leg0 .green = true ∧
    (lampRec s .leg0 .green).mismatch.running = true ∧ mismatched running .leg0 .green = true ∧
    (lampRec running .leg0 .green).mismatch.running = false ∧ (lampRec running .leg0 .green).failed = false ∧ State.reset.mode = .start := by decide

theorem witness_ReadingCommandsReply : running.resetHeld = false ∧ (1#8).toNat ≤ 1 ∧ (23#8).toNat ≤ 23 := by decide

theorem witness_RejectedCommandsOnlyReply :
    running.resetHeld = false ∧ commandOf 0x06 = none ∧ ([] : List Byte).length ≠ operandCount .leg ∧
    ([2#8] : List Byte).length = operandCount .leg ∧ operandsInRange .leg [2#8] = false ∧
    ([0x40#8, 0#8] : List Byte).length = operandCount .fclr ∧ operandsInRange .fclr [0x40#8, 0#8] = false := by decide

theorem witness_SettingCommands :
    let resting := heldBySix (expired .held running)
    running.resetHeld = false ∧ (0#8).toNat ≤ 1 ∧ (2#8).toNat ≤ 2 ∧ (1#8).toNat ≤ 1 ∧ held running = false ∧ inUse running .leg0 = true ∧
    legState running .leg0 = .rest ∧ held resting = true ∧
    (let s := { resting with hold := { resting.hold with holders := [], street := false } }
     held s = true ∧ held (after (.hold [0#8]) s) = false ∧ s.mode ≠ .isolated ∧ legState s .leg0 = .held) := by decide

/-- Each mode, each kind of pending isolation, and the three ways of RESUME. -/
theorem witness_ModeCommands :
    let flashing := after (.flash []) running
    let proved := { flashing with lamps := { leg0 := { flashing.lamps.leg0 with amber := { readback := true, mismatch := .stopped, failed := false } },
                                             leg1 := { flashing.lamps.leg1 with amber := { readback := true, mismatch := .stopped, failed := false } } } }
    let isolated := { running with mode := .isolated, cause := .line }
    running.resetHeld = false ∧ State.reset.mode = .start ∧ running.mode = .run ∧ isolated.mode = .isolated ∧ (faulted isolated).line.faulted = true ∧
    flashing.mode = .flash ∧ flashing.cause ≠ .config ∧ anyMismatch flashing = true ∧ anyMismatch proved = false ∧ proved.isolation = none ∧
    { proved with isolation := some .line }.isolation = some .line ∧ (after (.configurationRead []) State.reset).cause = .config := by decide

/-- A leg claimed with its start at A + Rin or later, one leg called and both, a leg out of use, and PREEMPT present in ISOLATED. -/
theorem witness_ModeCommands_legs :
    let claimed := fun n => holding { ownSlot .claimed with startIn := n } (expired .claimed running)
    let called := expired .called (calling .aid 60 running)
    let both := { called with legs := { leg0 := called.legs.leg0, leg1 := called.legs.leg0 }
                              calls := { leg0 := called.calls.leg0, leg1 := called.calls.leg0 } }
    let preempted := { running with mode := .isolated, cause := .command, hold := Hold.atStart true false }
    legState (claimed 60) .leg0 = .claimed ∧ 60 ≤ (legConf running .leg0).amber + (legConf running .leg0).rin ∧
    ¬61 ≤ (legConf running .leg0).amber + (legConf running .leg0).rin ∧ slotOf (claimed 61) .leg0 ≠ none ∧
    legState called .leg0 = .called ∧ legState called (otherLeg .leg0) ≠ .called ∧ callOf called .leg0 ≠ none ∧
    (∀ l ∈ bothLegs, inUse both l = true ∧ legState both l = .called ∧ callOf both l ≠ none) ∧
    inUse { running with cfg := some { stationParams with leg1 := none } } .leg1 = false ∧
    preempted.hold.preempt = true ∧ preempted.cfg.isSome = true ∧ 0 < (conf preempted).clearwayRange := by decide

theorem witness_RestartKeepsFlagsAndCounters : running.resetHeld = false := rfl

theorem witness_StartAndResetPin : exec .resetPinAssert running ≠ .next running := by
  intro h
  injection h with h
  exact absurd (congrArg State.resetHeld h) (by decide)

theorem witness_TickStepsEveryCount :
    running.resetHeld = false ∧ legState (expired .walk running) .leg0 = .walk ∧ (4095 : Nat) = min 4095 (4095 + 1) := by decide

theorem witness_CommandsOutOfTurnChangeNothing :
    occurs .joinExpiry running = false ∧ occurs (.burstDue .leg0 .a) State.reset = false ∧ occurs .transmissionStart (faulted running) = false := by
  decide

/-- The next state of a step that does something, from a state with a neighbour and a holder. -/
def busy : State := waiting .decisecondTick (heldBySix (hearing { running with legs := { leg0 := legIn .held, leg1 := legIn .held } }))

theorem step_busy : ∃ t, step busy = .next t := ⟨_, rfl⟩

theorem witness_ForeignStateIsKept :
    ModeOk busy ∧ TableOk busy ∧ HoldersOk busy ∧ OwnNumberOk busy ∧ ∃ t, step busy = .next t :=
  ⟨by decide, by decide, by decide, by decide, step_busy⟩

theorem witness_ModeIsKept : ModeOk busy ∧ ∃ t, step busy = .next t := ⟨by decide, step_busy⟩

theorem witness_LegsAreKept : ModeOk busy ∧ LegsOk busy ∧ ∃ t, step busy = .next t := ⟨by decide, by decide, step_busy⟩

theorem witness_LineIsKept : ModeOk busy ∧ LineOk busy ∧ ∃ t, step busy = .next t := ⟨by decide, by decide, step_busy⟩

theorem witness_HandshakeAndLampsAreKept :
    ModeOk (settle busy) ∧ HandshakeOk (settle busy) ∧ LampsOk (settle busy) ∧ ∃ t, step (settle busy) = .next t :=
  ⟨by decide, by decide, by decide, ⟨_, rfl⟩⟩

theorem witness_WalkAndGreenAreEnteredSafely :
    let s := expired .allRedIn running
    let g := expired .allRedOut running
    (∃ t, exec (.allRedInExpiry .leg0) s = .next t ∧ legState t .leg0 = .walk ∧ legState s .leg0 ≠ .walk) ∧
    (∃ t, exec (.allRedOutExpiry .leg0) g = .next t ∧ greenShown (legState t .leg0) = true ∧ greenShown (legState g .leg0) = false) :=
  ⟨⟨_, rfl, by decide, by decide⟩, ⟨_, rfl, by decide, by decide⟩⟩

theorem witness_LegsMoveAlongTheCycle :
    ModeOk running ∧ LegsOk running ∧ restarts .phqRise = false ∧
    ∃ t, exec .phqRise running = .next t ∧ legState t .leg0 = .held ∧ legState running .leg0 = .rest :=
  ⟨by decide, by decide, rfl, ⟨_, rfl, by decide, by decide⟩⟩

theorem witness_CommandsChangeOnlyTheirParts : exec .phqRise running ≠ .next running := by
  intro h
  injection h with h
  exact absurd (congrArg State.phq h) (by decide)

end Sys2Proof.Tests
end

section
/-! What shows on the legs: the lamp commands lamp by lamp (R2), and the events that can bring a leg into a state of vehicle green
or into WALK. Both lamps are entered at an all-red expiry alone (R9, R11): every other operation of the blocks is shown to enter
neither, and the commands are put together from these. -/

namespace Sys2Proof.Machine

/-! ### The lamp commands, lamp by lamp (R2) -/

theorem greenShown_iff (st : LegState) :
    greenShown st = true ↔ st = .rest ∨ st = .called ∨ st = .claimed ∨ st = .committed ∨ st = .held := by
  cases st <;> simp [greenShown]

theorem lampOn_not_inUse {s : State} {l : LegId} (h : inUse s l = false) (i : LampId) : lampOn s l i = false := by
  simp [lampOn, h]

theorem lampOn_inUse {s : State} {l : LegId} (h : inUse s l = true) (i : LampId) :
    lampOn s l i = lampOfState (s.legs.get l) i := by
  simp [lampOn, h]

theorem lampOfState_red (r : LegRec) :
    lampOfState r .red = true ↔ r.state = .allRedIn ∨ r.state = .walk ∨ r.state = .clearance ∨ r.state = .allRedOut := by
  cases h : r.state <;> simp [lampOfState, h]

theorem lampOfState_amber (r : LegRec) :
    lampOfState r .amber = true ↔ r.state = .amber ∨ ((r.state = .start ∨ r.state = .flash) ∧ r.flashOn = true) := by
  cases h : r.state <;> simp [lampOfState, h]

theorem lampOfState_green (r : LegRec) : lampOfState r .green = greenShown r.state := by
  cases h : r.state <;> simp [lampOfState, greenShown, h]

theorem lampOfState_walk (r : LegRec) : lampOfState r .walk = true ↔ r.state = .walk := by
  cases h : r.state <;> simp [lampOfState, h]

theorem lampOfState_dontWalk (r : LegRec) :
    lampOfState r .dontWalk = true ↔
      greenShown r.state = true ∨ r.state = .amber ∨ r.state = .allRedIn ∨ r.state = .allRedOut ∨
        (r.state = .clearance ∧ r.flashOn = true) := by
  cases h : r.state <;> simp [lampOfState, greenShown, h]

/-- The lamps of green and walk are those of different leg states, whether or not the leg is in use. -/
theorem not_green_and_walk (s : State) (l : LegId) : ¬(lampOn s l .green = true ∧ lampOn s l .walk = true) := by
  rintro ⟨hg, hw⟩
  simp only [lampOn, Bool.and_eq_true] at hg hw
  have hs := (lampOfState_walk _).mp hw.2
  rw [lampOfState_green, hs] at hg
  exact absurd hg.2 (by decide)

theorem mismatched_iff (s : State) (l : LegId) (i : LampId) :
    mismatched s l i = true ↔ (lampRec s l i).readback ≠ lampOn s l i := by
  simp [mismatched, lampRec]

/-! ### Entering neither vehicle green nor WALK -/

/-- A leg that goes from a to b enters neither vehicle green nor WALK: where it shows one of them in b, it did in a. -/
def LegState.NoEntry (a b : LegState) : Prop := (greenShown b = true → greenShown a = true) ∧ (b = .walk → a = .walk)

theorem LegState.NoEntry.refl (a : LegState) : a.NoEntry a := ⟨id, id⟩

theorem LegState.NoEntry.trans {a b c : LegState} (h : a.NoEntry b) (g : b.NoEntry c) : a.NoEntry c :=
  ⟨fun hc => h.1 (g.1 hc), fun hc => h.2 (g.2 hc)⟩

/-- A state that is neither of green nor WALK is entered from anywhere. -/
theorem LegState.NoEntry.closed (a : LegState) {b : LegState} (hg : greenShown b = false) (hw : b ≠ .walk) : a.NoEntry b :=
  ⟨fun h => absurd h (by simp [hg]), fun h => absurd h hw⟩

/-- From a state of green a leg may go anywhere but to WALK. -/
theorem LegState.NoEntry.green {a b : LegState} (ha : greenShown a = true) (hw : b ≠ .walk) : a.NoEntry b :=
  ⟨fun _ => ha, fun h => absurd h hw⟩

/-- No leg enters vehicle green or WALK between the two states. -/
def NoEntry (s t : State) : Prop := ∀ l, (legState s l).NoEntry (legState t l)

/-- An operation by which no leg enters vehicle green or WALK, wherever it starts. -/
def EntersNone (f : State → State) : Prop := ∀ s, NoEntry s (f s)

theorem NoEntry.refl (s : State) : NoEntry s s := fun l => .refl (legState s l)

theorem NoEntry.trans {s t u : State} (h : NoEntry s t) (g : NoEntry t u) : NoEntry s u := fun l => (h l).trans (g l)

theorem NoEntry.of_legs {s t : State} (h : t.legs = s.legs) : NoEntry s t := by
  intro l; rw [legState, legState, h]; exact .refl _

/-- The operation is the last of a chain. -/
theorem NoEntry.after {s t : State} {f : State → State} (hf : EntersNone f) (h : NoEntry s t) : NoEntry s (f t) := h.trans (hf t)

theorem NoEntry.ite {s t u : State} {c : Prop} [Decidable c] (h : NoEntry s t) (g : NoEntry s u) : NoEntry s (if c then t else u) := by
  split
  · exact h
  · exact g

/-- What does not touch the legs moves none of them. -/
theorem Touches.entersNone {ps : List Part} {f : State → State} (h : Touches ps f) (hl : ps.contains .legs = false) : EntersNone f :=
  fun s => .of_legs (h s .legs (by simpa using hl))

/-- The last operation of a chain does not touch the legs. -/
theorem NoEntry.frame {ps : List Part} {s t : State} {f : State → State} (h : NoEntry s t) (hf : Touches ps f)
    (hl : ps.contains .legs = false) : NoEntry s (f t) :=
  h.after (hf.entersNone hl)

theorem EntersNone.comp {f g : State → State} (hg : EntersNone g) (hf : EntersNone f) : EntersNone (fun s => g (f s)) :=
  fun s => (hf s).after hg

theorem EntersNone.foldl {α : Type} {f : State → α → State} (h : ∀ a, EntersNone (fun s => f s a)) (xs : List α) :
    EntersNone (fun s => xs.foldl f s) := by
  intro s
  induction xs generalizing s with
  | nil => exact .refl s
  | cons a xs ih => exact (h a s).trans (ih (f s a))

theorem forLegs_entersNone {f : LegId → State → State} (h : ∀ l, EntersNone (f l)) (ls : List LegId) :
    EntersNone (forLegs ls f) :=
  EntersNone.foldl (fun l s => .ite (h l s) (.refl s)) ls

theorem legState_updLeg (l m : LegId) (f : LegRec → LegRec) (s : State) :
    legState (updLeg l f s) m = if m = l then (f (s.legs.get l)).state else legState s m := by
  simp only [legState, updLeg_legs, Legs.get_upd]; split <;> rfl

/-- Changing one leg's record enters nothing where the change of its state does not. -/
theorem updLeg_noEntry {l : LegId} {f : LegRec → LegRec} {s : State} (h : (legState s l).NoEntry (f (s.legs.get l)).state) :
    NoEntry s (updLeg l f s) := by
  intro m; rw [legState_updLeg]; split
  · next hm => exact hm ▸ h
  · exact .refl _

/-- Changing the record of a leg to a state that is neither of green nor WALK. -/
theorem updLeg_closed {l : LegId} {f : LegRec → LegRec} (s : State) (b : LegState) (h : ∀ r, (f r).state = b)
    (hg : greenShown b = false) (hw : b ≠ .walk) : NoEntry s (updLeg l f s) :=
  updLeg_noEntry ((h (s.legs.get l)).symm ▸ LegState.NoEntry.closed _ hg hw)

/-- Changing the record of a leg that shows green, to a state other than WALK. -/
theorem updLeg_green {l : LegId} {f : LegRec → LegRec} {s : State} (b : LegState) (hs : greenShown (legState s l) = true)
    (h : ∀ r, (f r).state = b) (hw : b ≠ .walk) : NoEntry s (updLeg l f s) :=
  updLeg_noEntry (.green hs ((h (s.legs.get l)).symm ▸ hw))

/-- Changing the record of a leg, its state apart. -/
theorem updLeg_same {l : LegId} {f : LegRec → LegRec} (s : State) (h : ∀ r, (f r).state = r.state) : NoEntry s (updLeg l f s) :=
  updLeg_noEntry ((h (s.legs.get l)).symm ▸ LegState.NoEntry.refl _)

/-! ### Taking an event -/

theorem settle_entersNone : EntersNone settle := settle_touches.entersNone rfl

theorem event_entersNone {f : State → State} (h : EntersNone f) : EntersNone (event f) := by
  intro s; unfold event
  exact .ite (.refl s) (((NoEntry.of_legs rfl).after h).after settle_entersNone)

theorem eventIf_entersNone (can : Bool) {f : State → State} (h : EntersNone f) : EntersNone (eventIf can f) :=
  fun s => .ite (event_entersNone h s) (.refl s)

theorem expiry_entersNone (due : Bool) {f : State → State} (h : EntersNone f) : EntersNone (expiry due f) :=
  fun s => .ite ((h s).after settle_entersNone) (.refl s)

theorem pinChange_entersNone {level f : State → State} (hl : EntersNone level) (h : EntersNone f) : EntersNone (pinChange level f) :=
  fun s => .ite (hl s) ((hl s).after (event_entersNone h))

theorem completeFor_entersNone (o : Option LegId) {f : LegId → State → State} (h : ∀ l, EntersNone (f l)) :
    EntersNone (completeFor o f) := by
  intro s
  cases o with
  | none => exact .refl s
  | some l => exact event_entersNone (EntersNone.comp (h l) (completeFrame_touches.entersNone rfl)) s

/-! ### The Slot Engine -/

theorem amberEntry_entersNone (l : LegId) : EntersNone (amberEntry l) :=
  fun s => updLeg_closed s .amber (fun _ => rfl) rfl nofun

theorem takeCommit_entersNone (l : LegId) : EntersNone (takeCommit l) := by
  intro s; unfold takeCommit; dsimp only
  split
  · next h =>
    have hgreen : greenShown (legState s l) = true := by
      rcases h with h | ⟨h, -⟩ <;> rw [h] <;> rfl
    have hc : NoEntry s (updLeg l (fun r => { r with state := .committed }) s) := updLeg_green .committed hgreen (fun _ => rfl) nofun
    exact .ite (hc.after (amberEntry_entersNone l)) hc
  · exact .refl s

theorem cede_entersNone (l : LegId) : EntersNone (cede l) := by
  intro s; unfold cede; dsimp only
  have hs : NoEntry s (removeSlot l s) := (removeSlot_touches l).entersNone rfl s
  refine .frame ?_ (enqueueLeg_touches l .cede) rfl
  split
  · next h => exact hs.trans (updLeg_green .called (by rw [h]; rfl) (fun _ => rfl) nofun)
  · exact hs

theorem react_entersNone (l : LegId) (c : Carried) : EntersNone (react l c) := by
  intro s; unfold react
  have hk : NoEntry s (answerKeep l c s) := (answerKeep_touches l c).entersNone rfl s
  split
  · exact .refl s
  · refine .ite ?_ (.refl s)
    split
    · exact cede_entersNone l s
    · exact hk
    · exact hk.frame (setFlag_touches _) rfl

theorem takeConflict_entersNone (l : LegId) (c : Carried) : EntersNone (takeConflict l c) :=
  fun s => .ite ((updSlot_touches l _).entersNone rfl s) (react_entersNone l c s)

theorem slotsTake_entersNone (c : Carried) : EntersNone (slotsTake c) := by
  intro s; unfold slotsTake
  exact (((takeConflict_entersNone .leg0 c s).after (takeConflict_entersNone .leg1 c)).frame
    (checkFrame_touches .leg0 c) rfl).frame (checkFrame_touches .leg1 c) rfl

theorem sameStation_entersNone (l : LegId) : EntersNone (sameStation l) := by
  intro s; unfold sameStation; dsimp only
  split
  · have hmine {c : Prop} [Decidable c] : NoEntry s (if c then cede l s else s) := .ite (cede_entersNone l s) (.refl s)
    exact .ite (.frame (.ite (hmine.after (cede_entersNone _)) hmine) (setFlagIf_touches _ _) rfl) (.refl s)
  · exact .refl s

theorem checkOther_entersNone (l : LegId) : EntersNone (checkOther l) :=
  fun s => .ite ((updSlot_touches _ _).entersNone rfl s) (sameStation_entersNone l s)

theorem aidUpgrade_entersNone (l : LegId) : EntersNone (aidUpgrade l) := by
  intro s; unfold aidUpgrade; dsimp only
  have hu : NoEntry s (checkOther l (upgradeSlot l s)) :=
    ((upgradeSlot_touches l).entersNone rfl s).after (checkOther_entersNone l)
  split
  · exact .refl s
  · refine .ite (.refl s) (.ite ?_ hu)
    exact ((hu.frame (updSlot_touches l _) rfl).frame (enqueueLeg_touches l .keep) rfl).frame
      (checkOwnChange_touches _ l none) rfl

theorem placeIsolated_entersNone (l : LegId) : EntersNone (placeIsolated l) := by
  intro s; unfold placeIsolated; dsimp only
  split
  · exact .refl s
  · refine .ite (.after (takeCommit_entersNone l) ?_) (.refl s)
    exact ((updSlot_touches l _).entersNone rfl s).frame (setFlagIf_touches _ _) rfl

theorem reportEligible_entersNone (l : LegId) : EntersNone (reportEligible l) :=
  fun s => .ite (placeIsolated_entersNone l s) ((enqueueLeg_touches l .bid).entersNone rfl s)

theorem requestSlot_entersNone (l : LegId) : EntersNone (requestSlot l) :=
  fun s => .ite ((reportEligible_entersNone l s).frame (markRenewed_touches l) rfl) (reportEligible_entersNone l s)

theorem takeDeferred_entersNone (l : LegId) (d : Deferred) : EntersNone (fun s => takeDeferred l d s) := by
  intro s
  cases d with
  | frame c => exact react_entersNone l c s
  | upgrade => exact sameStation_entersNone _ s

theorem bidReported_entersNone (l : LegId) : EntersNone (bidReported l) := by
  intro s; unfold bidReported
  split
  · exact .refl s
  · extract_lets deferred s1
    have h1 : NoEntry s s1 := (updSlot_touches l _).entersNone rfl s
    split
    · next s2 s3 aidCall s4 s5 hcalled =>
      have h2 : NoEntry s s2 := h1.frame (updSlot_touches l _) rfl
      have hgreen : greenShown (legState s2 l) = true := congrArg greenShown hcalled
      have h3 : NoEntry s s3 := (h2.trans (updLeg_green .claimed hgreen (fun _ => rfl) nofun)).frame (setFlagIf_touches _ _) rfl
      have h4 : NoEntry s s4 := .ite (h3.after (aidUpgrade_entersNone l)) h3
      have h5 : NoEntry s s5 := h4.after (EntersNone.foldl (takeDeferred_entersNone l) deferred)
      exact h5.frame (checkOwnChange_touches _ l none) rfl
    · exact h1.frame (enqueueLeg_touches l .cede) rfl

theorem contestWon_entersNone (l : LegId) : EntersNone (contestWon l) := by
  intro s; unfold contestWon; dsimp only
  have hs := ((onSlot_touches l (fun x => { x with stage := .committed })).entersNone rfl s).frame
    (updSlot_touches l (fun r => { r with contest := .stopped })) rfl
  exact .after (takeCommit_entersNone l)
    (.ite ((hs.frame (updSlot_touches l _) rfl).frame (enqueueLeg_touches l .keep) rfl) hs)

/-! ### The service cycle and the holds -/

theorem enterAllRedOut_entersNone (l : LegId) : EntersNone (enterAllRedOut l) :=
  fun s => updLeg_closed s .allRedOut (fun _ => rfl) rfl nofun

theorem enterClearance_entersNone (l : LegId) : EntersNone (enterClearance l) := by
  intro s; unfold enterClearance; extract_lets r c s1
  have h1 : NoEntry s s1 := updLeg_closed s .clearance (fun _ => rfl) rfl nofun
  exact .ite (h1.frame (changePattern_touches l .clearance) rfl) h1

theorem skipWalk_entersNone (l : LegId) : EntersNone (skipWalk l) := by
  intro s; unfold skipWalk
  exact (enterAllRedOut_entersNone l s).frame (withdraw_touches l) rfl

theorem amberDone_entersNone (l : LegId) : EntersNone (amberDone l) :=
  fun s => .ite (enterAllRedOut_entersNone l s) (updLeg_closed s .allRedIn (fun _ => rfl) rfl nofun)

theorem clearanceDone_entersNone (l : LegId) : EntersNone (clearanceDone l) := by
  intro s; unfold clearanceDone
  exact ((enterAllRedOut_entersNone l s).frame (changePattern_touches l .locator) rfl).frame
    (removeSlot_touches l) rfl

theorem flashLeg_entersNone (l : LegId) : EntersNone (flashLeg l) :=
  fun s => updLeg_closed s .flash (fun _ => rfl) rfl nofun

theorem releaseLeg_entersNone (l : LegId) : EntersNone (releaseLeg l) := by
  intro s; unfold releaseLeg
  exact (enterAllRedOut_entersNone l s).frame (changePattern_touches l .locator) rfl

theorem holdInWalk_entersNone (l : LegId) : EntersNone (holdInWalk l) := by
  intro s; unfold holdInWalk; dsimp only
  refine .frame (.frame ?_ (setFlagIf_touches _ _) rfl) (onSlot_touches l _) rfl
  have hcut : NoEntry s (updLeg l (fun r => { r with clearanceCut := true }) s) := updLeg_same s (fun _ => rfl)
  exact .ite (hcut.after (enterClearance_entersNone l)) (hcut.after (fun s => updLeg_same s (fun _ => rfl)))

theorem holdInClearance_entersNone (l : LegId) : EntersNone (holdInClearance l) := by
  intro s; unfold holdInClearance; dsimp only
  refine .ite (.frame (.frame ?_ (setFlag_touches _) rfl) (onSlot_touches l _) rfl) (.refl s)
  exact updLeg_same s (fun _ => rfl)

theorem holdLeg_entersNone (l : LegId) : EntersNone (holdLeg l) := by
  intro s
  have hheld (hg : greenShown (legState s l) = true) : NoEntry s (updLeg l (fun r => { r with state := .held }) s) :=
    updLeg_green .held hg (fun _ => rfl) nofun
  have hw : EntersNone (withdraw l) := ((withdraw_touches l).entersNone rfl)
  cases h : legState s l <;> simp only [holdLeg, h]
  case rest | called => exact hheld (by rw [h]; rfl)
  case claimed | committed => exact (hheld (by rw [h]; rfl)).after hw
  case amber => exact .after hw (updLeg_same s (fun _ => rfl))
  case allRedIn => exact (enterAllRedOut_entersNone l s).after hw
  case walk => exact holdInWalk_entersNone l s
  case clearance => exact holdInClearance_entersNone l s
  case allRedOut | held | start | flash => exact .refl s

theorem unholdLeg_entersNone (l : LegId) : EntersNone (unholdLeg l) := by
  intro s; unfold unholdLeg
  split
  · next h =>
    have hg : greenShown (legState s l) = true := by rw [h]; rfl
    exact .ite ((updLeg_green .called hg (fun _ => rfl) nofun).after (reportEligible_entersNone l))
      (updLeg_green .rest hg (fun _ => rfl) nofun)
  · exact .refl s

theorem reportHoldEnded_entersNone : EntersNone reportHoldEnded := by
  intro s; unfold reportHoldEnded
  exact .after (forLegs_entersNone unholdLeg_entersNone _) ((setChoices_touches _).entersNone rfl s)

theorem changeSources_entersNone (f : Hold → Hold) : EntersNone (changeSources f) := by
  intro s; unfold changeSources; dsimp only
  have hs : NoEntry s (updHold f s) := (updHold_touches f).entersNone rfl s
  exact .ite (hs.after (forLegs_entersNone holdLeg_entersNone bothLegs)) (.ite (hs.after reportHoldEnded_entersNone) hs)

theorem holdRequested_entersNone : EntersNone holdRequested := by
  intro s; unfold holdRequested; dsimp only
  have hs := (changeSources_entersNone (fun h => { h with preempt := true }) s).frame
    (updHold_touches (fun h => { h with side := .waiting })) rfl
  exact .ite (hs.frame startClearway_touches rfl) hs

theorem releaseTaken_entersNone : EntersNone releaseTaken := by
  intro s; unfold releaseTaken; dsimp only
  have hs := changeSources_entersNone (fun h => { h with preempt := false }) s
  exact .frame (.ite (hs.frame endClearway_touches rfl) hs) (updHold_touches _) rfl

theorem holdLowered_entersNone : EntersNone holdLowered := by
  intro s; unfold holdLowered; dsimp only
  have hs := (updHold_touches (fun h => { h with side := .idle, pha := false })).entersNone rfl s
  exact .ite (hs.after releaseTaken_entersNone) hs

theorem releaseRaised_entersNone : EntersNone releaseRaised :=
  fun s => .ite ((updHold_touches _).entersNone rfl s) (releaseTaken_entersNone s)

theorem changeHolders_entersNone (f : List Holder → List Holder) : EntersNone (changeHolders f) := by
  intro s; unfold changeHolders
  exact changeSources_entersNone _ s

theorem refreshDone_entersNone (st : Nat) : EntersNone (refreshDone st) := by
  intro s; unfold refreshDone
  exact ((setFlag_touches _).entersNone rfl s).after (changeHolders_entersNone _)

theorem flashDone_entersNone (l : LegId) : EntersNone (flashDone l) :=
  fun s => updLeg_same s (fun _ => rfl)

theorem minGreenDone_entersNone (l : LegId) : EntersNone (minGreenDone l) :=
  fun s => updLeg_same s (fun _ => rfl)

/-! ### Presses -/

theorem pressInRest_entersNone (l : LegId) (k : Side) (kind : Kind) {s : State} (h : legState s l = .rest) :
    NoEntry s (pressInRest l k kind s).1 := by
  have hcalled : NoEntry s (updLeg l (fun r => { r with state := .called }) (latch l k kind s)) :=
    ((latch_touches l k kind).entersNone rfl s).trans (updLeg_green .called (congrArg greenShown h) (fun _ => rfl) nofun)
  exact (hcalled.after (requestSlot_entersNone l)).frame (triggerBeep_touches l k kind) rfl

theorem pressInCalled_entersNone (l : LegId) (k : Side) (kind : Kind) : EntersNone (fun s => (pressInCalled l k kind s).1) := by
  intro s; dsimp only; unfold pressInCalled
  have hb : EntersNone (triggerBeep l k kind) := ((triggerBeep_touches l k kind).entersNone rfl)
  split
  · exact .after hb (((upgradeCall_touches l).entersNone rfl s).after (requestSlot_entersNone l))
  · exact hb s

theorem pressInService_entersNone (l : LegId) (k : Side) (kind : Kind) : EntersNone (fun s => (pressInService l k kind s).1) := by
  intro s; dsimp only; unfold pressInService
  have hb : EntersNone (triggerBeep l k kind) := ((triggerBeep_touches l k kind).entersNone rfl)
  split
  · exact .after hb (((upgradeCall_touches l).entersNone rfl s).after (aidUpgrade_entersNone l))
  · exact hb s

theorem pressInWalk_entersNone (l : LegId) (k : Side) (kind : Kind) : EntersNone (fun s => (pressInWalk l k kind s).1) := by
  intro s; dsimp only; unfold pressInWalk
  split
  · exact .refl s
  · split
    · exact ((resetEnvelope_touches l .a).entersNone rfl s).frame (resetEnvelope_touches l .b) rfl
    · split
      · exact .refl s
      · exact (latch_touches l k .aid).entersNone rfl s

theorem pressInLater_entersNone (l : LegId) (k : Side) (kind : Kind) : EntersNone (fun s => (pressInLater l k kind s).1) := by
  intro s; dsimp only; unfold pressInLater
  have hb : EntersNone (triggerBeep l k kind) := ((triggerBeep_touches l k kind).entersNone rfl)
  split
  · exact .after hb ((latch_touches l k kind).entersNone rfl s)
  · split
    · exact .after hb ((upgradeCall_touches l).entersNone rfl s)
    · exact hb s

theorem press_entersNone (l : LegId) (k : Side) (kind : Kind) : EntersNone (press l k kind) := by
  intro s
  cases h : legState s l <;> simp only [press, takePress, h]
  case rest => exact pressInRest_entersNone l k kind h
  case called => exact pressInCalled_entersNone l k kind s
  case claimed | committed | amber | allRedIn => exact pressInService_entersNone l k kind s
  case walk => exact pressInWalk_entersNone l k kind s
  case clearance | allRedOut | held => exact pressInLater_entersNone l k kind s
  case start | flash => exact .refl s

theorem classifyAid_entersNone (l : LegId) (k : Side) : EntersNone (classifyAid l k) := by
  intro s; unfold classifyAid
  exact ((updButton_touches l k _).entersNone rfl s).after (press_entersNone l k .aid)

theorem declareRelease_entersNone (l : LegId) (k : Side) : EntersNone (declareRelease l k) := by
  intro s; unfold declareRelease; extract_lets s1 s2 b plain s3
  have h1 : NoEntry s s1 := .ite (classifyAid_entersNone l k s) (.refl s)
  have h2 : NoEntry s s2 := .ite (h1.frame (markStuck_touches l k) rfl) h1
  have h3 : NoEntry s s3 := h2.frame (updButton_touches l k _) rfl
  exact .ite (h3.after (press_entersNone l k .plain)) h3

theorem sampleButton_entersNone (l : LegId) (k : Side) (high : Bool) : EntersNone (sampleButton l k high) := by
  intro s; unfold sampleButton; dsimp only
  have hb (f : Button → Button) : NoEntry s (updButton l k f s) := (updButton_touches l k f).entersNone rfl s
  split
  · exact .ite (.ite ((declarePress_touches l k).entersNone rfl s) (hb _)) (hb _)
  all_goals exact .ite (hb _) (.ite (declareRelease_entersNone l k s) (hb _))

/-! ### The station modes -/

theorem isolateLeg_entersNone (l : LegId) : EntersNone (isolateLeg l) := by
  intro s; unfold isolateLeg
  refine .ite (placeIsolated_entersNone l s) (.ite (.after (takeCommit_entersNone l) ?_) (.refl s))
  exact ((onSlot_touches l _).entersNone rfl s).frame (updSlot_touches l _) rfl

theorem enterIsolated_entersNone (i : Isolation) : EntersNone (enterIsolated i) := by
  intro s; unfold enterIsolated
  extract_lets s1 s2 s3 s4 s5 s6 both order
  have h6 : s6.legs = s.legs := rfl
  exact .after (forLegs_entersNone isolateLeg_entersNone order) (.ite (.of_legs h6) (.of_legs h6))

theorem flashBlocks_entersNone : EntersNone flashBlocks := by
  intro s; unfold flashBlocks; extract_lets s1 s2 s3
  have h1 : NoEntry s s1 := forLegs_entersNone flashLeg_entersNone bothLegs s
  have h2 : NoEntry s s2 := (h1.frame (removeCall_touches .leg0) rfl).frame (removeCall_touches .leg1) rfl
  have h3 : NoEntry s s3 := h2.trans (.of_legs rfl)
  exact h3.frame (forLegs_touches silenceLeg_touches bothLegs) rfl

theorem enterFlash_entersNone (c : Cause) : EntersNone (enterFlash c) := by
  intro s; unfold enterFlash; extract_lets fromIsolated isolation s1 s2
  have h2 : NoEntry s s2 := ((NoEntry.of_legs rfl : NoEntry s s1).after flashBlocks_entersNone).frame startBeacon_touches rfl
  exact .ite (h2.frame startClearway_touches rfl) h2

theorem flashFrom_entersNone (c : Cause) : EntersNone (flashFrom c) :=
  fun s => .ite (.refl s) (enterFlash_entersNone c s)

theorem reportIsolation_entersNone (i : Isolation) : EntersNone (reportIsolation i) := by
  intro s; unfold reportIsolation
  split
  case h_1 | h_2 => exact enterIsolated_entersNone i s
  case h_3 => exact .ite (.of_legs rfl) (.refl s)
  case h_4 => split <;> exact .of_legs rfl
  case h_5 => exact .refl s

theorem duplicateFound_entersNone : EntersNone duplicateFound := by
  intro s; unfold duplicateFound
  exact ((setFlag_touches _).entersNone rfl s).after (reportIsolation_entersNone .duplicate)

theorem takeLineFault_entersNone : EntersNone takeLineFault := by
  intro s; unfold takeLineFault; dsimp only
  have hs := ((setFlag_touches .lineFault).entersNone rfl s).frame (updLine_touches (fun n => { n with faulted := true })) rfl
  exact .ite (((hs.frame stopOwnFrame_touches rfl).frame discardReception_touches rfl).after
    (reportIsolation_entersNone .line)) (.refl s)

theorem takeResume_entersNone : EntersNone takeResume := by
  intro s; unfold takeResume; extract_lets s1
  have h1 : NoEntry s s1 := (NoEntry.of_legs rfl).after (forLegs_entersNone releaseLeg_entersNone bothLegs)
  split
  · exact h1
  · exact (h1.trans (.of_legs rfl)).after (enterIsolated_entersNone _)

/-! ### START and the configuration -/

/-- Both legs are in START (R19). -/
theorem startBlocks_entersNone : EntersNone startBlocks := by
  intro s l
  cases l <;> exact LegState.NoEntry.closed (b := .start) _ rfl nofun

theorem coldStart_entersNone : EntersNone coldStart :=
  fun s => (startBlocks_entersNone s).trans (.of_legs rfl)

theorem stopWords_touches : Touches [.links] stopWords :=
  Touches.foldl (fun l s => (sendWord_touches l (.stop .a (stopLevel s)) s).trans (sendWord_touches l (.stop .b (stopLevel s)) _))
    bothLegs

theorem startNow_entersNone (straps : BitVec 2) (phq prq quiet : Bool) : EntersNone (startNow straps phq prq quiet) := by
  intro s; unfold startNow; extract_lets port s1
  have h1 : NoEntry s { s1 with clock := s1.clock + 1 } := .of_legs rfl
  exact (h1.after coldStart_entersNone).frame stopWords_touches rfl

theorem holdReset_entersNone : EntersNone holdReset :=
  fun s => (coldStart_entersNone s).trans (.of_legs rfl)

theorem track_touches (l : LegId) : Touches [.ambient] (track l) :=
  fun s => (updAmbient_touches l .a _ s).trans (updAmbient_touches l .b _ _)

theorem conflictAtStart_entersNone : EntersNone conflictAtStart := by
  intro s; unfold conflictAtStart
  exact .ite (((setFlag_touches _).entersNone rfl s).after (flashFrom_entersNone .conflict)) (.refl s)

theorem configLoaded_entersNone (bytes : List Byte) : EntersNone (configLoaded bytes) := by
  intro s; unfold configLoaded; extract_lets s1 s2 s3 s4
  have h1 : NoEntry s s1 := (NoEntry.of_legs rfl).frame (setFlagIf_touches _ _) rfl
  have h2 : NoEntry s s2 := h1.frame enterListen_touches rfl
  have h3 : NoEntry s s3 :=
    h2.after (forLegs_entersNone (fun l => EntersNone.comp ((track_touches l).entersNone rfl) (releaseLeg_entersNone l)) bothLegs)
  have h4 : NoEntry s s4 := .ite h3 (h3.after (fun s => updLeg_same s (fun _ => rfl)))
  exact h4.after conflictAtStart_entersNone

theorem configFault_entersNone (c : FaultCheck) : EntersNone (configFault c) := by
  intro s; unfold configFault; extract_lets s1
  have h1 : NoEntry s s1 := (NoEntry.of_legs rfl).frame (setFlag_touches .cfgFault) rfl
  exact (h1.after flashBlocks_entersNone).after conflictAtStart_entersNone

theorem configRead_entersNone (bytes : List Byte) : EntersNone (configRead bytes) := by
  intro s; unfold configRead
  split
  · exact configLoaded_entersNone bytes s
  · exact configFault_entersNone _ s

/-! ### The street line -/

theorem collide_entersNone : EntersNone collide := by
  intro s; unfold collide; extract_lets s1
  have h1 : NoEntry s s1 := .of_legs rfl
  exact .ite (h1.after duplicateFound_entersNone) h1

theorem blocksTake_entersNone (f : Frame) : EntersNone (blocksTake f) := by
  intro s
  cases f with
  | bid f => exact slotsTake_entersNone _ s
  | keep f => exact slotsTake_entersNone _ s
  | clearway f => exact .ite (changeHolders_entersNone _ s) (changeHolders_entersNone _ s)
  | clearEnd f => exact changeHolders_entersNone _ s
  | beacon f => exact .refl s
  | cede f => exact .refl s

theorem takeValid_entersNone (f : Frame) : EntersNone (takeValid f) := by
  intro s; unfold takeValid dispatch
  exact .ite (duplicateFound_entersNone s) ((blocksTake_entersNone f s).frame (tableTakes_touches f) rfl)

theorem atFrameEnd_entersNone {take : State → State} (h : EntersNone take) : EntersNone (atFrameEnd take) := by
  intro s; unfold atFrameEnd; extract_lets t
  have ht : NoEntry s t := (updLine_touches _).entersNone rfl s
  exact .ite (ht.after h) ht

theorem takeFrame_entersNone (f : Frame) : EntersNone (takeFrame f) :=
  atFrameEnd_entersNone (fun s => .ite (takeValid_entersNone f s) (countFormat_touches.entersNone rfl s))

theorem takeBits_entersNone (bits : List Bool) : EntersNone (takeBits bits) := by
  refine atFrameEnd_entersNone (fun s => ?_)
  split
  · exact takeValid_entersNone _ s
  · exact countCrc_touches.entersNone rfl s
  · exact countFormat_touches.entersNone rfl s

theorem judgePulse_entersNone (recessive : Nat) (dominant : Dominant) : EntersNone (judgePulse recessive dominant) := by
  intro s; unfold judgePulse; extract_lets s1
  have h1 : NoEntry s s1 := (updLine_touches _).entersNone rfl s
  exact .ite (h1.after takeLineFault_entersNone) h1

/-! ### The Crossing Table, the kerbs, the lamps and the tick -/

theorem clearForeign_entersNone (st : Nat) (l : LegId) : EntersNone (clearForeign st l) := fun _ => .of_legs rfl

theorem burstNow_touches (l : LegId) (k : Side) : Touches [.kerbs, .links, .sinceTick] (burstNow l k) := by
  intro s; unfold burstNow; extract_lets s1 late
  have h1 : ChangesOnly [.kerbs, .links, .sinceTick] s s1 := elapse_touches _ s
  exact .after (loadPhase_touches l k _ late) (by decide) (h1.after (sendBurst_touches l k late) (by decide))

theorem readQuiet_entersNone (high : Bool) : EntersNone (fun s => sampleQuiet { s with quietPin := high }) := fun _ => .of_legs rfl

theorem setPhq_entersNone (high : Bool) : EntersNone (fun s => { s with phq := high }) := fun _ => .of_legs rfl

theorem setPrq_entersNone (high : Bool) : EntersNone (fun s => { s with prq := high }) := fun _ => .of_legs rfl

theorem checkConflict_entersNone (l : LegId) (before : Lamps LampRec) : EntersNone (checkConflict l before) := by
  intro s; unfold checkConflict
  exact .ite (((setFlag_touches _).entersNone rfl s).after (flashFrom_entersNone .conflict)) (.refl s)

theorem mismatchDone_entersNone (l : LegId) (i : LampId) : EntersNone (mismatchDone l i) := by
  intro s; unfold mismatchDone; extract_lets red s1
  have h1 : NoEntry s s1 := .of_legs rfl
  exact .ite (h1.after (flashFrom_entersNone .lamp)) h1

/-- The tick steps the counts of a leg record and leaves its state. -/
theorem legState_tick (s : State) (l : LegId) : legState (tick s) l = legState s l := by
  have h : (tick s).legs = s.legs.map tickLeg := rfl
  simp [legState, h, tickLeg]

theorem tick_entersNone : EntersNone tick := fun s l => by rw [legState_tick]; exact .refl _

/-! ### The maintenance port -/

theorem runResume_entersNone : EntersNone (fun s => (runResume s).1) := by
  intro s; dsimp only; unfold runResume
  split
  · exact .refl s
  · split
    · exact .refl s
    · split
      · exact .refl s
      · exact takeResume_entersNone s

theorem runCommand_entersNone (c : PortCommand) (ops : List Byte) : EntersNone (fun s => (runCommand c ops s).1) := by
  intro s
  cases c with
  | stat | leg | tread | holders | cnts => exact .refl s
  | fclr | quiet => exact (updPort_touches _).entersNone rfl s
  | call => exact press_entersNone _ .a _ s
  | hold => exact changeSources_entersNone _ s
  | flash => exact flashFrom_entersNone .command s
  | resume => exact runResume_entersNone s
  | isol => exact reportIsolation_entersNone .command s
  | join => exact takeJoin_touches.entersNone rfl s
  | rstrt => exact (startBlocks_entersNone s).frame stopWords_touches rfl

theorem putReply_touches (st : ReplyStatus) (code : Byte) (content : List Byte) : Touches [.port] (putReply st code content) :=
  updPort_touches _

theorem takeCommand_entersNone (c : PortCommand) (ops : List Byte) : EntersNone (takeCommand c ops) := by
  intro s; unfold takeCommand
  split
  · exact (putReply_touches _ _ _).entersNone rfl s
  · exact (runCommand_entersNone c ops s).frame (putReply_touches _ _ _) rfl

theorem takeRstrt_entersNone (w : RstrtWrite) : EntersNone (takeRstrt w) := by
  intro s; unfold takeRstrt
  exact ((pinAtRestart_touches w).entersNone rfl s).after (takeCommand_entersNone .rstrt w.bytes)

/-! ### The two all-red expiries (R9, R11) -/

/-- The walk starts: the leg enters WALK, and no leg goes anywhere else. -/
theorem legState_startWalk (l m : LegId) (s : State) : legState (startWalk l s) m = if m = l then .walk else legState s m := by
  unfold startWalk; extract_lets c aid len s1 s2
  have h2 : s2.legs = s1.legs := rfl
  have hp : (changePattern l .walk s2).legs = s2.legs := changePattern_touches l .walk s2 .legs (by decide)
  have hc : (cutBeep l .b (cutBeep l .a s2)).legs = s2.legs :=
    ((cutBeep_touches l .b).comp (cutBeep_touches l .a)) s2 .legs (by decide)
  have hs : legState s1 m = if m = l then .walk else legState s m := legState_updLeg l m _ s
  rw [← hs]
  split
  · rw [legState, hp, h2, legState]
  · rw [legState, hc, h2, legState]

/-- No leg enters vehicle green at an ALL_RED_IN expiry. -/
theorem allRedInDone_green (l m : LegId) (s : State) (h : greenShown (legState (allRedInDone l s) m) = true) :
    greenShown (legState s m) = true := by
  unfold allRedInDone at h
  split at h
  · rw [legState_startWalk] at h
    split at h
    · cases h
    · exact h
  · exact (skipWalk_entersNone l s m).1 h

/-- At an ALL_RED_OUT expiry the other leg enters nothing. -/
theorem allRedOutDone_other {l m : LegId} (hm : m ≠ l) (s : State) : (legState s m).NoEntry (legState (allRedOutDone l s) m) := by
  unfold allRedOutDone; extract_lets g s1
  have h1 : legState s1 m = legState s m := by rw [legState_updLeg, if_neg hm]
  rw [← h1]
  exact NoEntry.ite (reportEligible_entersNone l s1) (.refl s1) m

/-- An expiry leaves the state as it is, or is due and has its effect. -/
theorem expiry_cases (due : Bool) (f : State → State) (s : State) :
    expiry due f s = s ∨ (due = true ∧ expiry due f s = settle (f s)) := by
  cases hr : s.resetHeld
  · cases due
    · exact .inl (expiry_not_due rfl f)
    · exact .inr ⟨rfl, expiry_due hr rfl f⟩
  · exact .inl (expiry_held hr due f)

theorem legState_settle (s : State) (l : LegId) : legState (settle s) l = legState s l := by
  rw [legState, settle_touches s .legs (by decide), legState]

theorem allRedInExpiry_green {s t : State} {l m : LegId} (h : exec (.allRedInExpiry m) s = .next t)
    (hg : greenShown (legState t l) = true) : greenShown (legState s l) = true := by
  cases h
  rcases expiry_cases (intervalDone s m .allRedIn) (allRedInDone m) s with he | ⟨-, he⟩ <;> rw [he] at hg
  · exact hg
  · rw [legState_settle] at hg
    exact allRedInDone_green m l s hg

theorem allRedOutExpiry_green {s t : State} {l m : LegId} (h : exec (.allRedOutExpiry m) s = .next t)
    (hg : greenShown (legState t l) = true) (hs : ¬greenShown (legState s l) = true) : legState s l = .allRedOut := by
  cases h
  rcases expiry_cases (intervalDone s m .allRedOut) (allRedOutDone m) s with he | ⟨hdue, he⟩ <;> rw [he] at hg
  · exact absurd hg hs
  · rw [legState_settle] at hg
    by_cases hl : l = m
    · subst hl
      simp only [intervalDone, Bool.and_eq_true, decide_eq_true_eq] at hdue
      exact hdue.1
    · exact absurd ((allRedOutDone_other hl s).1 hg) hs

/-! ### Every command -/

theorem NoEntry.of_next {s t u : State} (h : (.next u : Outcome) = .next t) (hu : NoEntry s u) : NoEntry s t := by
  cases h; exact hu

/-- Vehicle green and WALK are entered at the two all-red expiries alone (R9, R11). -/
theorem exec_noEntry {c : Instr} {s t : State} (h : exec c s = .next t) (hin : ∀ l, c ≠ .allRedInExpiry l)
    (hout : ∀ l, c ≠ .allRedOutExpiry l) : NoEntry s t := by
  cases c with
  | allRedInExpiry l => exact absurd rfl (hin l)
  | allRedOutExpiry l => exact absurd rfl (hout l)
  -- START and the station modes
  | start straps phq prq quiet => exact .of_next h (startNow_entersNone straps phq prq quiet s)
  | resetPinAssert => exact .of_next h (holdReset_entersNone s)
  | configurationRead bytes => exact .of_next h (eventIf_entersNone _ (configRead_entersNone bytes) s)
  | joinExpiry => exact .of_next h (expiry_entersNone _ (joinDone_touches.entersNone rfl) s)
  -- buttons
  | pressDeclared l k => exact .of_next h (eventIf_entersNone _ ((declarePress_touches l k).entersNone rfl) s)
  | releaseDeclared l k => exact .of_next h (eventIf_entersNone _ (declareRelease_entersNone l k) s)
  | aidClassification l k => exact .of_next h (expiry_entersNone _ (classifyAid_entersNone l k) s)
  | stuck l k => exact .of_next h (expiry_entersNone _ ((markStuck_touches l k).entersNone rfl) s)
  | buttonSample l k high => exact .of_next h (eventIf_entersNone _ (sampleButton_entersNone l k high) s)
  -- the legs
  | blinkExpiry l => exact .of_next h (expiry_entersNone _ ((updCall_touches l _).entersNone rfl) s)
  | flashCountdownExpiry l => exact .of_next h (expiry_entersNone _ (flashDone_entersNone l) s)
  | minGreenExpiry l => exact .of_next h (expiry_entersNone _ (minGreenDone_entersNone l) s)
  | startNear l => exact .of_next h (expiry_entersNone _ (amberEntry_entersNone l) s)
  | amberExpiry l => exact .of_next h (expiry_entersNone _ (amberDone_entersNone l) s)
  | walkExpiry l => exact .of_next h (expiry_entersNone _ (enterClearance_entersNone l) s)
  | clearanceExpiry l => exact .of_next h (expiry_entersNone _ (clearanceDone_entersNone l) s)
  -- the Slot Engine
  | slotEndInExpiry l => exact .of_next h (expiry_entersNone _ ((removeSlot_touches l).entersNone rfl) s)
  | contestExpiry l => exact .of_next h (expiry_entersNone _ (contestWon_entersNone l) s)
  -- the street line
  | transmissionStart => exact .of_next h (eventIf_entersNone _ ((takeHead_touches 4).entersNone rfl) s)
  | arbitrationLoss => exact .of_next h (eventIf_entersNone _ (loseArbitration_touches.entersNone rfl) s)
  | collisionError => exact .of_next h (eventIf_entersNone _ collide_entersNone s)
  | ownFrameCompleted => exact .of_next h (eventIf_entersNone _ (completeFrame_touches.entersNone rfl) s)
  | bidCompleted => exact .of_next h (completeFor_entersNone _ bidReported_entersNone s)
  | keepCompleted => exact .of_next h (completeFor_entersNone _ (fun l => ((updSlot_touches l _).entersNone rfl)) s)
  | cedeCompleted =>
    exact .of_next h (completeFor_entersNone _ (fun l s => .ite ((enqueueLeg_touches l .bid).entersNone rfl s) (.refl s)) s)
  | beaconCountdownExpiry => exact .of_next h (expiry_entersNone _ (startBeacon_touches.entersNone rfl) s)
  | lineFault => exact .of_next h (event_entersNone takeLineFault_entersNone s)
  | lineClear => exact .of_next h (event_entersNone (takeLineClear_touches.entersNone rfl) s)
  | brokenFrame => exact .of_next h (event_entersNone (atFrameEnd_entersNone (countFormat_touches.entersNone rfl)) s)
  | startPulse recessive dominant => exact .of_next h (event_entersNone (judgePulse_entersNone recessive dominant) s)
  -- received frames
  | invalidFrameReceived bits => exact .of_next h (event_entersNone (takeBits_entersNone bits) s)
  | duplicateFrameReceived f => exact .of_next h (event_entersNone (takeFrame_entersNone f) s)
  | beaconReceived f | bidReceived f | keepReceived f | cedeReceived f | clearwayReceived f | clearEndReceived f =>
    exact .of_next h (event_entersNone (takeFrame_entersNone _) s)
  -- the Crossing Table
  | heardExpiry st => exact .of_next h (expiry_entersNone _ ((removeStation_touches st.toNat).entersNone rfl) s)
  | tableSlotExpiry st l => exact .of_next h (expiry_entersNone _ (clearForeign_entersNone st.toNat l) s)
  -- sound and ambient
  | burstDue l k => exact .of_next h (eventIf_entersNone _ ((burstNow_touches l k).entersNone rfl) s)
  | soundingExpiry l k => exact .of_next h (eventIf_entersNone _ (fun s => (elapse_touches _).entersNone rfl s) s)
  | beepEnd l k =>
    exact .of_next h (eventIf_entersNone _
      (fun s => ((elapse_touches _).entersNone rfl s).frame (updKerb_touches l k _) rfl) s)
  | envelopeStep l k => exact .of_next h (expiry_entersNone _ (fun s => (updKerb_touches l k _).entersNone rfl s) s)
  | ambientWord l k v => exact .of_next h (eventIf_entersNone _ ((updAmbient_touches l k _).entersNone rfl) s)
  | stalenessExpiry l k =>
    exact .of_next h (expiry_entersNone _
      (fun s => ((updAmbient_touches l k _).entersNone rfl s).frame (setFlag_touches _) rfl) s)
  | quietInputChange high => exact .of_next h (eventIf_entersNone _ (readQuiet_entersNone high) s)
  -- holds
  | phqRise => exact .of_next h (.ite (.refl s) (pinChange_entersNone (setPhq_entersNone true) holdRequested_entersNone s))
  | phqFall => exact .of_next h (.ite (pinChange_entersNone (setPhq_entersNone false) holdLowered_entersNone s) (.refl s))
  | prqRise => exact .of_next h (.ite (.refl s) (pinChange_entersNone (setPrq_entersNone true) releaseRaised_entersNone s))
  | prqFall =>
    exact .of_next h (.ite (pinChange_entersNone (setPrq_entersNone false) ((updHold_touches _).entersNone rfl) s) (.refl s))
  | clearwayRepeatExpiry =>
    exact .of_next h (expiry_entersNone _
      (fun s => ((enqueueClear_touches .clearway).entersNone rfl s).frame (updHold_touches _) rfl) s)
  | refreshExpiry st => exact .of_next h (expiry_entersNone _ (refreshDone_entersNone st.toNat) s)
  -- lamps
  | lampReadbackChange l i on =>
    exact .of_next h (pinChange_entersNone ((updLamp_touches l i _).entersNone rfl) (checkConflict_entersNone l _) s)
  | mismatchExpiry l i => exact .of_next h (expiry_entersNone _ (mismatchDone_entersNone l i) s)
  -- the maintenance port
  | stat ops | leg ops | tread ops | holders ops | cnts ops | fclr ops | call ops | hold ops | quiet ops | flash ops | resume ops
  | isol ops | join ops => exact .of_next h (event_entersNone (takeCommand_entersNone _ ops) s)
  | rstrt w => exact .of_next h (event_entersNone (takeRstrt_entersNone w) s)
  | unknownCommand code ops =>
    cases hc : commandOf code <;> simp only [exec, execUnknownCommand, hc] at h
    case none => exact .of_next h (event_entersNone ((putReply_touches _ _ _).entersNone rfl) s)
    case some c => exact .of_next h (event_entersNone (takeCommand_entersNone c ops) s)
  -- the tick
  | decisecondTick => exact .of_next h (event_entersNone tick_entersNone s)

/-- A leg that enters vehicle green leaves ALL_RED_OUT (R11). -/
theorem green_entered_from_allRedOut {c : Instr} {s t : State} {l : LegId} (h : exec c s = .next t)
    (hg : greenShown (legState t l) = true) (hs : ¬greenShown (legState s l) = true) : legState s l = .allRedOut := by
  cases c with
  | allRedInExpiry m => exact absurd (allRedInExpiry_green h hg) hs
  | allRedOutExpiry m => exact allRedOutExpiry_green h hg hs
  | _ => exact absurd ((exec_noEntry h nofun nofun l).1 hg) hs

/-- Settles O41: the table lamp by lamp, and the commands that can enter vehicle green. -/
theorem lampCommandsFollowTheTable : Obligations.LampCommandsFollowTheTable := by
  unfold Obligations.LampCommandsFollowTheTable
  intro l s
  dsimp only
  simp only [← greenShown_iff]
  refine ⟨fun hu => ?_, fun i hu => lampOn_not_inUse hu i, not_green_and_walk s l,
    fun c t h hg hs => green_entered_from_allRedOut h hg hs, mismatched_iff s l⟩
  simp only [lampOn_inUse hu]
  exact ⟨lampOfState_red _, lampOfState_amber _, by rw [lampOfState_green]; rfl, lampOfState_walk _, lampOfState_dontWalk _⟩

end Sys2Proof.Machine
end

section
/-! The preempt lines (R145 to R150): what a change of the hold sources, the clearway sending and a release do to the Hold Unit, to the
clearway request and to the legs in HELD; from these, the four events of PHQ and PRQ. -/

namespace Sys2Proof.Machine

/-! ### What every event settles on the Hold Unit (R146) -/

theorem inUse_congr {s t : State} (hc : t.cfg = s.cfg) (l : LegId) : inUse t l = inUse s l := by rw [inUse, hc, inUse]

theorem holdAnswered_settle (s : State) : holdAnswered (settle s) = holdAnswered s := by
  have hmode : (settle s).mode = s.mode := settle_touches s .mode (by decide)
  have hcfg : (settle s).cfg = s.cfg := settle_touches s .cfg (by decide)
  simp only [holdAnswered, hmode, inUse_congr hcfg, legState_settle]

theorem settle_hold (s : State) :
    (settle s).hold =
      if s.hold.side = .waiting ∧ holdAnswered s = true then { s.hold with side := .acknowledged, pha := true } else s.hold := by
  have hp : (settle s).hold = (testHoldSide s).hold := proveLamps_touches (testHoldSide s) .hold (by decide)
  rw [hp, testHoldSide]
  split <;> rfl

/-- Where no request waits the Hold Unit stays as it is. -/
theorem settle_hold_of_not_waiting {s : State} (h : s.hold.side ≠ .waiting) : (settle s).hold = s.hold := by
  rw [settle_hold, if_neg (fun hw => h hw.1)]

theorem settle_hold_of_waiting {s : State} (h : s.hold.side = .waiting) :
    (settle s).hold = if holdAnswered s = true then { s.hold with side := .acknowledged, pha := true } else s.hold := by
  rw [settle_hold]; simp only [h, true_and]

/-- Settling answers a waiting request and does nothing else to the Hold Unit. -/
theorem settle_hold_eq (s : State) :
    (settle s).hold = { s.hold with side := (settle s).hold.side, pha := (settle s).hold.pha } := by
  rw [settle_hold]; split <;> rfl

theorem held_settle (s : State) : held (settle s) = held s := by rw [held, settle_hold_eq, held]

theorem settle_line (s : State) : (settle s).line = s.line := settle_touches s .line (by decide)

/-! ### A change of the hold sources (R143) -/

theorem reportHold_hold (s : State) : (reportHold s).hold = s.hold := reportHold_touches s .hold (by decide)

theorem reportHoldEnded_hold (s : State) : (reportHoldEnded s).hold = s.hold := reportHoldEnded_touches s .hold (by decide)

/-- The reports of R143 go to the legs: the Hold Unit itself takes the change and nothing else. -/
theorem changeSources_hold (f : Hold → Hold) (s : State) : (changeSources f s).hold = f s.hold := by
  unfold changeSources; extract_lets t
  split
  · exact reportHold_hold t
  · split
    · exact reportHoldEnded_hold t
    · rfl

/-- A change that leaves the source set empty, or non-empty, reports nothing. -/
theorem changeSources_silent {f : Hold → Hold} {s : State} (h : held (updHold f s) = held s) : changeSources f s = updHold f s := by
  unfold changeSources; dsimp only; rw [h]; cases held s <;> rfl

theorem changeSources_ended {f : Hold → Hold} {s : State} (hs : held s = true) (ht : held (updHold f s) = false) :
    changeSources f s = reportHoldEnded (updHold f s) := by
  simp [changeSources, hs, ht]

/-! ### The end of a hold on the legs (R16) -/

/-- Outside ISOLATED a leg that reports itself eligible stays in CALLED: its BID request waits in the queue. -/
theorem reportEligible_legState {s : State} (hm : s.mode ≠ .isolated) (l m : LegId) :
    legState (reportEligible l s) m = legState s m := by
  rw [reportEligible, if_neg hm, legState, enqueueLeg_touches l .bid s .legs (by decide), legState]

theorem unholdLeg_legState_self {s : State} {l : LegId} (hm : s.mode ≠ .isolated) (h : legState s l = .held) :
    legState (unholdLeg l s) l = if (callOf s l).isSome then .called else .rest := by
  rw [unholdLeg, if_pos h]
  split
  · exact (reportEligible_legState (s := updLeg l _ s) hm l l).trans (by rw [legState_updLeg, if_pos rfl])
  · rw [legState_updLeg, if_pos rfl]

theorem unholdLeg_legState_other {s : State} {l m : LegId} (hm : s.mode ≠ .isolated) (hne : m ≠ l) :
    legState (unholdLeg l s) m = legState s m := by
  have hu (f : LegRec → LegRec) : legState (updLeg l f s) m = legState s m := by rw [legState_updLeg, if_neg hne]
  unfold unholdLeg
  split
  · split
    · exact (reportEligible_legState (s := updLeg l _ s) hm l m).trans (hu _)
    · exact hu _
  · rfl

/-- Outside ISOLATED no leg is placed at the end of a hold, and leg 0 takes the report first. -/
theorem reportHoldEnded_eq {s : State} (hm : s.mode ≠ .isolated) : reportHoldEnded s = forLegs bothLegs unholdLeg s := by
  simp [reportHoldEnded, placementOrder, hm]

theorem reportHoldEnded_legState {s : State} {l : LegId} (hm : s.mode ≠ .isolated) (hu : inUse s l = true)
    (hh : legState s l = .held) : legState (reportHoldEnded s) l = if (callOf s l).isSome then .called else .rest := by
  rw [reportHoldEnded_eq hm]
  let first := if inUse s .leg0 then unholdLeg .leg0 s else s
  have hfirst : ChangesOnly [.legs, .slots, .line, .port] s first := .ite (unholdLeg_touches .leg0 s) (.refl _ s)
  have hmode : first.mode ≠ .isolated := by rw [hfirst .mode (by decide)]; exact hm
  change legState (if inUse first .leg1 then unholdLeg .leg1 first else first) l = _
  cases l with
  | leg0 =>
    have h0 : legState first .leg0 = if (callOf s .leg0).isSome then .called else .rest := by
      simp only [first, if_pos hu]; exact unholdLeg_legState_self hm hh
    rw [← h0]
    split
    · exact unholdLeg_legState_other hmode (by decide)
    · rfl
  | leg1 =>
    have huse : inUse first .leg1 = true := (inUse_congr (hfirst .cfg (by decide)) _).trans hu
    have hcall : callOf first .leg1 = callOf s .leg1 := by rw [callOf, hfirst .calls (by decide), callOf]
    have hheld : legState first .leg1 = .held := by
      simp only [first]; split
      · exact (unholdLeg_legState_other hm (by decide)).trans hh
      · exact hh
    rw [if_pos huse, unholdLeg_legState_self hmode hheld, hcall]

/-! ### The clearway request and the clearway sending (R149, R150) -/

theorem acceptsAny_congr {s t : State} (hm : t.mode = s.mode) (hc : t.cfg = s.cfg) : acceptsAny t = acceptsAny s := by
  simp only [acceptsAny, hm, hc]

theorem conf_congr {s t : State} (hc : t.cfg = s.cfg) : conf t = conf s := by rw [conf, hc, conf]

theorem enqueueClear_hold (k : ClearReq) (s : State) : (enqueueClear k s).hold = s.hold := enqueueClear_touches k s .hold (by decide)

theorem enqueueClear_clear {s : State} (h : acceptsAny s = true) (k : ClearReq) :
    (enqueueClear k s).line.queue.clear = some (newEntry s k) := by
  rw [enqueueClear, if_pos h]; rfl

theorem startClearway_hold (s : State) :
    (startClearway s).hold = if sendsClearway s then { s.hold with clearway := .load 20 } else s.hold := by
  unfold startClearway
  split
  · rw [updHold_hold, enqueueClear_hold]
  · rfl

theorem startClearway_clear {s : State} (h : sendsClearway s = true) :
    (startClearway s).line.queue.clear = some (newEntry s .clearway) := by
  have ha : acceptsAny s = true := by simp only [sendsClearway, Bool.and_eq_true] at h; exact h.2
  rw [startClearway, if_pos h, updHold_line, enqueueClear_clear ha]

theorem endClearway_hold (s : State) : (endClearway s).hold = { s.hold with clearway := .stopped } := by
  unfold endClearway; dsimp only
  split
  · rw [enqueueClear_hold, updHold_hold]
  · rfl

theorem endClearway_clear {s : State} (hr : 0 < (conf s).clearwayRange) (ha : acceptsAny s = true) :
    (endClearway s).line.queue.clear = some (newEntry s .clearEnd) := by
  unfold endClearway; dsimp only
  rw [conf_updHold, if_pos hr]
  exact enqueueClear_clear (s := updHold _ s) ha .clearEnd

/-! ### A hold request (R145) -/

/-- The Hold Unit with PREEMPT among its sources and the hold side waiting. -/
def Hold.request (h : Hold) : Hold := { h with preempt := true, side := .waiting }

/-- The state in which a hold request that adds PREEMPT starts the clearway sending. -/
def requestPlaced (s : State) : State :=
  updHold (fun h => { h with side := .waiting }) (changeSources (fun h => { h with preempt := true }) s)

theorem holdRequested_eq (s : State) :
    holdRequested s = if s.hold.preempt then requestPlaced s else startClearway (requestPlaced s) := by
  cases h : s.hold.preempt <;> simp [holdRequested, requestPlaced, h]

theorem requestPlaced_touches : Touches holdParts requestPlaced :=
  ((updHold_touches _).mono (by decide)).comp (changeSources_touches _)

theorem requestPlaced_hold (s : State) : (requestPlaced s).hold = s.hold.request := by
  rw [requestPlaced, updHold_hold, changeSources_hold]; rfl

theorem holdRequested_hold (s : State) :
    ∃ c, (holdRequested s).hold = { s.hold.request with clearway := c } := by
  rw [holdRequested_eq]
  split
  · exact ⟨s.hold.clearway, requestPlaced_hold s⟩
  · rw [startClearway_hold, requestPlaced_hold]
    split
    · exact ⟨.load 20, rfl⟩
    · exact ⟨s.hold.clearway, rfl⟩

/-- A request that adds PREEMPT starts the clearway sending where CLEARWAY frames may be sent (R149). -/
theorem holdRequested_starts {s : State} (hp : s.hold.preempt = false) (ha : acceptsAny s = true)
    (hr : 0 < (conf s).clearwayRange) :
    (holdRequested s).hold.clearway = .load 20 ∧
      (holdRequested s).line.queue.clear = some { kind := .clearway, stamp := s.clock, sending := false } := by
  have hkeep := requestPlaced_touches s
  have hsend : sendsClearway (requestPlaced s) = true := by
    simp only [sendsClearway, requestPlaced_hold, Hold.request, conf_congr (hkeep .cfg (by decide)),
      acceptsAny_congr (hkeep .mode (by decide)) (hkeep .cfg (by decide)), ha, hr, decide_true, Bool.and_self]
  rw [holdRequested_eq, hp, if_neg Bool.false_ne_true, startClearway_hold, if_pos hsend, startClearway_clear hsend, newEntry,
    hkeep .clock (by decide)]
  exact ⟨rfl, rfl⟩

/-- A request beside a PREEMPT that is there already touches neither the clearway sending nor the line. -/
theorem holdRequested_present {s : State} (hp : s.hold.preempt = true) : holdRequested s = updHold Hold.request s := by
  have hheld : held (updHold (fun h => { h with preempt := true }) s) = held s := by simp [held, hp]
  rw [holdRequested_eq, if_pos hp, requestPlaced, changeSources_silent hheld]; rfl

/-! ### A release (R147, R148) -/

/-- The state in which a release that removes PREEMPT ends the clearway sending. -/
def preemptRemoved (s : State) : State := changeSources (fun h => { h with preempt := false }) s

theorem releaseTaken_eq (s : State) :
    releaseTaken s =
      updHold (fun h => { h with pra := true, release := .acknowledged })
        (if s.hold.preempt then endClearway (preemptRemoved s) else preemptRemoved s) := rfl

theorem preemptRemoved_hold (s : State) : (preemptRemoved s).hold = { s.hold with preempt := false } := changeSources_hold _ s

theorem preemptRemoved_touches : Touches holdParts preemptRemoved := changeSources_touches _

theorem releaseTaken_hold (s : State) :
    (releaseTaken s).hold =
      { s.hold with preempt := false, pra := true, release := .acknowledged,
                    clearway := if s.hold.preempt then .stopped else s.hold.clearway } := by
  rw [releaseTaken_eq, updHold_hold]
  split
  · rw [endClearway_hold, preemptRemoved_hold]
  · rw [preemptRemoved_hold]

theorem releaseTaken_clear {s : State} (hp : s.hold.preempt = true) (hr : 0 < (conf s).clearwayRange)
    (ha : acceptsAny s = true) :
    (releaseTaken s).line.queue.clear = some { kind := .clearEnd, stamp := s.clock, sending := false } := by
  have hkeep := preemptRemoved_touches s
  have hr' : 0 < (conf (preemptRemoved s)).clearwayRange := by rw [conf_congr (hkeep .cfg (by decide))]; exact hr
  have ha' : acceptsAny (preemptRemoved s) = true := by
    rw [acceptsAny_congr (hkeep .mode (by decide)) (hkeep .cfg (by decide))]; exact ha
  rw [releaseTaken_eq, updHold_line, if_pos hp, endClearway_clear hr' ha', newEntry, hkeep .clock (by decide)]

/-- The legs of a release are those that its change of the sources leaves. -/
theorem releaseTaken_legState (s : State) (l : LegId) : legState (releaseTaken s) l = legState (preemptRemoved s) l := by
  rw [releaseTaken_eq, legState_updHold]
  split
  · rw [legState, endClearway_touches _ .legs (by decide), legState]
  · rfl

/-- A release that leaves no source lets each leg go from HELD (R16). -/
theorem releaseTaken_unholds {s : State} {l : LegId} (hs : held s = true) (ht : held (releaseTaken s) = false)
    (hm : s.mode ≠ .isolated) (hu : inUse s l = true) (hh : legState s l = .held) :
    legState (releaseTaken s) l = if (callOf s l).isSome then .called else .rest := by
  have hend : held (updHold (fun h => { h with preempt := false }) s) = false := by
    rw [held, releaseTaken_hold] at ht; exact ht
  rw [releaseTaken_legState, preemptRemoved, changeSources_ended hs hend]
  exact reportHoldEnded_legState hm hu hh

/-- What a release that was asked for in s leaves in t: PREEMPT gone and PRA raised, the clearway ended with a CLEAR_END, and the
legs let go where no source is left. -/
def Released (s t : State) : Prop :=
  t.hold.preempt = false ∧ t.hold.pra = true ∧ t.hold.release = .acknowledged ∧ t.hold.street = s.hold.street ∧
  t.hold.maint = s.hold.maint ∧
  (s.hold.preempt = true → t.hold.clearway = { running := false, count := 0 }) ∧
  (s.hold.preempt = true → 0 < (conf s).clearwayRange → acceptsAny s = true →
    t.line.queue.clear = some { kind := .clearEnd, stamp := s.clock + 1, sending := false }) ∧
  (held s = true → held t = false → s.mode ≠ .isolated → ∀ l, inUse s l = true → legState s l = .held →
    legState t l = if (callOf s l).isSome then .called else .rest)

theorem releaseTaken_released (s : State) : Released s (settle (releaseTaken (later s))) := by
  have hhold := settle_hold_eq (releaseTaken (later s))
  rw [releaseTaken_hold, later_hold] at hhold
  refine ⟨by rw [hhold], by rw [hhold], by rw [hhold], by rw [hhold], by rw [hhold], fun hp => ?_, fun hp hr ha => ?_,
    fun hs ht hm l hu hh => ?_⟩
  · rw [hhold]; exact if_pos hp
  · rw [settle_line]; exact releaseTaken_clear (s := later s) hp hr ha
  · rw [held_settle] at ht
    rw [legState_settle]
    exact releaseTaken_unholds (s := later s) hs ht hm hu hh

/-! ### The four events of the lines -/

theorem phqRise_next {s : State} (hr : s.resetHeld = false) (h : s.phq = false) :
    exec .phqRise s = .next (settle (holdRequested (later { s with phq := true }))) := by
  rw [show exec .phqRise s = execPhqRise s from rfl, execPhqRise, h, if_neg Bool.false_ne_true, pinChange_live hr _ _ rfl]

theorem phqFall_next {s : State} (hr : s.resetHeld = false) (h : s.phq = true) :
    exec .phqFall s = .next (settle (holdLowered (later { s with phq := false }))) := by
  rw [show exec .phqFall s = execPhqFall s from rfl, execPhqFall, if_pos h, pinChange_live hr _ _ rfl]

theorem prqRise_next {s : State} (hr : s.resetHeld = false) (h : s.prq = false) :
    exec .prqRise s = .next (settle (releaseRaised (later { s with prq := true }))) := by
  rw [show exec .prqRise s = execPrqRise s from rfl, execPrqRise, h, if_neg Bool.false_ne_true, pinChange_live hr _ _ rfl]

theorem prqFall_next {s : State} (hr : s.resetHeld = false) (h : s.prq = true) :
    exec .prqFall s = .next (settle (releaseLowered (later { s with prq := false }))) := by
  rw [show exec .prqFall s = execPrqFall s from rfl, execPrqFall, if_pos h, pinChange_live hr _ _ rfl]

/-- Once it is settled, a request that waits is acknowledged exactly where the legs answer it (R146). -/
theorem settle_answers {s : State} (h : s.hold.side = .waiting) :
    (settle s).hold.side = (if holdAnswered (settle s) then .acknowledged else .waiting) ∧
    (holdAnswered (settle s) = true → (settle s).hold.pha = true) ∧
    (holdAnswered (settle s) = false → (settle s).hold.pha = s.hold.pha) := by
  rw [holdAnswered_settle, settle_hold_of_waiting h]
  cases holdAnswered s
  · exact ⟨h, nofun, fun _ => rfl⟩
  · exact ⟨rfl, fun _ => rfl, nofun⟩

theorem holdLowered_deferred {s : State} (h : s.hold.release = .deferred) :
    holdLowered s = releaseTaken (updHold (fun h => { h with side := .idle, pha := false }) s) := if_pos h

theorem holdLowered_other {s : State} (h : s.hold.release ≠ .deferred) :
    holdLowered s = updHold (fun h => { h with side := .idle, pha := false }) s := if_neg h

/-- A rise of PRQ while PHQ is high is deferred (R148). -/
theorem releaseRaised_deferred {s : State} (h : s.phq = true) :
    releaseRaised s = updHold (fun h => { h with release := .deferred }) s := if_pos h

theorem releaseRaised_taken {s : State} (h : s.phq = false) : releaseRaised s = releaseTaken s := by
  rw [releaseRaised, h, if_neg Bool.false_ne_true]

/-- A release leaves the hold side as it finds it. -/
theorem releaseTaken_idle {s : State} (hs : s.hold.side = .idle) (hp : s.hold.pha = false) :
    (settle (releaseTaken s)).hold.side = .idle ∧ (settle (releaseTaken s)).hold.pha = false := by
  have hside : (releaseTaken s).hold.side = .idle := by rw [releaseTaken_hold]; exact hs
  rw [settle_hold_of_not_waiting (by rw [hside]; decide), releaseTaken_hold]
  exact ⟨hs, hp⟩

/-- Settles O39: a request that is answered or waits, a release that is taken or deferred, and what each leaves. -/
theorem preemptLines : Obligations.PreemptLines := by
  unfold Obligations.PreemptLines
  intro released s hr
  refine ⟨fun h => ?requested, fun h hd => ?lowered, fun h hd => ?deferredTaken, fun h hq => ?deferred, fun h hq => ?taken,
    fun h => ?dropped⟩
  case requested =>
    let up := later { s with phq := true }
    have hup : ChangesOnly holdParts up (holdRequested up) := holdRequested_touches up
    obtain ⟨c, hhold⟩ := holdRequested_hold up
    obtain ⟨hside, hpha, hlow⟩ := settle_answers (s := holdRequested up) (by rw [hhold]; rfl)
    have hset := settle_hold_eq (holdRequested up)
    refine ⟨_, phqRise_next hr h, ?_, by rw [hset, hhold]; rfl, hside, hpha, fun h0 hn => ?_, fun hp ha hrange => ?_, fun hp => ?_,
      by rw [hset, hhold]; rfl, by rw [hset, hhold]; rfl, by rw [hset, hhold]; rfl⟩
    · exact (settle_touches _ .phq (by decide)).trans (hup .phq (by decide))
    · rw [hlow hn, hhold]; exact h0
    · rw [hset, settle_line]; exact holdRequested_starts (s := up) hp ha hrange
    · rw [hset, settle_line, holdRequested_present (s := up) hp]; exact ⟨rfl, rfl⟩
  case lowered => rw [phqFall_next hr h, holdLowered_other (s := later { s with phq := false }) hd]; rfl
  case deferredTaken =>
    let low := updHold (fun h => { h with side := .idle, pha := false }) { s with phq := false }
    have hnext : exec .phqFall s = .next (settle (releaseTaken (later low))) := by
      rw [phqFall_next hr h, holdLowered_deferred (s := later { s with phq := false }) hd]; rfl
    obtain ⟨hside, hpha⟩ := releaseTaken_idle (s := later low) rfl rfl
    exact ⟨_, hnext, (settle_touches _ .phq (by decide)).trans (releaseTaken_touches (later low) .phq (by decide)), hside, hpha,
      releaseTaken_released low⟩
  case deferred => rw [prqRise_next hr h, releaseRaised_deferred (s := later { s with prq := true }) hq]; rfl
  case taken =>
    let up : State := { s with prq := true }
    have hnext : exec .prqRise s = .next (settle (releaseTaken (later up))) := by
      rw [prqRise_next hr h, releaseRaised_taken (s := later up) hq]
    exact ⟨_, hnext, (settle_touches _ .prq (by decide)).trans (releaseTaken_touches (later up) .prq (by decide)),
      releaseTaken_released up⟩
  case dropped => rw [prqFall_next hr h]; rfl

end Sys2Proof.Machine
end

section
/-! The event flags at the maintenance port (R184 to R186): which bits a mask clears, when SRQ stands, and what a taken FCLR leaves in
the port. -/

namespace Sys2Proof.Machine

/-! ### The flags bit by bit -/

theorem flagBit_getLsbD_self (f : Flag) : (flagBit f).getLsbD (flagNumber f) = true := by cases f <;> rfl

/-- A condition detected again sets its flag, whatever was cleared before (R184). -/
theorem flagSet_setFlag_self (f : Flag) (s : State) : flagSet (setFlag f s) f = true := by
  rw [flagSet, setFlag, updPort_port, BitVec.getLsbD_or, flagBit_getLsbD_self, Bool.or_true]

/-- The flags that a mask leaves (R185). -/
def unmasked (mask : Nat) (flags : BitVec 14) : BitVec 14 := flags &&& ~~~(BitVec.ofNat 14 mask)

theorem unmasked_getLsbD (mask : Nat) (flags : BitVec 14) {n : Nat} (hn : n < 14) :
    (unmasked mask flags).getLsbD n = (flags.getLsbD n && !mask.testBit n) := by
  rw [unmasked, BitVec.getLsbD_and, BitVec.getLsbD_not, BitVec.getLsbD_ofNat]; simp [hn]

@[simp] theorem unmasked_zero (flags : BitVec 14) : unmasked 0 flags = flags :=
  BitVec.eq_of_getLsbD_eq fun n hn => by rw [unmasked_getLsbD 0 flags hn, Nat.zero_testBit, Bool.not_false, Bool.and_true]

/-! ### SRQ (R186) -/

theorem flags_ne_zero_iff (v : BitVec 14) : v ≠ 0#14 ↔ ∃ n, n < 14 ∧ v.getLsbD n = true := by
  refine ⟨fun hv => ?_, ?_⟩
  · by_contra hnone
    refine hv (BitVec.eq_of_getLsbD_eq fun n hn => ?_)
    rw [BitVec.getLsbD_zero, Bool.eq_false_iff]
    exact fun hset => hnone ⟨n, hn, hset⟩
  · rintro ⟨n, -, hset⟩ rfl
    exact absurd hset (by simp)

/-- SRQ stands where a flag is set that the loaded configuration, if there is one, enables. -/
theorem srq_iff (s : State) :
    srq s = true ↔ ∃ n, n < 14 ∧ s.port.flags.getLsbD n = true ∧ (∀ c, s.cfg = some c → c.enable.getLsbD n = true) := by
  cases hc : s.cfg with
  | none => simp only [srq, hc, decide_eq_true_eq, flags_ne_zero_iff, reduceCtorEq, false_implies, implies_true, and_true]
  | some c =>
    simp only [srq, hc, decide_eq_true_eq, flags_ne_zero_iff, BitVec.getLsbD_and, Bool.and_eq_true, Option.some.injEq, forall_eq']

theorem settle_port (s : State) : (settle s).port = s.port := settle_touches s .port (by decide)

theorem settle_cfg (s : State) : (settle s).cfg = s.cfg := settle_touches s .cfg (by decide)

/-! ### FCLR (R185) -/

/-- A command that passes its checks executes, and its reply takes the buffer (R173). -/
theorem takeCommand_passed {c : PortCommand} {ops : List Byte} (h : commandFault c ops = none) (s : State) :
    takeCommand c ops s =
      putReply (runCommand c ops s).2.1 (commandCode c) (runCommand c ops s).2.2 (runCommand c ops s).1 := by
  rw [takeCommand, h]

/-- A mask of two bytes passes the checks where bits 14 and 15 are clear (R190). -/
theorem commandFault_fclr {hi : Byte} (h : hi.toNat < 64) (lo : Byte) : commandFault .fclr [hi, lo] = none := by
  have hmask : maskOf [hi, lo] < 2 ^ 14 := by
    have hlo := lo.isLt
    change hi.toNat * 256 + lo.toNat < 2 ^ 14
    omega
  have hrange : operandsInRange .fclr [hi, lo] = true := decide_eq_true hmask
  have hlength : [hi, lo].length = operandCount .fclr := rfl
  rw [commandFault, if_neg (not_not.mpr hlength), hrange, if_neg (by decide)]

/-- The port once FCLR has cleared the flags of the mask and replied with those that are left. -/
def Port.cleared (mask : Nat) (p : Port) : Port :=
  { p with flags := unmasked mask p.flags, reply := some (replyBytes .ok 0x10 (wordOf (unmasked mask p.flags).toNat)) }

/-- FCLR changes the port alone. -/
theorem takeCommand_fclr {hi : Byte} (h : hi.toNat < 64) (lo : Byte) (s : State) :
    takeCommand .fclr [hi, lo] s = updPort (Port.cleared (hi.toNat * 256 + lo.toNat)) s := by
  rw [takeCommand_passed (commandFault_fclr h lo)]; rfl

theorem fclr_next {s : State} (hr : s.resetHeld = false) {hi : Byte} (h : hi.toNat < 64) (lo : Byte) :
    exec (.fclr [hi, lo]) s = .next (settle (updPort (Port.cleared (hi.toNat * 256 + lo.toNat)) (later s))) := by
  rw [show exec (.fclr [hi, lo]) s = execFclr [hi, lo] s from rfl, execFclr, event_live hr, takeCommand_fclr h]

/-- Settles O45: the port is the cleared one, and settling the event leaves it as it is. -/
theorem fclrClearsMaskedFlags : Obligations.FclrClearsMaskedFlags := by
  unfold Obligations.FclrClearsMaskedFlags
  intro hi lo s hr hhi
  let mask := hi.toNat * 256 + lo.toNat
  let t := settle (updPort (Port.cleared mask) (later s))
  have hport : t.port = s.port.cleared mask := settle_port _
  have hcfg : t.cfg = s.cfg := settle_cfg _
  refine ⟨t, fclr_next hr hhi lo, fun n hn => ?cleared, ?reply, ?maskZero, fun f => flagSet_setFlag_self f t, ?srq, ?frame⟩
  case cleared => rw [hport]; exact unmasked_getLsbD mask s.port.flags hn
  case reply => rw [hport]; rfl
  case maskZero => rintro rfl rfl; rw [hport]; exact unmasked_zero s.port.flags
  case srq => rw [← hcfg]; exact srq_iff t
  case frame => rw [hport]; rfl

end Sys2Proof.Machine
end

section
/-! What a command does to the part, said once for all commands: its effect, the parts that the effect may change, and the outcome
of `exec` in terms of both. -/

namespace Sys2Proof.Machine

/-! ### The effect of a command -/

/-- The command begins START or holds it by the RESET pin: it acts in every state, and nothing is settled after it. -/
def beginsStart : Instr → Bool
  | .start _ _ _ _ | .resetPinAssert => true
  | _ => false

/-- The command is the expiry of a decisecond count, taken at the instant of the tick that brought it about (log entry 5). -/
def expires : Instr → Bool
  | .joinExpiry | .aidClassification _ _ | .stuck _ _ | .blinkExpiry _ | .flashCountdownExpiry _ | .minGreenExpiry _ | .startNear _
  | .amberExpiry _ | .allRedInExpiry _ | .walkExpiry _ | .clearanceExpiry _ | .allRedOutExpiry _ | .slotEndInExpiry _
  | .contestExpiry _ | .beaconCountdownExpiry | .heardExpiry _ | .tableSlotExpiry _ _ | .envelopeStep _ _ | .stalenessExpiry _ _
  | .clearwayRepeatExpiry | .refreshExpiry _ | .mismatchExpiry _ _ => true
  | _ => false

/-- An own frame about a leg completes and is reported. -/
def completed (leg : Option LegId) (report : LegId → State → State) (s : State) : State :=
  match leg with
  | none => s
  | some l => report l (completeFrame s)

/-- What the command does where it occurs, before the event settles. -/
def effect (c : Instr) (s : State) : State :=
  match c with
  | .start _ _ _ _ | .resetPinAssert => s
  | .configurationRead bytes => configRead bytes s
  | .joinExpiry => joinDone s
  | .pressDeclared l k => declarePress l k s
  | .releaseDeclared l k => declareRelease l k s
  | .aidClassification l k => classifyAid l k s
  | .stuck l k => markStuck l k s
  | .blinkExpiry l => blinkDone l s
  | .flashCountdownExpiry l => flashDone l s
  | .minGreenExpiry l => minGreenDone l s
  | .startNear l => amberEntry l s
  | .amberExpiry l => amberDone l s
  | .allRedInExpiry l => allRedInDone l s
  | .walkExpiry l => enterClearance l s
  | .clearanceExpiry l => clearanceDone l s
  | .allRedOutExpiry l => allRedOutDone l s
  | .slotEndInExpiry l => removeSlot l s
  | .contestExpiry l => contestWon l s
  | .transmissionStart => takeHead 4 s
  | .arbitrationLoss => loseArbitration s
  | .collisionError => collide s
  | .ownFrameCompleted => completeFrame s
  | .bidCompleted => completed (bidInFlight s) bidReported s
  | .keepCompleted => completed (keepInFlight s) keepReported s
  | .cedeCompleted => completed (cedeInFlight s) cedeReported s
  | .beaconCountdownExpiry => startBeacon s
  | .lineFault => takeLineFault s
  | .lineClear => takeLineClear s
  | .brokenFrame => atFrameEnd countFormat s
  | .invalidFrameReceived bits => takeBits bits s
  | .duplicateFrameReceived f => takeFrame f s
  | .beaconReceived f => takeFrame (.beacon f) s
  | .bidReceived f => takeFrame (.bid f) s
  | .keepReceived f => takeFrame (.keep f) s
  | .cedeReceived f => takeFrame (.cede f) s
  | .clearwayReceived f => takeFrame (.clearway f) s
  | .clearEndReceived f => takeFrame (.clearEnd f) s
  | .heardExpiry st => removeStation st.toNat s
  | .tableSlotExpiry st l => clearForeign st.toNat l s
  | .burstDue l k => burstNow l k s
  | .soundingExpiry l k => soundingDone l k s
  | .beepEnd l k => beepDone l k s
  | .envelopeStep l k => envelopeDone l k s
  | .ambientWord l k v => heardAmbient l k v.toNat s
  | .stalenessExpiry l k => staleNow l k s
  | .quietInputChange high => sampleQuiet { s with quietPin := high }
  | .phqRise => holdRequested { s with phq := true }
  | .phqFall => holdLowered { s with phq := false }
  | .prqRise => releaseRaised { s with prq := true }
  | .prqFall => releaseLowered { s with prq := false }
  | .clearwayRepeatExpiry => clearwayDone s
  | .refreshExpiry st => refreshDone st.toNat s
  | .lampReadbackChange l i on => checkConflict l (s.lamps.get l) (setReadback l i on s)
  | .mismatchExpiry l i => mismatchDone l i s
  | .stat ops => takeCommand .stat ops s
  | .leg ops => takeCommand .leg ops s
  | .tread ops => takeCommand .tread ops s
  | .holders ops => takeCommand .holders ops s
  | .cnts ops => takeCommand .cnts ops s
  | .fclr ops => takeCommand .fclr ops s
  | .call ops => takeCommand .call ops s
  | .hold ops => takeCommand .hold ops s
  | .quiet ops => takeCommand .quiet ops s
  | .flash ops => takeCommand .flash ops s
  | .resume ops => takeCommand .resume ops s
  | .isol ops => takeCommand .isol ops s
  | .join ops => takeCommand .join ops s
  | .rstrt w => takeRstrt w s
  | .unknownCommand code ops =>
    match commandOf code with
    | none => putReply .unknown code [] s
    | some c => takeCommand c ops s
  | .buttonSample l k high => sampleButton l k high s
  | .decisecondTick => tick s
  | .startPulse recessive dominant => judgePulse recessive dominant s

/-- The instant at which the command's effect is taken. -/
def atInstant (c : Instr) (s : State) : State := if expires c then s else later s

/-- What a command leaves: its effect at its instant, settled, where it occurs. -/
def outcomeOf (c : Instr) (s : State) : State := if occurs c s then settle (effect c (atInstant c s)) else s

theorem eventIf_eq {s : State} (hr : s.resetHeld = false) (can : Bool) (f : State → State) :
    eventIf can f s = if can then settle (f (later s)) else s := by
  cases can
  · rfl
  · exact eventIf_true hr rfl f

theorem expiry_eq {s : State} (hr : s.resetHeld = false) (due : Bool) (f : State → State) :
    expiry due f s = if due then settle (f s) else s := by
  cases due
  · exact expiry_not_due rfl f
  · exact expiry_due hr rfl f

theorem completeFor_eq {s : State} (hr : s.resetHeld = false) (o : Option LegId) (f : LegId → State → State) :
    completeFor o f s = if o.isSome then settle (completed o f (later s)) else s := by
  cases o with
  | none => rfl
  | some l => exact completeFor_some hr l f

/-- A command that does not begin START is taken as its effect and settled, where the RESET pin is not held. -/
theorem exec_eq {c : Instr} {s : State} (hr : s.resetHeld = false) (hc : beginsStart c = false) :
    exec c s = .next (outcomeOf c s) := by
  cases c with
  | start | resetPinAssert => cases hc
  | configurationRead | pressDeclared | releaseDeclared | buttonSample | transmissionStart | arbitrationLoss | collisionError
  | ownFrameCompleted | burstDue | soundingExpiry | beepEnd | ambientWord | quietInputChange =>
    exact congrArg Host.Outcome.next (eventIf_eq hr _ _)
  | joinExpiry | aidClassification | stuck | blinkExpiry | flashCountdownExpiry | minGreenExpiry | startNear | amberExpiry
  | allRedInExpiry | walkExpiry | clearanceExpiry | allRedOutExpiry | slotEndInExpiry | contestExpiry | beaconCountdownExpiry
  | heardExpiry | tableSlotExpiry | envelopeStep | stalenessExpiry | clearwayRepeatExpiry | refreshExpiry | mismatchExpiry =>
    exact congrArg Host.Outcome.next (expiry_eq hr _ _)
  | bidCompleted | keepCompleted | cedeCompleted => exact congrArg Host.Outcome.next (completeFor_eq hr _ _)
  | lineFault | lineClear | brokenFrame | invalidFrameReceived | duplicateFrameReceived | beaconReceived | bidReceived | keepReceived
  | cedeReceived | clearwayReceived | clearEndReceived | stat | leg | tread | holders | cnts | fclr | call | hold | quiet | flash
  | resume | isol | join | rstrt | decisecondTick | startPulse => exact congrArg Host.Outcome.next (event_live hr _)
  | unknownCommand code ops =>
    simp only [exec, execUnknownCommand, outcomeOf, occurs, effect, atInstant, expires]
    cases commandOf code <;> exact congrArg Host.Outcome.next (event_live hr _)
  | phqRise =>
    cases h : s.phq
    · rw [phqRise_next hr h]; simp [outcomeOf, occurs, h]; rfl
    · simp [outcomeOf, occurs, exec, execPhqRise, h]
  | phqFall =>
    cases h : s.phq
    · simp [outcomeOf, occurs, exec, execPhqFall, h]
    · rw [phqFall_next hr h]; simp [outcomeOf, occurs, h]; rfl
  | prqRise =>
    cases h : s.prq
    · rw [prqRise_next hr h]; simp [outcomeOf, occurs, h]; rfl
    · simp [outcomeOf, occurs, exec, execPrqRise, h]
  | prqFall =>
    cases h : s.prq
    · simp [outcomeOf, occurs, exec, execPrqFall, h]
    · rw [prqFall_next hr h]; simp [outcomeOf, occurs, h]; rfl
  | lampReadbackChange l i on => exact congrArg Host.Outcome.next (pinChange_live hr _ _ rfl)

/-- What a command leaves while the RESET pin is held: an input pin follows its level, and nothing else happens (R157). -/
def whileHeld (c : Instr) (s : State) : State :=
  match c with
  | .phqRise => { s with phq := true }
  | .phqFall => { s with phq := false }
  | .prqRise => { s with prq := true }
  | .prqFall => { s with prq := false }
  | .lampReadbackChange l i on => setReadback l i on s
  | _ => s

theorem exec_held {c : Instr} {s : State} (hr : s.resetHeld = true) (hc : beginsStart c = false) :
    exec c s = .next (whileHeld c s) := by
  cases c with
  | start | resetPinAssert => cases hc
  | configurationRead | pressDeclared | releaseDeclared | buttonSample | transmissionStart | arbitrationLoss | collisionError
  | ownFrameCompleted | burstDue | soundingExpiry | beepEnd | ambientWord | quietInputChange =>
    exact congrArg Host.Outcome.next (eventIf_held hr _ _)
  | joinExpiry | aidClassification | stuck | blinkExpiry | flashCountdownExpiry | minGreenExpiry | startNear | amberExpiry
  | allRedInExpiry | walkExpiry | clearanceExpiry | allRedOutExpiry | slotEndInExpiry | contestExpiry | beaconCountdownExpiry
  | heardExpiry | tableSlotExpiry | envelopeStep | stalenessExpiry | clearwayRepeatExpiry | refreshExpiry | mismatchExpiry =>
    exact congrArg Host.Outcome.next (expiry_held hr _ _)
  | bidCompleted | keepCompleted | cedeCompleted => exact congrArg Host.Outcome.next (completeFor_held hr _ _)
  | lineFault | lineClear | brokenFrame | invalidFrameReceived | duplicateFrameReceived | beaconReceived | bidReceived | keepReceived
  | cedeReceived | clearwayReceived | clearEndReceived | stat | leg | tread | holders | cnts | fclr | call | hold | quiet | flash
  | resume | isol | join | rstrt | decisecondTick | startPulse => exact congrArg Host.Outcome.next (event_held hr _)
  | unknownCommand code ops =>
    simp only [exec, execUnknownCommand, whileHeld]
    cases commandOf code <;> exact congrArg Host.Outcome.next (event_held hr _)
  | phqRise =>
    simp only [exec, execPhqRise, whileHeld]
    cases h : s.phq
    · rw [if_neg Bool.false_ne_true, pinChange_held hr]
    · rw [if_pos rfl, ← h]
  | phqFall =>
    simp only [exec, execPhqFall, whileHeld]
    cases h : s.phq
    · rw [if_neg Bool.false_ne_true, ← h]
    · rw [if_pos rfl, pinChange_held hr]
  | prqRise =>
    simp only [exec, execPrqRise, whileHeld]
    cases h : s.prq
    · rw [if_neg Bool.false_ne_true, pinChange_held hr]
    · rw [if_pos rfl, ← h]
  | prqFall =>
    simp only [exec, execPrqFall, whileHeld]
    cases h : s.prq
    · rw [if_neg Bool.false_ne_true, ← h]
    · rw [if_pos rfl, pinChange_held hr]
  | lampReadbackChange l i on => exact congrArg Host.Outcome.next (pinChange_held hr _ _)

/-! ### The parts that an effect may change -/

/-- The parts of the first list are all in the second; of two closed lists it computes. -/
def partsWithin (ps qs : List Part) : Bool := ps.all qs.contains

theorem mem_of_partsWithin {ps qs : List Part} (h : partsWithin ps qs = true) : ∀ p ∈ ps, p ∈ qs := by
  simpa [partsWithin] using h

theorem Touches.widen {ps qs : List Part} {f : State → State} (h : Touches ps f) (hs : partsWithin ps qs = true) : Touches qs f :=
  h.mono (mem_of_partsWithin hs)

/-- Two operations one after the other. -/
theorem Touches.seq {ps qs rs : List Part} {f g : State → State} (hf : Touches qs f) (hg : Touches rs g)
    (hq : partsWithin qs ps = true) (hr : partsWithin rs ps = true) : Touches ps (fun s => g (f s)) :=
  (hg.widen hr).comp (hf.widen hq)

theorem Touches.ite {ps : List Part} {f g : State → State} {c : State → Prop} [DecidablePred c] (hf : Touches ps f)
    (hg : Touches ps g) : Touches ps (fun s => if c s then f s else g s) := fun s => .ite (hf s) (hg s)

/-- The sender of a BEACON, BID, KEEP or CEDE is no holder: such a frame leaves the Hold Unit and the kerbs alone. -/
def plainFrame : Frame → Bool
  | .clearway _ | .clearEnd _ => false
  | _ => true

theorem takeFrame_plain_touches (f : Frame) (h : plainFrame f = true) : Touches isolationParts (takeFrame f) := by
  have hd : Touches isolationParts (dispatch f) := by
    cases f with
    | clearway | clearEnd => cases h
    | beacon f | cede f => exact (tableTakes_touches _).widen rfl
    | bid f | keep f => exact (slotsTake_touches _).seq (tableTakes_touches _) rfl rfl
  exact atFrameEnd_touches (by decide) (.ite (.ite duplicateFound_touches hd) (countFormat_touches.widen rfl))

theorem conflictAtStart_touches : Touches flashParts conflictAtStart :=
  .ite ((setFlag_touches .conflict).seq (flashFrom_touches .conflict) rfl rfl) (.id _)

theorem setConfig_touches (f : State → Bool × Option StationConfig) :
    Touches [.reading, .cfg] (fun s => { s with reading := (f s).1, cfg := (f s).2 }) := by
  intro s p hp; cases p <;> first | rfl | exact absurd (by decide) hp

theorem configLoaded_touches (bytes : List Byte) : Touches ([.reading, .faultCheck, .cfg, .ambient] ++ flashParts) (configLoaded bytes) := by
  intro s; unfold configLoaded; extract_lets s1 s2 s3 s4
  have h1 : ChangesOnly ([.reading, .faultCheck, .cfg, .ambient] ++ flashParts) s s1 :=
    .after (setFlagIf_touches _ _) (by decide) (.after (setConfig_touches (fun _ => (false, some (loadImage bytes)))) (by decide) (.refl _ s))
  have h2 := h1.after enterListen_touches (by decide)
  have hleg (l : LegId) : Touches [.legs, .kerbs, .links, .ambient] (fun s => track l (releaseLeg l s)) := fun s =>
    ((releaseLeg_touches l).mono (by decide) s).after (track_touches l) (by decide)
  have h3 : ChangesOnly _ s s3 := h2.after (forLegs_touches hleg bothLegs) (by decide)
  have h4 : ChangesOnly _ s s4 := .ite h3 (h3.after (updLeg_touches _ _) (by decide))
  exact h4.after conflictAtStart_touches (by decide)

theorem setFault_touches (c : FaultCheck) :
    Touches [.reading, .faultCheck, .mode, .cause, .isolation]
      (fun s => { s with reading := false, faultCheck := c, mode := .flash, cause := .config, isolation := none }) := by
  intro s p hp; cases p <;> first | rfl | exact absurd (by decide) hp

theorem configFault_touches (c : FaultCheck) : Touches ([.reading, .faultCheck, .cfg, .ambient] ++ flashParts) (configFault c) :=
  ((setFault_touches c).seq (setFlag_touches .cfgFault) rfl rfl).seq
    (flashBlocks_touches.seq conflictAtStart_touches (ps := flashParts) rfl rfl)
    (qs := [.reading, .faultCheck, .mode, .cause, .isolation, .port]) rfl rfl

theorem configRead_touches (bytes : List Byte) : Touches ([.reading, .faultCheck, .cfg, .ambient] ++ flashParts) (configRead bytes) := by
  intro s; unfold configRead
  split
  · exact configLoaded_touches bytes s
  · exact configFault_touches _ s

theorem completed_touches {ps : List Part} (hl : .line ∈ ps) (o : Option LegId) {f : LegId → State → State} (h : ∀ l, Touches ps (f l)) :
    Touches ps (completed o f) := by
  intro s
  cases o with
  | none => exact .refl ps s
  | some l => exact (completeFrame_touches.mono (by simpa using hl) s).trans (h l _)

theorem setPhq_touches (high : Bool) : Touches [.phq] (fun s => { s with phq := high }) := by
  intro s p hp; cases p <;> first | rfl | exact absurd (by decide) hp

theorem setPrq_touches (high : Bool) : Touches [.prq] (fun s => { s with prq := high }) := by
  intro s p hp; cases p <;> first | rfl | exact absurd (by decide) hp

theorem readQuiet_touches (high : Bool) : Touches [.quietPin, .quietInput] (fun s => sampleQuiet { s with quietPin := high }) := by
  intro s p hp; cases p <;> first | rfl | exact absurd (by decide) hp

theorem clearForeign_touches (st : Nat) (l : LegId) : Touches [.table] (clearForeign st l) := setTable_touches _

theorem refreshDone_touches (st : Nat) : Touches holdParts (refreshDone st) :=
  (setFlag_touches .clearwayExpired).seq (changeHolders_touches _) rfl rfl

theorem clearwayDone_touches : Touches [.line, .hold] clearwayDone :=
  (enqueueClear_touches .clearway).seq (updHold_touches _) rfl rfl

theorem checkConflict_touches (l : LegId) (before : Lamps LampRec) : Touches flashParts (checkConflict l before) :=
  .ite ((setFlag_touches .conflict).seq (flashFrom_touches .conflict) rfl rfl) (.id _)

theorem mismatchDone_touches (l : LegId) (i : LampId) : Touches (.lamps :: flashParts) (mismatchDone l i) := by
  intro s; unfold mismatchDone; extract_lets red s1
  have h1 : ChangesOnly (.lamps :: flashParts) s s1 :=
    .after (setFlag_touches _) (by decide) ((updLamp_touches l i _).mono (by decide) s)
  exact .ite (h1.after (flashFrom_touches .lamp) (by decide)) h1

theorem startBlocks_touches : Touches startParts startBlocks := by
  intro s p hp; cases p <;> first | rfl | exact absurd (by decide) hp

theorem coldStart_touches : Touches startParts coldStart := by
  intro s p hp; cases p <;> first | rfl | exact absurd (by decide) hp

theorem runResume_touches : Touches (isolationParts ++ [.kerbs, .links]) (fun s => (runResume s).1) := by
  intro s; dsimp only; unfold runResume
  split
  · exact .refl _ s
  · split
    · exact .refl _ s
    · split
      · exact .refl _ s
      · exact takeResume_touches s

theorem runCommand_touches (c : PortCommand) (ops : List Byte) : Touches (.port :: portParts c) (fun s => (runCommand c ops s).1) := by
  cases c with
  | stat | leg | tread | holders | cnts => exact fun s => .refl _ s
  | fclr | quiet => exact updPort_touches _
  | call => exact (takePress_touches _ .a _).mono (by decide)
  | hold => exact (changeSources_touches _).mono (by decide)
  | flash => exact (flashFrom_touches .command).mono (by decide)
  | resume => exact runResume_touches.mono (by decide)
  | isol => exact (reportIsolation_touches .command).mono (by decide)
  | join => exact takeJoin_touches.mono (by decide)
  | rstrt => exact fun s => .after stopWords_touches (by decide) (startBlocks_touches.mono (by decide) s)

theorem takeCommand_touches (c : PortCommand) (ops : List Byte) : Touches (.port :: portParts c) (takeCommand c ops) := by
  intro s; unfold takeCommand
  split
  · exact (putReply_touches _ _ _).mono (by simp) s
  · exact (runCommand_touches c ops s).after (putReply_touches _ _ _) (by simp)

theorem takeRstrt_touches (w : RstrtWrite) : Touches (.port :: portParts .rstrt) (takeRstrt w) :=
  (pinAtRestart_touches w).seq (takeCommand_touches .rstrt w.bytes) rfl rfl

theorem joinDone_parts : Touches [.mode, .join, .line] joinDone := by
  intro s; unfold joinDone
  refine .after (forLegs_touches (fun l s => ChangesOnly.ite (enqueueLeg_touches l .bid s) (.refl _ s)) bothLegs) (by decide) ?_
  intro p hp; cases p <;> first | rfl | exact absurd (by decide) hp

/-- What an effect may change of the parts that every event settles, where `commandParts` leaves them to the settling. -/
def settledByEffect : Instr → List Part
  | .clearwayRepeatExpiry | .lineClear => [.hold]
  | .lampReadbackChange _ _ _ | .mismatchExpiry _ _ => [.lamps]
  | _ => []

/-- The effect of a command changes only the parts listed for it. -/
theorem effect_touches (c : Instr) : Touches (settledByEffect c ++ commandParts c) (effect c) := by
  cases c with
  | start | resetPinAssert => exact fun s => .refl _ s
  | configurationRead bytes => exact configRead_touches bytes
  | joinExpiry => exact joinDone_parts
  | pressDeclared l k => exact declarePress_touches l k
  | releaseDeclared l k => exact declareRelease_touches l k
  | aidClassification l k => exact classifyAid_touches l k
  | buttonSample l k high => exact sampleButton_touches l k high
  | stuck l k => exact markStuck_touches l k
  | blinkExpiry l => exact updCall_touches l _
  | flashCountdownExpiry l | minGreenExpiry l => exact updLeg_touches l _
  | startNear l => exact amberEntry_touches l
  | amberExpiry l => exact amberDone_touches l
  | allRedInExpiry l => exact allRedInDone_touches l
  | walkExpiry l => exact enterClearance_touches l
  | clearanceExpiry l => exact clearanceDone_touches l
  | allRedOutExpiry l => exact allRedOutDone_touches l
  | slotEndInExpiry l => exact removeSlot_touches l
  | contestExpiry l => exact contestWon_touches l
  | transmissionStart => exact takeHead_touches 4
  | arbitrationLoss => exact loseArbitration_touches
  | collisionError => exact collide_touches
  | ownFrameCompleted => exact completeFrame_touches
  | bidCompleted => exact fun s => completed_touches (by decide) (bidInFlight s) bidReported_touches s
  | keepCompleted =>
    exact fun s => completed_touches (by decide) (keepInFlight s) (fun l => (updSlot_touches l SlotRec.tellAll).mono (by decide)) s
  | cedeCompleted =>
    exact fun s => completed_touches (by decide) (cedeInFlight s)
      (fun l s => .ite (enqueueLeg_touches l .bid s) (.refl _ s)) s
  | beaconCountdownExpiry => exact startBeacon_touches
  | lineFault => exact takeLineFault_touches
  | lineClear => exact takeLineClear_touches.mono (by decide)
  | brokenFrame => exact atFrameEnd_touches (by decide) countFormat_touches
  | startPulse recessive dominant => exact judgePulse_touches recessive dominant
  | invalidFrameReceived bits => exact takeBits_touches bits
  | duplicateFrameReceived f => exact takeFrame_touches f
  | beaconReceived f | bidReceived f | keepReceived f | cedeReceived f => exact takeFrame_plain_touches _ rfl
  | clearwayReceived f | clearEndReceived f => exact takeFrame_touches _
  | heardExpiry st => exact removeStation_touches st.toNat
  | tableSlotExpiry st l => exact clearForeign_touches st.toNat l
  | burstDue l k => exact burstNow_touches l k
  | soundingExpiry l k => exact fun s => elapse_touches _ s
  | beepEnd l k => exact fun s => (elapse_touches _ s).trans ((updKerb_touches l k _).widen rfl _)
  | envelopeStep l k => exact fun s => updKerb_touches l k _ s
  | ambientWord l k v => exact updAmbient_touches l k _
  | stalenessExpiry l k => exact (updAmbient_touches l k _).seq (setFlag_touches _) rfl rfl
  | quietInputChange high => exact readQuiet_touches high
  | phqRise => exact (setPhq_touches true).seq holdRequested_touches rfl rfl
  | phqFall => exact (setPhq_touches false).seq holdLowered_touches rfl rfl
  | prqRise => exact (setPrq_touches true).seq releaseRaised_touches rfl rfl
  | prqFall => exact (setPrq_touches false).seq (updHold_touches _) rfl rfl
  | clearwayRepeatExpiry => exact clearwayDone_touches.mono (by decide)
  | refreshExpiry st => exact refreshDone_touches st.toNat
  | lampReadbackChange l i on =>
    exact fun s => ((updLamp_touches l i _).widen rfl s).trans ((checkConflict_touches l (s.lamps.get l)).widen rfl _)
  | mismatchExpiry l i => exact mismatchDone_touches l i
  | stat ops | leg ops | tread ops | holders ops | cnts ops | fclr ops | call ops | hold ops | quiet ops | flash ops | resume ops
  | isol ops | join ops => exact takeCommand_touches _ ops
  | rstrt w => exact takeRstrt_touches w
  | unknownCommand code ops =>
    intro s
    simp only [effect, commandParts]
    cases commandOf code with
    | none => exact putReply_touches _ _ _ s
    | some c => exact takeCommand_touches c ops s
  | decisecondTick => exact tick_touches

/-- A command that occurs changes its parts and what every event settles. -/
theorem outcomeOf_changes (c : Instr) (s : State) : ChangesOnly (settledParts ++ commandParts c) s (outcomeOf c s) := by
  have hextra : ∀ p ∈ settledByEffect c, p ∈ settledParts := by cases c <;> simp [settledByEffect, settledParts]
  unfold outcomeOf
  refine .ite ?_ (.refl _ s)
  have h1 : ChangesOnly (settledParts ++ commandParts c) s (atInstant c s) :=
    .ite (.refl _ s) (later_touches.mono (by simp [settledParts]) s)
  refine .after settle_touches (by simp [settledParts]) (h1.after (effect_touches c) fun p hp => ?_)
  rcases List.mem_append.mp hp with hp | hp
  · exact List.mem_append_left _ (hextra p hp)
  · exact List.mem_append_right _ hp

theorem whileHeld_changes (c : Instr) (s : State) : ChangesOnly (settledParts ++ commandParts c) s (whileHeld c s) := by
  cases c with
  | phqRise => exact (setPhq_touches true).mono (by decide) s
  | phqFall => exact (setPhq_touches false).mono (by decide) s
  | prqRise => exact (setPrq_touches true).mono (by decide) s
  | prqFall => exact (setPrq_touches false).mono (by decide) s
  | lampReadbackChange l i on => exact (updLamp_touches l i _).widen rfl s
  | _ => exact .refl _ s

theorem startNow_touches (straps : BitVec 2) (phq prq quiet : Bool) : Touches startParts (startNow straps phq prq quiet) := by
  intro s; unfold startNow; extract_lets port s1
  refine .after stopWords_touches (by decide) (.after coldStart_touches (fun _ hp => hp) ?_)
  intro p hp; cases p <;> first | rfl | exact absurd (by decide) hp

theorem holdReset_touches : Touches startParts holdReset := by
  intro s
  refine (coldStart_touches s).trans ?_
  intro p hp; cases p <;> first | rfl | exact absurd (by decide) hp

/-! ### Every command -/

/-- Settles O52: the outcome of a command is its effect, settled, or the pins while RESET is held, or START. -/
theorem commandsChangeOnlyTheirParts : Obligations.CommandsChangeOnlyTheirParts := by
  unfold Obligations.CommandsChangeOnlyTheirParts
  intro c s
  cases hc : beginsStart c with
  | false =>
    cases hr : s.resetHeld
    · exact ⟨_, exec_eq hr hc, outcomeOf_changes c s⟩
    · exact ⟨_, exec_held hr hc, whileHeld_changes c s⟩
  | true =>
    cases c with
    | start straps phq prq quiet => exact ⟨_, rfl, (startNow_touches straps phq prq quiet).widen rfl s⟩
    | resetPinAssert => exact ⟨_, rfl, holdReset_touches.widen rfl s⟩
    | _ => cases hc

/-! ### Out of turn, and while the RESET pin is held -/

/-- Settles O51: a command that does not occur is refused its effect, whether or not the RESET pin is held. -/
theorem commandsOutOfTurnChangeNothing : Obligations.CommandsOutOfTurnChangeNothing := by
  unfold Obligations.CommandsOutOfTurnChangeNothing
  intro c s h
  have hc : beginsStart c = false := by cases c <;> first | rfl | cases h
  cases hr : s.resetHeld with
  | false => rw [exec_eq hr hc, outcomeOf, h]; rfl
  | true =>
    rw [exec_held hr hc]
    cases c with
    | phqRise | prqRise | phqFall | prqFall => simp only [occurs, Bool.not_eq_false'] at h; simp only [whileHeld, ← h]
    | lampReadbackChange => cases h
    | _ => rfl

/-- Settles O1: both cases are those of `step`. -/
theorem stepRunsFrontCommand : Obligations.StepRunsFrontCommand := by
  unfold Obligations.StepRunsFrontCommand
  constructor
  · intro c rest s h; simp only [step, h]
  · intro s h; simp only [step, h]

/-- Settles O4: while the RESET pin is held only a pin's level follows. -/
theorem resetHeldTakesNoEvent : Obligations.ResetHeldTakesNoEvent := by
  unfold Obligations.ResetHeldTakesNoEvent
  intro c s hr hstart hpin
  have hc : beginsStart c = false := by
    cases c with
    | start a b d e => exact absurd rfl (hstart a b d e)
    | resetPinAssert => exact absurd rfl hpin
    | _ => rfl
  refine ⟨_, exec_held hr hc, ?_⟩
  cases c with
  | phqRise | phqFall => exact ⟨rfl, fun _ _ => rfl, fun h g => by simp at h g, fun _ _ => rfl, fun _ => rfl⟩
  | prqRise | prqFall => exact ⟨rfl, fun _ _ => rfl, fun _ _ => rfl, fun h g => by simp at h g, fun _ => rfl⟩
  | lampReadbackChange l i on =>
    refine ⟨rfl, fun m j => ?_, fun _ _ => rfl, fun _ _ => rfl, fun h => absurd rfl (h l i on)⟩
    simp only [whileHeld, setReadback, lampRec, updLamp_lamps, Legs.get_upd]
    split
    · next hm =>
      subst hm
      rw [Lamps.get_upd]
      split
      · next hj => subst hj; rfl
      · rfl
    · rfl
  | _ => exact ⟨rfl, fun _ _ => rfl, fun _ _ => rfl, fun _ _ => rfl, fun _ => rfl⟩

end Sys2Proof.Machine
end

section
/-! WALK and vehicle green, entered at the two all-red expiries alone (R2, R9, R11). -/

namespace Sys2Proof.Machine

theorem intervalDone_iff (s : State) (l : LegId) (st : LegState) :
    intervalDone s l st = true ↔ legState s l = st ∧ (s.legs.get l).interval = { running := true, count := 0 } := by
  simp [intervalDone, Countdown.due_iff]

theorem mayWalk_iff (s : State) : mayWalk s = true ↔ (s.mode = .run ∨ s.mode = .isolated) ∧ held s = false := by
  simp [mayWalk]

/-- A leg that enters WALK by an ALL_RED_IN expiry is the leg of that expiry, and the walk conditions hold. -/
theorem allRedInDone_walk {l m : LegId} {s : State} (h : legState (allRedInDone m s) l = .walk) (hs : legState s l ≠ .walk) :
    l = m ∧ mayWalk s = true := by
  unfold allRedInDone at h
  split at h
  · next hw =>
    rw [legState_startWalk] at h
    split at h
    · next hl => exact ⟨hl, hw⟩
    · exact absurd h hs
  · exact absurd ((skipWalk_entersNone m s l).2 h) hs

theorem greenShown_greenState (s : State) (l : LegId) : greenShown (greenState s l) = true := by
  unfold greenState
  split
  · rfl
  · split <;> rfl

/-- An ALL_RED_OUT expiry takes no leg into WALK. -/
theorem allRedOutDone_walk {l m : LegId} {s : State} (h : legState (allRedOutDone m s) l = .walk) : legState s l = .walk := by
  by_cases hl : l = m
  · subst hl
    unfold allRedOutDone at h
    extract_lets g s1 at h
    have hg : legState s1 l = g := by rw [legState_updLeg, if_pos rfl]
    have hw : legState s1 l = .walk := (NoEntry.ite (reportEligible_entersNone l s1) (.refl s1) l).2 h
    have hgreen := greenShown_greenState s l
    rw [show greenState s l = .walk from hg.symm.trans hw] at hgreen
    cases hgreen
  · exact (allRedOutDone_other hl s).2 h

theorem walk_entered_at_allRedIn {c : Instr} {l : LegId} {s t : State} (h : exec c s = .next t) (ht : legState t l = .walk)
    (hs : legState s l ≠ .walk) :
    c = .allRedInExpiry l ∧ legState s l = .allRedIn ∧ (s.legs.get l).interval = { running := true, count := 0 } ∧
      (s.mode = .run ∨ s.mode = .isolated) ∧ held s = false := by
  cases c with
  | allRedInExpiry m =>
    cases h
    rcases expiry_cases (intervalDone s m .allRedIn) (allRedInDone m) s with he | ⟨hdue, he⟩ <;> rw [he] at ht
    · exact absurd ht hs
    · rw [legState_settle] at ht
      obtain ⟨rfl, hwalk⟩ := allRedInDone_walk ht hs
      obtain ⟨hstate, hinterval⟩ := (intervalDone_iff s l .allRedIn).mp hdue
      exact ⟨rfl, hstate, hinterval, (mayWalk_iff s).mp hwalk⟩
  | allRedOutExpiry m =>
    cases h
    rcases expiry_cases (intervalDone s m .allRedOut) (allRedOutDone m) s with he | ⟨-, he⟩ <;> rw [he] at ht
    · exact absurd ht hs
    · rw [legState_settle] at ht
      exact absurd (allRedOutDone_walk ht) hs
  | _ => exact absurd ((exec_noEntry h nofun nofun l).2 ht) hs

theorem green_entered_at_allRedOut {c : Instr} {l : LegId} {s t : State} (h : exec c s = .next t)
    (ht : greenShown (legState t l) = true) (hs : ¬greenShown (legState s l) = true) :
    c = .allRedOutExpiry l ∧ legState s l = .allRedOut ∧ (s.legs.get l).interval = { running := true, count := 0 } := by
  cases c with
  | allRedInExpiry m => exact absurd (allRedInExpiry_green h ht) hs
  | allRedOutExpiry m =>
    cases h
    rcases expiry_cases (intervalDone s m .allRedOut) (allRedOutDone m) s with he | ⟨hdue, he⟩ <;> rw [he] at ht
    · exact absurd ht hs
    · rw [legState_settle] at ht
      by_cases hl : l = m
      · subst hl
        exact ⟨rfl, (intervalDone_iff s l .allRedOut).mp hdue⟩
      · exact absurd ((allRedOutDone_other hl s).1 ht) hs
  | _ => exact absurd ((exec_noEntry h nofun nofun l).1 ht) hs

/-- Settles O53: every other command enters neither, by `exec_noEntry`. -/
theorem walkAndGreenAreEnteredSafely : Obligations.WalkAndGreenAreEnteredSafely := by
  unfold Obligations.WalkAndGreenAreEnteredSafely
  intro c l s t h
  exact ⟨walk_entered_at_allRedIn h, fun ht hs => green_entered_at_allRedOut h ht (by rw [hs]; decide)⟩

end Sys2Proof.Machine
end

section
/-! Keeping a property through every step, reduced to the effects of the commands; and with it the agreement of mode, cause, fault
check, pending isolation, join countdown and configuration (R156). -/

namespace Sys2Proof.Machine

/-! ### Operations that keep a property -/

/-- The operation keeps the property, wherever it starts. -/
def Keeps (P : State → Prop) (f : State → State) : Prop := ∀ s, P s → P (f s)

theorem Keeps.comp {P : State → Prop} {f g : State → State} (hg : Keeps P g) (hf : Keeps P f) : Keeps P (fun s => g (f s)) :=
  fun s h => hg (f s) (hf s h)

theorem Keeps.ite {P : State → Prop} {f g : State → State} {c : State → Prop} [DecidablePred c] (hf : Keeps P f) (hg : Keeps P g) :
    Keeps P (fun s => if c s then f s else g s) := by
  intro s h; dsimp only
  split
  · exact hf s h
  · exact hg s h

theorem Keeps.foldl {α : Type} {P : State → Prop} {f : State → α → State} (h : ∀ a, Keeps P (fun s => f s a)) (xs : List α) :
    Keeps P (fun s => xs.foldl f s) := by
  intro s hs
  induction xs generalizing s with
  | nil => exact hs
  | cons a xs ih => exact ih (f s a) (h a s hs)

theorem forLegs_keeps {P : State → Prop} {f : LegId → State → State} (h : ∀ l, Keeps P (f l)) (ls : List LegId) :
    Keeps P (forLegs ls f) :=
  Keeps.foldl (fun l => .ite (h l) (fun _ hs => hs)) ls

/-- The property reads none but the listed parts. -/
def ReadsOnly (ps : List Part) (P : State → Prop) : Prop := ∀ s t, (∀ p ∈ ps, p.same s t) → P s → P t

/-- The two lists have no part in common; of two closed lists it computes. -/
def partsApart (ps qs : List Part) : Bool := ps.all fun p => !qs.contains p

/-- What changes none of the parts that a property reads keeps it. -/
theorem ReadsOnly.frame {ps qs : List Part} {P : State → Prop} (hP : ReadsOnly qs P) {s t : State} (h : ChangesOnly ps s t)
    (hd : partsApart ps qs = true) (hs : P s) : P t :=
  hP s t (fun p hp => h p fun hm => by
    have := List.all_eq_true.mp hd p hm
    simp [hp] at this) hs

theorem ReadsOnly.keeps {ps qs : List Part} {P : State → Prop} (hP : ReadsOnly qs P) {f : State → State} (h : Touches ps f)
    (hd : partsApart ps qs = true) : Keeps P f :=
  fun s hs => hP.frame (h s) hd hs

/-! ### Every step -/

theorem occurs_later (c : Instr) (s : State) : occurs c (later s) = occurs c s := by cases c <;> rfl

/-- A property is kept by a command where START gives it, the pins leave it while RESET is held, and every effect that occurs, as
well as the settling, keeps it. -/
theorem exec_keeps {P : State → Prop} (hstart : ∀ straps phq prq quiet, Keeps P (startNow straps phq prq quiet))
    (hreset : Keeps P holdReset) (hheld : ∀ c s, s.resetHeld = true → P s → P (whileHeld c s)) (hlater : Keeps P later)
    (hsettle : Keeps P settle)
    (heffect : ∀ c s, s.resetHeld = false → occurs c s = true → P s → P (effect c s)) {c : Instr} {s t : State}
    (h : exec c s = .next t) (hs : P s) : P t := by
  cases hc : beginsStart c with
  | false =>
    cases hr : s.resetHeld
    · rw [exec_eq hr hc] at h
      cases h
      unfold outcomeOf
      split
      · next ho =>
        refine hsettle _ ?_
        unfold atInstant
        split
        · exact heffect c s hr ho hs
        · exact heffect c (later s) hr ((occurs_later c s).trans ho) (hlater s hs)
      · exact hs
    · rw [exec_held hr hc] at h
      cases h
      exact hheld c s hr hs
  | true =>
    cases c with
    | start straps phq prq quiet => cases h; exact hstart straps phq prq quiet s hs
    | resetPinAssert => cases h; exact hreset s hs
    | _ => cases hc

theorem step_keeps {P : State → Prop} (hpending : ∀ s rest, P s → P { s with pending := rest })
    (hexec : ∀ c s t, exec c s = .next t → P s → P t) {s t : State} (h : step s = .next t) (hs : P s) : P t := by
  unfold step at h
  split at h
  · cases h; exact hs
  · exact hexec _ _ _ h (hpending s _ hs)

/-- A property of parts other than those of every event's settling, and of the pins. -/
theorem ReadsOnly.later {qs : List Part} {P : State → Prop} (hP : ReadsOnly qs P) (hd : partsApart [.clock] qs = true) :
    Keeps P later := hP.keeps later_touches hd

theorem ReadsOnly.settle {qs : List Part} {P : State → Prop} (hP : ReadsOnly qs P) (hd : partsApart [.hold, .lamps] qs = true) :
    Keeps P settle := hP.keeps settle_touches hd

theorem ReadsOnly.pending {qs : List Part} {P : State → Prop} (hP : ReadsOnly qs P) (hd : partsApart [.pending] qs = true) (s : State)
    (rest : List Instr) : P s → P { s with pending := rest } :=
  hP.frame (fun p hp => by cases p <;> first | rfl | exact absurd (by decide) hp) hd

/-- The pins that may move while RESET is held. -/
def pinParts : List Part := [.phq, .prq, .lamps]

theorem whileHeld_pins (c : Instr) : Touches pinParts (whileHeld c) := by
  cases c with
  | phqRise => exact (setPhq_touches true).widen rfl
  | phqFall => exact (setPhq_touches false).widen rfl
  | prqRise => exact (setPrq_touches true).widen rfl
  | prqFall => exact (setPrq_touches false).widen rfl
  | lampReadbackChange l i on => exact (updLamp_touches l i _).widen rfl
  | _ => exact .id _

/-! ### Shared operations of several commands -/

theorem atFrameEnd_keeps {P : State → Prop} {take : State → State} (hidle : Keeps P (updLine (fun n => { n with monitor := .idle })))
    (htake : ∀ s, takesFrames s = true → P s → P (take s)) : Keeps P (atFrameEnd take) := by
  intro s hs; unfold atFrameEnd; extract_lets t
  have ht : P t := hidle s hs
  split
  · next h =>
    simp only [Bool.and_eq_true] at h
    exact htake t h.1 ht
  · exact ht

theorem takeFrame_keeps {P : State → Prop} (hidle : Keeps P (updLine (fun n => { n with monitor := .idle })))
    (hformat : Keeps P countFormat) (f : Frame) (hvalid : ∀ s, takesFrames s = true → P s → P (takeValid f s)) :
    Keeps P (takeFrame f) := by
  refine atFrameEnd_keeps hidle fun s hr hs => ?_
  split
  · exact hvalid s hr hs
  · exact hformat s hs

theorem takeBits_keeps {P : State → Prop} (hidle : Keeps P (updLine (fun n => { n with monitor := .idle })))
    (hformat : Keeps P countFormat) (hcrc : Keeps P countCrc) (bits : List Bool)
    (hvalid : ∀ f s, takesFrames s = true → P s → P (takeValid f s)) : Keeps P (takeBits bits) := by
  refine atFrameEnd_keeps hidle fun s hr hs => ?_
  split
  · exact hvalid _ s hr hs
  · exact hcrc s hs
  · exact hformat s hs

theorem takeCommand_keeps {P : State → Prop} (hreply : ∀ st code content, Keeps P (putReply st code content)) (c : PortCommand)
    (ops : List Byte) {s : State} (hrun : P s → P (runCommand c ops s).1) (hs : P s) : P (takeCommand c ops s) := by
  unfold takeCommand
  split
  · exact hreply _ _ _ s hs
  · exact hreply _ _ _ _ (hrun hs)

/-! ### What the operations of the Mode Controller set -/

/-- What `enterIsolated` does before the legs are told (R162): mode and cause, the line and the table, and what hangs on them. -/
def isolatedBase (i : Isolation) (s : State) : State :=
  { s with
    mode := .isolated, cause := causeOf i, join := .stopped
    port := { s.port with flags := s.port.flags ||| flagBit .isolated }
    slots := s.slots.map (fun r => { r with bid := none, deferred := [], challengers := [] })
    line := { s.line with
      tx := none, queue := .empty, collisions := 0, beacon := .stopped
      monitor := if s.line.monitor = .receiving then .waiting else s.line.monitor }
    table := [], heard := []
    hold := { s.hold with clearway := .stopped } }

/-- Both legs are in CALLED, so that the free value says which is placed first (R79). -/
def bothCalled (s : State) : Bool := decide (legState s .leg0 = .called) && decide (legState s .leg1 = .called)

theorem enterIsolated_eq (i : Isolation) (s : State) :
    enterIsolated i s =
      forLegs (placementOrder (bothCalled s) (isolatedBase i s)) isolateLeg
        (if bothCalled s then { isolatedBase i s with choices := s.choices + 1 } else isolatedBase i s) := rfl

/-- An entry into ISOLATED gives the parts that the legs leave alone as `isolatedBase` has them. -/
theorem enterIsolated_changes (i : Isolation) (s : State) :
    ChangesOnly [.legs, .slots, .port, .choices] (isolatedBase i s) (enterIsolated i s) := by
  rw [enterIsolated_eq]
  refine .after (forLegs_touches isolateLeg_touches _) (by decide) (.ite ?_ (.refl _ _))
  exact choose_touches.widen rfl (isolatedBase i s)

/-- What an entry into LISTEN gives, its frames and their countdowns apart. -/
theorem enterListen_changes (s : State) :
    ChangesOnly [.line, .hold] { s with mode := .listen, cause := .none, join := .load 30 } (enterListen s) :=
  (startBeacon_touches.seq startClearway_touches rfl rfl) _

/-- The pending isolation that an entry into FLASH keeps of an ISOLATED station (R164). -/
def isolationKept (s : State) : Option Isolation := if s.mode = .isolated then isolationOf s.cause else none

/-- FLASH with its cause and pending isolation, nothing else done yet. -/
def flashMode (c : Cause) (s : State) : State :=
  { s with mode := .flash, cause := c, isolation := isolationKept s, join := .stopped }

theorem enterFlash_eq (c : Cause) (s : State) :
    enterFlash c s =
      if s.mode = .isolated then startClearway (startBeacon (flashBlocks (flashMode c s)))
      else startBeacon (flashBlocks (flashMode c s)) := by
  unfold enterFlash flashMode isolationKept
  by_cases h : s.mode = .isolated <;> simp [h]

theorem enterFlash_changes (c : Cause) (s : State) :
    ChangesOnly [.legs, .calls, .slots, .kerbs, .links, .line, .hold] (flashMode c s) (enterFlash c s) := by
  have h : Touches [.legs, .calls, .slots, .kerbs, .links, .line, .hold] (fun u => startBeacon (flashBlocks u)) :=
    flashBlocks_touches.seq startBeacon_touches rfl rfl
  rw [enterFlash_eq]
  exact .ite (.after startClearway_touches (by decide) (h _)) (h _)

/-! ### The mode and what agrees with it -/

/-- The parts that `ModeOk` reads. -/
def modeParts : List Part := [.mode, .cause, .faultCheck, .isolation, .join, .cfg, .reading, .resetHeld]

theorem modeOk_reads : ReadsOnly modeParts ModeOk := by
  intro s t h hs
  have hmode : t.mode = s.mode := h .mode (by decide)
  have hcause : t.cause = s.cause := h .cause (by decide)
  have hcheck : t.faultCheck = s.faultCheck := h .faultCheck (by decide)
  have hiso : t.isolation = s.isolation := h .isolation (by decide)
  have hjoin : t.join = s.join := h .join (by decide)
  have hcfg : t.cfg = s.cfg := h .cfg (by decide)
  have hread : t.reading = s.reading := h .reading (by decide)
  have hheld : t.resetHeld = s.resetHeld := h .resetHeld (by decide)
  rw [ModeOk, hmode, hcause, hcheck, hiso, hjoin, hcfg, hread, hheld]
  exact hs

/-- Under `ModeOk` a station in START or LISTEN or RUN has no cause, no recorded fault and no pending isolation. -/
theorem ModeOk.plain {s : State} (h : ModeOk s) (hm : s.mode = .start ∨ s.mode = .listen ∨ s.mode = .run) :
    s.cause = .none ∧ s.faultCheck = .none ∧ s.isolation = none := by
  obtain ⟨hcause, hcheck, hiso, -⟩ := h
  have hc : s.cause = .none := by
    rcases hm with hm | hm | hm <;> rw [hm] at hcause <;> cases hs : s.cause <;> simp_all [causeAllowed]
  have hi : s.isolation = none := by
    by_contra hne
    have := hiso hne
    rcases hm with hm | hm | hm <;> rw [hm] at this <;> cases this
  refine ⟨hc, ?_, hi⟩
  by_contra hne
  have := hcheck.mp hne
  rw [hc] at this
  cases this

theorem ModeOk.isolated {s : State} (h : ModeOk s) (hm : s.mode = .isolated) :
    (s.cause = .line ∨ s.cause = .duplicate ∨ s.cause = .command) ∧ s.faultCheck = .none ∧ s.isolation = none := by
  obtain ⟨hcause, hcheck, hiso, -⟩ := h
  rw [hm] at hcause
  have hi : s.isolation = none := by
    by_contra hne
    have := hiso hne
    rw [hm] at this; cases this
  cases hs : s.cause <;> simp_all [causeAllowed]

/-- In service a configuration is loaded, no read is in progress and the RESET pin is not held. -/
theorem ModeOk.service {s : State} (h : ModeOk s) (hm : s.mode ≠ .start) (hc : s.cause ≠ .config) :
    s.cfg ≠ none ∧ s.reading = false ∧ s.resetHeld = false := by
  obtain ⟨-, -, -, -, hcfg, hread, hheld⟩ := h
  refine ⟨fun hn => ?_, ?_, ?_⟩
  · rcases hcfg.mp hn with hs | hs
    · exact hm hs
    · exact hc hs
  · cases hr : s.reading
    · rfl
    · exact absurd (hread hr) hm
  · cases hr : s.resetHeld
    · rfl
    · exact absurd (hheld hr).1 hm

theorem enterIsolated_modeOk (i : Isolation) {s : State} (h : ModeOk s) (hm : s.mode = .listen ∨ s.mode = .run) :
    ModeOk (enterIsolated i s) := by
  obtain ⟨hcause, hcheck, hiso⟩ := h.plain (.inr hm)
  obtain ⟨hcfg, hread, hheld⟩ := h.service (by rcases hm with hm | hm <;> rw [hm] <;> decide) (by rw [hcause]; decide)
  refine modeOk_reads.frame (enterIsolated_changes i s) rfl ?_
  refine ⟨by cases i <;> rfl, ?_, ?_, by simp [isolatedBase, Countdown.stopped], ?_, ?_, ?_⟩
  · simp only [isolatedBase, hcheck]; cases i <;> simp [causeOf]
  · simp [isolatedBase, hiso]
  · simp only [isolatedBase, hcfg, false_iff]; cases i <;> simp [causeOf]
  · simp [isolatedBase, hread]
  · simp [isolatedBase, hheld]

theorem enterListen_modeOk {s : State} (hcfg : s.cfg ≠ none) (hcheck : s.faultCheck = .none) (hiso : s.isolation = none)
    (hread : s.reading = false) (hheld : s.resetHeld = false) : ModeOk (enterListen s) := by
  refine modeOk_reads.frame (enterListen_changes s) rfl ?_
  exact ⟨rfl, by simp [hcheck], by simp [hiso], by simp [Countdown.load], by simp [hcfg], by simp [hread], by simp [hheld]⟩

theorem ModeOk.toListen {s : State} (h : ModeOk s) (hm : s.mode = .isolated) : ModeOk (enterListen s) := by
  obtain ⟨hcause, hcheck, hiso⟩ := h.isolated hm
  obtain ⟨hcfg, hread, hheld⟩ := h.service (by rw [hm]; decide) (by rcases hcause with hc | hc | hc <;> rw [hc] <;> decide)
  exact enterListen_modeOk hcfg hcheck hiso hread hheld

/-- The causes with which a report or a command enters FLASH. -/
def flashCause (c : Cause) : Bool := decide (c = .lamp) || decide (c = .conflict) || decide (c = .command)

theorem flashMode_modeOk {c : Cause} (hc : flashCause c = true) {s : State} (h : ModeOk s) (hstart : s.mode ≠ .start)
    (hflash : s.mode ≠ .flash) : ModeOk (flashMode c s) := by
  have hplain : s.cause ≠ .config ∧ s.faultCheck = .none := by
    by_cases hi : s.mode = .isolated
    · obtain ⟨hcause, hcheck, -⟩ := h.isolated hi
      exact ⟨by rcases hcause with hc | hc | hc <;> rw [hc] <;> decide, hcheck⟩
    · obtain ⟨hcause, hcheck, -⟩ := h.plain (by cases hm : s.mode <;> simp_all)
      exact ⟨by rw [hcause]; decide, hcheck⟩
  obtain ⟨hcfg, hread, hheld⟩ := h.service hstart hplain.1
  have hcc : c ≠ .config := by rintro rfl; cases hc
  refine ⟨?_, ?_, fun _ => rfl, by simp [flashMode, Countdown.stopped], ?_, ?_, ?_⟩
  · cases c <;> first | rfl | cases hc
  · simp [flashMode, hplain.2, hcc]
  · simp [flashMode, hcfg, hcc]
  · simp [flashMode, hread]
  · simp [flashMode, hheld]

theorem flashFrom_modeOk {c : Cause} (hc : flashCause c = true) : Keeps ModeOk (flashFrom c) := by
  intro s h; unfold flashFrom
  split
  · exact h
  · next hm =>
    rw [not_or] at hm
    exact modeOk_reads.frame (enterFlash_changes c s) rfl (flashMode_modeOk hc h hm.1 hm.2)

/-- A pending isolation is recorded in FLASH alone (R165). -/
theorem ModeOk.withIsolation {s : State} (h : ModeOk s) (hm : s.mode = .flash) (o : Option Isolation) :
    ModeOk { s with isolation := o } := by
  obtain ⟨h1, h2, -, h4, h5, h6, h7⟩ := h
  exact ⟨h1, h2, fun _ => hm, h4, h5, h6, h7⟩

/-- An ISOLATED station may change its cause for another of an isolation (R163). -/
theorem ModeOk.withCause {s : State} (h : ModeOk s) (hm : s.mode = .isolated) (i : Isolation) : ModeOk { s with cause := causeOf i } := by
  obtain ⟨hcause, hcheck, hiso⟩ := h.isolated hm
  obtain ⟨hcfg, hread, hheld⟩ := h.service (by rw [hm]; decide) (by rcases hcause with hc | hc | hc <;> rw [hc] <;> decide)
  obtain ⟨-, -, -, hjoin, -⟩ := h
  refine ⟨by cases i <;> simp [hm, causeOf, causeAllowed], ?_, by simp [hiso], hjoin, ?_, by simp [hread], by simp [hheld]⟩
  · cases i <;> simp [hcheck, causeOf]
  · cases i <;> simp [hcfg, hm, causeOf]

theorem reportIsolation_modeOk (i : Isolation) : Keeps ModeOk (reportIsolation i) := by
  intro s h; unfold reportIsolation
  split
  · next hm => exact enterIsolated_modeOk i h (.inl hm)
  · next hm => exact enterIsolated_modeOk i h (.inr hm)
  · next hm =>
    split
    · exact h.withCause hm .command
    · exact h
  · next hm =>
    split
    · exact h.withIsolation hm _
    · exact h.withIsolation hm _
    · exact h
  · exact h

theorem duplicateFound_modeOk : Keeps ModeOk duplicateFound := fun s h =>
  reportIsolation_modeOk .duplicate _ (modeOk_reads.frame (setFlag_touches .duplicate s) rfl h)

theorem takeLineFault_modeOk : Keeps ModeOk takeLineFault := by
  refine .ite (Keeps.comp (reportIsolation_modeOk .line) ?_) (fun _ h => h)
  exact Keeps.comp (modeOk_reads.keeps discardReception_touches rfl)
    (Keeps.comp (modeOk_reads.keeps stopOwnFrame_touches rfl)
      (Keeps.comp (modeOk_reads.keeps (updLine_touches _) rfl) (modeOk_reads.keeps (setFlag_touches _) rfl)))

theorem takeLineClear_modeOk : Keeps ModeOk takeLineClear := by
  intro s h; unfold takeLineClear
  split
  · extract_lets s1
    have h1 : ModeOk s1 := modeOk_reads.frame (updLine_touches _ s) rfl h
    split
    · next hm => exact h1.toListen hm.1
    · split
      · next hm => exact h1.withIsolation hm.1 none
      · exact h1
  · exact h

theorem takeJoin_modeOk : Keeps ModeOk takeJoin := by
  intro s h; unfold takeJoin
  split
  · next hm =>
    split
    · exact h.withCause hm .line
    · exact h.toListen hm
  · next hm =>
    split
    · exact h.withIsolation hm _
    · split
      · exact h
      · exact h.withIsolation hm none
  · exact h

/-- RESUME takes a station in FLASH to RUN, its configuration being valid (R166). -/
theorem ModeOk.resumed {s : State} (h : ModeOk s) (hm : s.mode = .flash) (hc : s.cause ≠ .config) :
    ModeOk { s with mode := .run, cause := .none, isolation := none } := by
  obtain ⟨hcfg, hread, hheld⟩ := h.service (by rw [hm]; decide) hc
  obtain ⟨-, hcheck, -, hjoin, -⟩ := h
  have hj : s.join.running = false := by
    cases hr : s.join.running
    · rfl
    · rw [hm] at hjoin; exact absurd (hjoin.mp hr) (by decide)
  have hf : s.faultCheck = .none := by
    by_contra hne; exact hc (hcheck.mp hne)
  exact ⟨rfl, by simp [hf], by simp, by simp [hj], by simp [hcfg], by simp [hread], by simp [hheld]⟩

/-- What RESUME leaves before a pending isolation takes effect. -/
def resumedBase (s : State) : State := forLegs bothLegs releaseLeg { s with mode := .run, cause := .none }

theorem resumedBase_changes (s : State) :
    ChangesOnly [.legs, .kerbs, .links] { s with mode := .run, cause := .none } (resumedBase s) :=
  forLegs_touches releaseLeg_touches bothLegs _

theorem takeResume_eq (s : State) :
    takeResume s =
      match s.isolation with
      | none => resumedBase s
      | some i => enterIsolated i { resumedBase s with isolation := none } := by
  have h : (resumedBase s).isolation = s.isolation := resumedBase_changes s .isolation (by decide)
  change (match (resumedBase s).isolation with
    | none => resumedBase s
    | some i => enterIsolated i { resumedBase s with isolation := none }) = _
  rw [h]

theorem takeResume_modeOk {s : State} (h : ModeOk s) (hm : s.mode = .flash) (hc : s.cause ≠ .config) : ModeOk (takeResume s) := by
  have hbase : ModeOk { resumedBase s with isolation := none } := by
    refine modeOk_reads.frame (ps := [.legs, .kerbs, .links]) (fun p hp => ?_) rfl (h.resumed hm hc)
    have := resumedBase_changes s p hp
    cases p <;> first | exact this | rfl
  rw [takeResume_eq]
  cases hi : s.isolation with
  | none =>
    have hn : (resumedBase s).isolation = none := (resumedBase_changes s .isolation (by decide)).trans hi
    rwa [show ({ resumedBase s with isolation := none } : State) = resumedBase s by rw [← hn]] at hbase
  | some i =>
    exact enterIsolated_modeOk i hbase (.inr (resumedBase_changes s .mode (by decide)))

theorem joinDone_modeOk {s : State} (h : ModeOk s) (hd : s.join.due = true) : ModeOk (joinDone s) := by
  have hrun : s.join.running = true := by rw [(Countdown.due_iff _).mp hd]
  have hm : s.mode = .listen := h.2.2.2.1.mp hrun
  obtain ⟨hcause, hcheck, hiso⟩ := h.plain (.inr (.inl hm))
  obtain ⟨hcfg, hread, hheld⟩ := h.service (by rw [hm]; decide) (by rw [hcause]; decide)
  have hbase : ModeOk { s with mode := .run, join := .stopped } :=
    ⟨by simp [hcause, causeAllowed], by simp [hcheck, hcause], by simp [hiso], by simp [Countdown.stopped], by simp [hcfg, hcause],
     by simp [hread], by simp [hheld]⟩
  refine modeOk_reads.frame (ps := [.line]) ?_ rfl hbase
  exact forLegs_touches (fun l s => ChangesOnly.ite (enqueueLeg_touches l .bid s) (.refl _ s)) bothLegs _

theorem conflictAtStart_modeOk : Keeps ModeOk conflictAtStart :=
  .ite (Keeps.comp (flashFrom_modeOk rfl) (modeOk_reads.keeps (setFlag_touches _) rfl)) (fun _ h => h)

theorem configLoaded_modeOk (bytes : List Byte) {s : State} (h : ModeOk s) (hm : s.mode = .start) (hr : s.resetHeld = false) :
    ModeOk (configLoaded bytes s) := by
  obtain ⟨-, hcheck, hiso⟩ := h.plain (.inl hm)
  unfold configLoaded; extract_lets s1 s2 s3 s4
  have hc : ChangesOnly [.port] { s with reading := false, cfg := some (loadImage bytes) } s1 := setFlagIf_touches _ _ _
  have h2 : ModeOk s2 :=
    enterListen_modeOk (by rw [hc .cfg (by decide)]; nofun) ((hc .faultCheck (by decide)).trans hcheck)
      ((hc .isolation (by decide)).trans hiso) (hc .reading (by decide)) ((hc .resetHeld (by decide)).trans hr)
  have h3 : ModeOk s3 := modeOk_reads.keeps
    (forLegs_touches (fun l => (releaseLeg_touches l).seq (track_touches l) (ps := [.legs, .kerbs, .links, .ambient]) rfl rfl) bothLegs)
    rfl s2 h2
  have h4 : ModeOk s4 := by
    simp only [s4]; split
    · exact h3
    · exact modeOk_reads.frame (updLeg_touches _ _ s3) rfl h3
  exact conflictAtStart_modeOk s4 h4

theorem configFault_modeOk {c : FaultCheck} (hc : c ≠ .none) {s : State} (h : ModeOk s) (hm : s.mode = .start)
    (hr : s.resetHeld = false) : ModeOk (configFault c s) := by
  obtain ⟨-, -, -, hjoin, hcfg, -⟩ := h
  have hj : s.join.running = false := by
    cases hr : s.join.running
    · rfl
    · rw [hm] at hjoin; exact absurd (hjoin.mp hr) (by decide)
  have hbase : ModeOk { s with reading := false, faultCheck := c, mode := .flash, cause := .config, isolation := none } :=
    ⟨rfl, by simp [hc], by simp, by simp [hj], by simp [hcfg.mpr (.inl hm)], by simp, by simp [hr]⟩
  exact conflictAtStart_modeOk _ (modeOk_reads.frame
    (((setFlag_touches .cfgFault).seq flashBlocks_touches (ps := [.port, .legs, .calls, .slots, .kerbs, .links]) rfl rfl) _) rfl hbase)

theorem configRead_modeOk (bytes : List Byte) {s : State} (h : ModeOk s) (hm : s.mode = .start) (hr : s.resetHeld = false) :
    ModeOk (configRead bytes s) := by
  unfold configRead
  split
  · exact configLoaded_modeOk bytes h hm hr
  · next hne => exact configFault_modeOk hne h hm hr

theorem startBlocks_modeOk {s : State} (hr : s.resetHeld = false) : ModeOk (startBlocks s) :=
  ⟨rfl, by simp [startBlocks], by simp [startBlocks], by simp [startBlocks, Countdown.stopped], by simp [startBlocks],
   by simp [startBlocks], by simp [startBlocks, hr]⟩

theorem startNow_modeOk (straps : BitVec 2) (phq prq quiet : Bool) (s : State) : ModeOk (startNow straps phq prq quiet s) := by
  refine modeOk_reads.frame (stopWords_touches _) rfl ?_
  exact ⟨rfl, by simp [coldStart, startBlocks], by simp [coldStart, startBlocks], by simp [coldStart, startBlocks, Countdown.stopped],
    by simp [coldStart, startBlocks], by simp [coldStart, startBlocks], by simp [coldStart, startBlocks]⟩

theorem holdReset_modeOk (s : State) : ModeOk (holdReset s) :=
  ⟨rfl, by simp [holdReset, coldStart, startBlocks], by simp [holdReset, coldStart, startBlocks],
    by simp [holdReset, coldStart, startBlocks, Countdown.stopped], by simp [holdReset, coldStart, startBlocks],
    by simp [holdReset], by simp [holdReset, coldStart, startBlocks]⟩

theorem runResume_modeOk : Keeps ModeOk (fun s => (runResume s).1) := by
  intro s h; dsimp only; unfold runResume
  split
  · exact h
  · next hm =>
    split
    · exact h
    · next hc =>
      split
      · exact h
      · exact takeResume_modeOk h (not_not.mp hm) hc

theorem runCommand_modeOk (c : PortCommand) (ops : List Byte) {s : State} (hr : s.resetHeld = false) (h : ModeOk s) :
    ModeOk (runCommand c ops s).1 := by
  cases c with
  | flash => exact flashFrom_modeOk rfl s h
  | resume => exact runResume_modeOk s h
  | isol => exact reportIsolation_modeOk .command s h
  | join => exact takeJoin_modeOk s h
  | rstrt => exact modeOk_reads.frame (stopWords_touches _) rfl (startBlocks_modeOk hr)
  | _ => exact modeOk_reads.frame (runCommand_touches _ ops s) rfl h

theorem takeCommand_modeOk (c : PortCommand) (ops : List Byte) {s : State} (hr : s.resetHeld = false) (h : ModeOk s) :
    ModeOk (takeCommand c ops s) :=
  takeCommand_keeps (fun _ _ _ => modeOk_reads.keeps (putReply_touches _ _ _) rfl) c ops (runCommand_modeOk c ops hr) h

theorem dispatch_modeOk (f : Frame) : Keeps ModeOk (dispatch f) := fun s h =>
  modeOk_reads.frame (tableTakes_touches f _) rfl (modeOk_reads.frame (blocksTake_touches f s) rfl h)

theorem takeValid_modeOk (f : Frame) : Keeps ModeOk (takeValid f) := .ite duplicateFound_modeOk (dispatch_modeOk f)

theorem takeFrame_modeOk (f : Frame) : Keeps ModeOk (takeFrame f) :=
  takeFrame_keeps (modeOk_reads.keeps (updLine_touches _) rfl) (modeOk_reads.keeps countFormat_touches rfl) f
    (fun s _ h => takeValid_modeOk f s h)

theorem takeBits_modeOk (bits : List Bool) : Keeps ModeOk (takeBits bits) :=
  takeBits_keeps (modeOk_reads.keeps (updLine_touches _) rfl) (modeOk_reads.keeps countFormat_touches rfl)
    (modeOk_reads.keeps countCrc_touches rfl) bits (fun f s _ h => takeValid_modeOk f s h)

theorem collide_modeOk : Keeps ModeOk collide := by
  intro s h; unfold collide; extract_lets s1
  have h1 : ModeOk s1 := modeOk_reads.frame ((stopOwnFrame_touches.seq (updLine_touches _) (ps := [.slots, .line]) rfl rfl) s) rfl h
  split
  · exact duplicateFound_modeOk s1 h1
  · exact h1

theorem checkConflict_modeOk (l : LegId) (before : Lamps LampRec) : Keeps ModeOk (checkConflict l before) :=
  .ite (Keeps.comp (flashFrom_modeOk rfl) (modeOk_reads.keeps (setFlag_touches _) rfl)) (fun _ h => h)

theorem tick_modeOk : Keeps ModeOk tick := by
  intro s h
  have hjoin : (tick s).join.running = s.join.running := Countdown.tick_running s.join
  obtain ⟨h1, h2, h3, h4, h5⟩ := h
  exact ⟨h1, h2, h3, by rw [hjoin]; exact h4, h5⟩

theorem effect_modeOk (c : Instr) (s : State) (hr : s.resetHeld = false) (ho : occurs c s = true) (h : ModeOk s) :
    ModeOk (effect c s) := by
  cases c with
  | start | resetPinAssert => exact h
  | configurationRead bytes => exact configRead_modeOk bytes h (h.2.2.2.2.2.1 ho) hr
  | joinExpiry => exact joinDone_modeOk h ho
  | collisionError => exact collide_modeOk s h
  | lineFault => exact takeLineFault_modeOk s h
  | lineClear => exact takeLineClear_modeOk s h
  | invalidFrameReceived bits => exact takeBits_modeOk bits s h
  | duplicateFrameReceived | beaconReceived | bidReceived | keepReceived | cedeReceived | clearwayReceived | clearEndReceived =>
    exact takeFrame_modeOk _ s h
  | lampReadbackChange l i on =>
    exact checkConflict_modeOk l _ _ (modeOk_reads.frame (updLamp_touches l i _ s) rfl h)
  | mismatchExpiry l i =>
    have h1 : ModeOk (setFlag .lampFail (updLamp l i (fun r => { r with failed := true, mismatch := .stopped }) s)) :=
      modeOk_reads.frame (((updLamp_touches l i _).seq (setFlag_touches _) (ps := [.lamps, .port]) rfl rfl) s) rfl h
    simp only [effect, mismatchDone]
    split
    · exact flashFrom_modeOk rfl _ h1
    · exact h1
  | flash ops | resume ops | isol ops | join ops => exact takeCommand_modeOk _ ops hr h
  | rstrt w =>
    exact takeCommand_modeOk .rstrt w.bytes ((pinAtRestart_touches w s .resetHeld (by decide)).trans hr)
      (modeOk_reads.frame (pinAtRestart_touches w s) rfl h)
  | unknownCommand code ops =>
    simp only [effect]
    cases commandOf code with
    | none => exact modeOk_reads.frame (putReply_touches _ _ _ s) rfl h
    | some c => exact takeCommand_modeOk c ops hr h
  | startPulse recessive dominant =>
    have h1 := modeOk_reads.frame (updLine_touches (fun n => { n with monitor := monitorAfter recessive dominant.length n.monitor }) s) rfl h
    simp only [effect, judgePulse]
    split
    · exact takeLineFault_modeOk _ h1
    · exact h1
  | decisecondTick => exact tick_modeOk s h
  | _ => exact modeOk_reads.frame (effect_touches _ s) rfl h

theorem exec_modeOk {c : Instr} {s t : State} (h : exec c s = .next t) (hs : ModeOk s) : ModeOk t :=
  exec_keeps (fun straps phq prq quiet s _ => startNow_modeOk straps phq prq quiet s) (fun s _ => holdReset_modeOk s)
    (fun c s _ hs => modeOk_reads.frame (whileHeld_pins c s) rfl hs) (modeOk_reads.later rfl) (modeOk_reads.settle rfl) effect_modeOk h hs

/-- Settles O55: START gives the agreement, the Mode Controller's operations keep it, and the other effects do not read on it. -/
theorem modeIsKept : Obligations.ModeIsKept := by
  unfold Obligations.ModeIsKept
  intro s t hs h
  exact step_keeps (modeOk_reads.pending rfl) (fun _ _ _ => exec_modeOk) h hs

end Sys2Proof.Machine
end

section
/-! The Hold Unit through an event: what leaves all but the clearway repeat countdown alone, and the handshake of its request sides
with their lines (R142, R145 to R148). The lamps: what settling leaves of each, and that its records agree with the readbacks and the
commands (R167). -/

namespace Sys2Proof.Machine

/-! ### What every event settles (R146, R167) -/

theorem lampOn_congr {s t : State} (hl : t.legs = s.legs) (hc : t.cfg = s.cfg) (l : LegId) (i : LampId) : lampOn t l i = lampOn s l i := by
  simp only [lampOn, inUse_congr hc, hl]

theorem lampOn_settle (s : State) (l : LegId) (i : LampId) : lampOn (settle s) l i = lampOn s l i :=
  lampOn_congr (settle_touches s .legs (by decide)) (settle_cfg s) l i

/-- Outside START settling compares each lamp with its command (R167). -/
theorem lampRec_settle (s : State) (l : LegId) (i : LampId) :
    lampRec (settle s) l i = if s.mode = .start then lampRec s l i else proveLamp (lampOn s l i) (lampRec s l i) := by
  have hmode : (testHoldSide s).mode = s.mode := testHoldSide_touches s .mode (by decide)
  have hlamps : (testHoldSide s).lamps = s.lamps := testHoldSide_touches s .lamps (by decide)
  have hon := lampOn_congr (testHoldSide_touches s .legs (by decide)) (testHoldSide_touches s .cfg (by decide)) l
  unfold settle proveLamps
  rw [hmode]
  split
  · rw [lampRec, hlamps, lampRec]
  · cases l <;> cases i <;> simp only [lampRec, proveLeg, Legs.get, Lamps.get, hon, hlamps]

theorem settle_lamps_of_start {s : State} (hm : s.mode = .start) : (settle s).lamps = s.lamps := by
  have hmode : (testHoldSide s).mode = .start := (testHoldSide_touches s .mode (by decide)).trans hm
  rw [settle, proveLamps, if_pos hmode]
  exact testHoldSide_touches s .lamps (by decide)

theorem proveLamp_readback (on : Bool) (r : LampRec) : (proveLamp on r).readback = r.readback := by
  unfold proveLamp
  split
  · rfl
  · split <;> rfl

theorem proveLamp_agrees {on : Bool} {r : LampRec} (h : r.readback = on) :
    proveLamp on r = { r with mismatch := .stopped, failed := false } := if_pos h

theorem proveLamp_goesOn {on : Bool} {r : LampRec} (h : r.readback ≠ on) (hr : r.mismatch.running = true ∨ r.failed = true) :
    proveLamp on r = r := by
  rw [proveLamp, if_neg h, if_pos]
  rw [Bool.or_eq_true]; exact hr.symm

theorem proveLamp_begins {on : Bool} {r : LampRec} (h : r.readback ≠ on) (hm : r.mismatch.running = false) (hf : r.failed = false) :
    proveLamp on r = { r with mismatch := .load 3 } := by
  rw [proveLamp, if_neg h, hf, hm]; rfl

theorem inUse_iff (s : State) (l : LegId) : inUse s l = true ↔ l = .leg0 ∨ ∀ c, s.cfg = some c → c.leg1 ≠ none := by
  unfold inUse
  cases s.cfg with
  | none => simp
  | some c => simp [Option.isSome_iff_ne_none]

theorem holdAnswered_iff (s : State) :
    holdAnswered s = true ↔ s.mode = .flash ∨ ∀ l, inUse s l = true → legState s l = .held := by
  have hall (q : LegId → Prop) : (q .leg0 ∧ q .leg1) ↔ ∀ l, q l := ⟨fun h l => by cases l <;> simp_all, fun h => ⟨h _, h _⟩⟩
  rw [← hall]
  simp only [holdAnswered, bothLegs, List.all_cons, List.all_nil, Bool.and_true, Bool.or_eq_true, Bool.and_eq_true, Bool.not_eq_true',
    decide_eq_true_eq]
  cases inUse s .leg0 <;> cases inUse s .leg1 <;> simp

/-- Settles O42: the hold side and the lamps after `settle`, each in the cases of its rule. -/
theorem everyEventSettles : Obligations.EveryEventSettles := by
  unfold Obligations.EveryEventSettles
  intro s answered
  refine ⟨inUse_iff s, holdAnswered_iff s, fun hw ha => ?_, fun h => ?_, fun hm => ?_, fun hm l i => ⟨fun h => ?_, fun h hr => ?_,
    fun h hr hf => ?_⟩, settle_touches s⟩
  · rw [settle_hold_of_waiting hw, if_pos ((holdAnswered_iff s).mpr ha)]
  · rw [settle_hold, if_neg]
    rintro ⟨hw, ha⟩
    rcases h with h | h
    · exact h hw
    · exact h ((holdAnswered_iff s).mp ha)
  · exact settle_lamps_of_start hm
  · rw [lampRec_settle, if_neg hm, proveLamp_agrees]
    · rfl
    · simpa [mismatched, lampRec] using h
  · rw [lampRec_settle, if_neg hm, proveLamp_goesOn ((mismatched_iff s l i).mp h) hr]
  · rw [lampRec_settle, if_neg hm, proveLamp_begins ((mismatched_iff s l i).mp h) hr hf]; rfl

end Sys2Proof.Machine
end

section
/-! The Hold Unit through an event: what leaves all but the clearway repeat countdown alone, and the handshake of its request sides
with their lines (R142, R145 to R148). The lamp records agree with the readbacks and the commands (R167). -/

namespace Sys2Proof.Machine

/-- A part that is on the one list is not on the other. -/
theorem ChangesOnly.of_apart {ps qs : List Part} {s t : State} (h : ChangesOnly ps s t) (hd : partsApart ps qs = true) (p : Part)
    (hp : p ∈ qs) : p.same s t :=
  h p fun hm => by
    have := List.all_eq_true.mp hd p hm
    simp [hp] at this

/-! ### What leaves the Hold Unit alone, its clearway repeat countdown apart -/

/-- The Hold Unit is `x` but for its clearway repeat countdown. -/
def HoldIs (x : Hold) (s : State) : Prop := { s.hold with clearway := .stopped } = { x with clearway := .stopped }

theorem holdIs_reads (x : Hold) : ReadsOnly [.hold] (HoldIs x) := by
  intro s t h hs
  have ht : t.hold = s.hold := h .hold (by decide)
  rw [HoldIs, ht]; exact hs

theorem HoldIs.refl (s : State) : HoldIs s.hold s := rfl

theorem HoldIs.of_eq {x : Hold} {s t : State} {c : Countdown} (h : t.hold = { s.hold with clearway := c }) (hs : HoldIs x s) :
    HoldIs x t := by rw [HoldIs, h]; exact hs

theorem HoldIs.exists {x : Hold} {s : State} (h : HoldIs x s) : ∃ c, s.hold = { x with clearway := c } := by
  refine ⟨s.hold.clearway, ?_⟩
  have := congrArg (fun y : Hold => { y with clearway := s.hold.clearway }) h
  exact this

theorem startClearway_holdIs (x : Hold) : Keeps (HoldIs x) startClearway := by
  intro s hs
  rw [HoldIs, startClearway_hold]
  split <;> exact hs

theorem enterListen_holdIs (x : Hold) : Keeps (HoldIs x) enterListen := fun _ hs =>
  startClearway_holdIs x _ ((holdIs_reads x).keeps startBeacon_touches rfl _ hs)

theorem enterIsolated_holdIs (x : Hold) (i : Isolation) : Keeps (HoldIs x) (enterIsolated i) := fun s hs =>
  (holdIs_reads x).frame (enterIsolated_changes i s) rfl hs

theorem enterFlash_holdIs (x : Hold) (c : Cause) : Keeps (HoldIs x) (enterFlash c) := by
  intro s hs
  have h : HoldIs x (startBeacon (flashBlocks (flashMode c s))) :=
    (holdIs_reads x).keeps startBeacon_touches rfl _ ((holdIs_reads x).keeps flashBlocks_touches rfl (flashMode c s) hs)
  rw [enterFlash_eq]
  split
  · exact startClearway_holdIs x _ h
  · exact h

theorem flashFrom_holdIs (x : Hold) (c : Cause) : Keeps (HoldIs x) (flashFrom c) := .ite (fun _ h => h) (enterFlash_holdIs x c)

theorem reportIsolation_holdIs (x : Hold) (i : Isolation) : Keeps (HoldIs x) (reportIsolation i) := by
  intro s h; unfold reportIsolation
  split
  case h_1 | h_2 => exact enterIsolated_holdIs x i s h
  case h_3 => split <;> exact h
  case h_4 => split <;> exact h
  case h_5 => exact h

theorem duplicateFound_holdIs (x : Hold) : Keeps (HoldIs x) duplicateFound := fun _ h => reportIsolation_holdIs x .duplicate _ h

theorem takeLineFault_holdIs (x : Hold) : Keeps (HoldIs x) takeLineFault := by
  refine .ite (Keeps.comp (reportIsolation_holdIs x .line) ?_) (fun _ h => h)
  exact Keeps.comp ((holdIs_reads x).keeps discardReception_touches rfl)
    (Keeps.comp ((holdIs_reads x).keeps stopOwnFrame_touches rfl)
      (Keeps.comp ((holdIs_reads x).keeps (updLine_touches _) rfl) ((holdIs_reads x).keeps (setFlag_touches _) rfl)))

theorem takeLineClear_holdIs (x : Hold) : Keeps (HoldIs x) takeLineClear := by
  intro s h; unfold takeLineClear
  split
  · extract_lets s1
    split
    · exact enterListen_holdIs x s1 h
    · split <;> exact h
  · exact h

theorem takeJoin_holdIs (x : Hold) : Keeps (HoldIs x) takeJoin := by
  intro s h; unfold takeJoin
  split
  · split
    · exact h
    · exact enterListen_holdIs x s h
  · split
    · exact h
    · split <;> exact h
  · exact h

theorem takeResume_holdIs (x : Hold) : Keeps (HoldIs x) takeResume := by
  intro s h
  have hb : HoldIs x (resumedBase s) := (holdIs_reads x).frame (resumedBase_changes s) rfl h
  rw [takeResume_eq]
  split
  · exact hb
  · exact enterIsolated_holdIs x _ _ hb

theorem runResume_holdIs (x : Hold) : Keeps (HoldIs x) (fun s => (runResume s).1) := by
  intro s h; dsimp only; unfold runResume
  split
  · exact h
  · split
    · exact h
    · split
      · exact h
      · exact takeResume_holdIs x s h

theorem conflictAtStart_holdIs (x : Hold) : Keeps (HoldIs x) conflictAtStart :=
  .ite (fun _ h => flashFrom_holdIs x .conflict _ h) (fun _ h => h)

theorem configRead_holdIs (x : Hold) (bytes : List Byte) : Keeps (HoldIs x) (configRead bytes) := by
  intro s h; unfold configRead
  split
  · unfold configLoaded; extract_lets s1 s2 s3 s4
    have h1 : HoldIs x s1 := (holdIs_reads x).keeps (setFlagIf_touches _ _) rfl { s with reading := false, cfg := some (loadImage bytes) } h
    have h3 : HoldIs x s3 := (holdIs_reads x).keeps
      (forLegs_touches (fun l => (releaseLeg_touches l).seq (track_touches l) (ps := [.legs, .kerbs, .links, .ambient]) rfl rfl) bothLegs)
      rfl s2 (enterListen_holdIs x s1 h1)
    refine conflictAtStart_holdIs x s4 ?_
    simp only [s4]; split
    · exact h3
    · exact (holdIs_reads x).frame (updLeg_touches _ _ s3) rfl h3
  · unfold configFault; extract_lets s1
    exact conflictAtStart_holdIs x _ ((holdIs_reads x).keeps flashBlocks_touches rfl s1 h)

theorem collide_holdIs (x : Hold) : Keeps (HoldIs x) collide := by
  intro s h; unfold collide; extract_lets s1
  split
  · exact duplicateFound_holdIs x s1 h
  · exact h

theorem checkConflict_holdIs (x : Hold) (l : LegId) (before : Lamps LampRec) : Keeps (HoldIs x) (checkConflict l before) :=
  .ite (fun _ h => flashFrom_holdIs x .conflict _ h) (fun _ h => h)

theorem mismatchDone_holdIs (x : Hold) (l : LegId) (i : LampId) : Keeps (HoldIs x) (mismatchDone l i) := by
  intro s h; unfold mismatchDone; extract_lets red s1
  split
  · exact flashFrom_holdIs x .lamp s1 h
  · exact h

theorem judgePulse_holdIs (x : Hold) (recessive : Nat) (dominant : Dominant) : Keeps (HoldIs x) (judgePulse recessive dominant) := by
  intro s h; unfold judgePulse; extract_lets s1
  split
  · exact takeLineFault_holdIs x s1 h
  · exact h

theorem clearwayDone_holdIs (x : Hold) : Keeps (HoldIs x) clearwayDone := fun s hs =>
  (HoldIs.of_eq (c := .load 20) rfl ((holdIs_reads x).keeps (enqueueClear_touches .clearway) rfl s hs))

/-! ### Every effect but those of the Hold Unit's own inputs -/

/-- The port command changes the hold sources, or restarts the Hold Unit. -/
def portChangesHold : PortCommand → Bool
  | .hold | .rstrt => true
  | _ => false

theorem takeCommand_holdIs (x : Hold) {c : PortCommand} (hc : portChangesHold c = false) (ops : List Byte) :
    Keeps (HoldIs x) (takeCommand c ops) := by
  refine fun s => takeCommand_keeps (fun _ _ _ => (holdIs_reads x).keeps (putReply_touches _ _ _) rfl) c ops fun h => ?_
  cases c with
  | hold | rstrt => cases hc
  | flash => exact flashFrom_holdIs x .command s h
  | resume => exact runResume_holdIs x s h
  | isol => exact reportIsolation_holdIs x .command s h
  | join => exact takeJoin_holdIs x s h
  | _ => exact (holdIs_reads x).frame (runCommand_touches _ ops s) rfl h

/-- The frame is a CLEARWAY or a CLEAR_END, which the Hold Unit takes (R58). -/
def isClearwayFrame : Frame → Bool
  | .clearway _ | .clearEnd _ => true
  | _ => false

theorem takeValid_holdIs (x : Hold) {f : Frame} (hf : isClearwayFrame f = false) : Keeps (HoldIs x) (takeValid f) := by
  refine .ite (duplicateFound_holdIs x) fun s h => (holdIs_reads x).keeps (tableTakes_touches f) rfl _ ?_
  cases f with
  | clearway | clearEnd => cases hf
  | bid | keep => exact (holdIs_reads x).frame (slotsTake_touches _ s) rfl h
  | beacon | cede => exact h

theorem takeFrame_holdIs (x : Hold) {f : Frame} (hf : isClearwayFrame f = false) : Keeps (HoldIs x) (takeFrame f) :=
  takeFrame_keeps ((holdIs_reads x).keeps (updLine_touches _) rfl) ((holdIs_reads x).keeps countFormat_touches rfl) f
    (fun s _ h => takeValid_holdIs x hf s h)

/-- The command is one that the Hold Unit itself takes, or that steps or restarts it. -/
def ofHoldUnit : Instr → Bool
  | .start _ _ _ _ | .resetPinAssert | .phqRise | .phqFall | .prqRise | .prqFall | .refreshExpiry _ | .hold _ | .rstrt _
  | .unknownCommand _ _ | .invalidFrameReceived _ | .duplicateFrameReceived _ | .clearwayReceived _ | .clearEndReceived _
  | .decisecondTick => true
  | _ => false

/-- Every other command leaves the Hold Unit as it is, its clearway repeat countdown apart. -/
theorem effect_holdIs {c : Instr} (hc : ofHoldUnit c = false) (s : State) : HoldIs s.hold (effect c s) := by
  have h := HoldIs.refl s
  cases c with
  | start | resetPinAssert | phqRise | phqFall | prqRise | prqFall | refreshExpiry | hold | rstrt | unknownCommand | invalidFrameReceived
  | duplicateFrameReceived | clearwayReceived | clearEndReceived | decisecondTick => cases hc
  | configurationRead bytes => exact configRead_holdIs _ bytes s h
  | collisionError => exact collide_holdIs _ s h
  | lineFault => exact takeLineFault_holdIs _ s h
  | lineClear => exact takeLineClear_holdIs _ s h
  | startPulse recessive dominant => exact judgePulse_holdIs _ recessive dominant s h
  | beaconReceived | bidReceived | keepReceived | cedeReceived => exact takeFrame_holdIs _ rfl s h
  | clearwayRepeatExpiry => exact clearwayDone_holdIs _ s h
  | lampReadbackChange l i on => exact checkConflict_holdIs _ l _ _ h
  | mismatchExpiry l i => exact mismatchDone_holdIs _ l i s h
  | flash ops | resume ops | isol ops | join ops => exact takeCommand_holdIs _ rfl ops s h
  | _ => exact (holdIs_reads _).frame (effect_touches _ s) rfl h

/-! ### The request sides and their lines (R142, R145 to R148) -/

/-- The request sides and the acknowledge lines are those of `x`. -/
def SidesAre (x : Hold) (s : State) : Prop :=
  s.hold.side = x.side ∧ s.hold.pha = x.pha ∧ s.hold.release = x.release ∧ s.hold.pra = x.pra

theorem HoldIs.sides {x : Hold} {s : State} (h : HoldIs x s) : SidesAre x s := by
  obtain ⟨c, hc⟩ := h.exists
  rw [SidesAre, hc]; exact ⟨rfl, rfl, rfl, rfl⟩

theorem sidesAre_reads (x : Hold) : ReadsOnly [.hold] (SidesAre x) := by
  intro s t h hs
  have ht : t.hold = s.hold := h .hold (by decide)
  rw [SidesAre, ht]; exact hs

/-- What leaves the Hold Unit as it is keeps the sides. -/
theorem SidesAre.of_holdIs {x : Hold} {s t : State} (hs : SidesAre x s) (h : HoldIs s.hold t) : SidesAre x t := by
  obtain ⟨h1, h2, h3, h4⟩ := h.sides
  obtain ⟨g1, g2, g3, g4⟩ := hs
  exact ⟨h1.trans g1, h2.trans g2, h3.trans g3, h4.trans g4⟩

theorem changeHolders_sides (x : Hold) (f : List Holder → List Holder) : Keeps (SidesAre x) (changeHolders f) := by
  intro s h
  rw [SidesAre, changeHolders, changeSources_hold]; exact h

theorem takeValid_sides (x : Hold) (f : Frame) : Keeps (SidesAre x) (takeValid f) := by
  refine .ite (fun s h => h.of_holdIs (duplicateFound_holdIs _ s (.refl s))) fun s h =>
    (sidesAre_reads x).keeps (tableTakes_touches f) rfl _ ?_
  cases f with
  | clearway f =>
    unfold blocksTake holdTakesClearway; dsimp only
    split <;> exact changeHolders_sides x _ s h
  | clearEnd f => exact changeHolders_sides x _ s h
  | bid | keep => exact (sidesAre_reads x).frame (slotsTake_touches _ s) rfl h
  | beacon | cede => exact h

theorem takeFrame_sides (x : Hold) (f : Frame) : Keeps (SidesAre x) (takeFrame f) :=
  takeFrame_keeps ((sidesAre_reads x).keeps (updLine_touches _) rfl) ((sidesAre_reads x).keeps countFormat_touches rfl) f
    (fun s _ h => takeValid_sides x f s h)

theorem takeBits_sides (x : Hold) (bits : List Bool) : Keeps (SidesAre x) (takeBits bits) :=
  takeBits_keeps ((sidesAre_reads x).keeps (updLine_touches _) rfl) ((sidesAre_reads x).keeps countFormat_touches rfl)
    ((sidesAre_reads x).keeps countCrc_touches rfl) bits (fun f s _ h => takeValid_sides x f s h)

/-- The lines agree with the sides; the third part of `HandshakeOk` is of a part whose RESET pin is not held. -/
theorem HandshakeOk.of_sides {s t : State} (h : HandshakeOk s) (hs : SidesAre s.hold t) (hphq : t.phq = s.phq) (hprq : t.prq = s.prq)
    (hr : t.resetHeld = s.resetHeld) : HandshakeOk t := by
  obtain ⟨h1, h2, h3, h4⟩ := hs
  rw [HandshakeOk, h1, h2, h3, h4, hphq, hprq, hr]; exact h

/-- START and RESTART put the sides as PHQ and PRQ read (R142). -/
theorem startBlocks_handshakeOk (s : State) : HandshakeOk (startBlocks s) := by
  refine ⟨?_, ?_, fun _ => ⟨?_, ?_⟩⟩ <;> simp only [startBlocks, Hold.atStart]
  · cases s.phq <;> simp
  · cases s.prq <;> simp
  · cases s.phq <;> simp
  · cases s.prq <;> simp

/-- The parts that `HandshakeOk` reads. -/
def handshakeParts : List Part := [.hold, .phq, .prq, .resetHeld]

theorem handshakeOk_reads : ReadsOnly handshakeParts HandshakeOk := by
  intro s t h hs
  have hh : t.hold = s.hold := h .hold (by decide)
  exact hs.of_sides ⟨by rw [hh], by rw [hh], by rw [hh], by rw [hh]⟩ (h .phq (by decide)) (h .prq (by decide)) (h .resetHeld (by decide))

theorem settle_handshakeOk : Keeps HandshakeOk settle := by
  intro s ⟨hpha, hpra, hlines⟩
  have hq : (settle s).phq = s.phq := settle_touches s .phq (by decide)
  have hp : (settle s).prq = s.prq := settle_touches s .prq (by decide)
  have hr : (settle s).resetHeld = s.resetHeld := settle_touches s .resetHeld (by decide)
  rw [HandshakeOk, hq, hp, hr, settle_hold]
  split
  · next hw =>
    refine ⟨by simp, hpra, fun h => ⟨?_, (hlines h).2⟩⟩
    rw [(hlines h).1, hw.1]; simp
  · exact ⟨hpha, hpra, hlines⟩

/-- A release that is taken raises PRA (R147), while PRQ is high. -/
theorem releaseTaken_handshakeOk {s : State} (hpha : s.hold.pha = true ↔ s.hold.side = .acknowledged)
    (hphq : s.phq = true ↔ s.hold.side ≠ .idle) (hprq : s.prq = true) : HandshakeOk (releaseTaken s) := by
  have hq : (releaseTaken s).phq = s.phq := releaseTaken_touches s .phq (by decide)
  have hp : (releaseTaken s).prq = s.prq := releaseTaken_touches s .prq (by decide)
  rw [HandshakeOk, hq, hp, releaseTaken_hold]
  exact ⟨hpha, by simp, fun _ => ⟨hphq, by simp [hprq]⟩⟩

theorem phqRise_handshakeOk {s : State} (hr : s.resetHeld = false) (hq : s.phq = false) (h : HandshakeOk s) :
    HandshakeOk (holdRequested { s with phq := true }) := by
  obtain ⟨hpha, hpra, hlines⟩ := h
  obtain ⟨hphq, hprq⟩ := hlines hr
  have hside : s.hold.pha = false := by
    rw [hq] at hphq
    have hidle : s.hold.side = .idle := by simpa using hphq
    rw [hidle] at hpha; simpa using hpha
  have ht : ChangesOnly holdParts { s with phq := true } (holdRequested { s with phq := true }) := holdRequested_touches _
  obtain ⟨c, hc⟩ := holdRequested_hold { s with phq := true }
  rw [HandshakeOk, hc, ht .phq (by decide), ht .prq (by decide)]
  exact ⟨by simp [Hold.request, hside], hpra, fun _ => ⟨by simp [Hold.request], hprq⟩⟩

theorem phqFall_handshakeOk {s : State} (hr : s.resetHeld = false) (h : HandshakeOk s) :
    HandshakeOk (holdLowered { s with phq := false }) := by
  obtain ⟨-, hpra, hlines⟩ := h
  obtain ⟨-, hprq⟩ := hlines hr
  by_cases hd : s.hold.release = .deferred
  · rw [holdLowered_deferred (s := { s with phq := false }) hd]
    exact releaseTaken_handshakeOk (by simp) (by simp) (hprq.mpr (by rw [hd]; decide))
  · rw [holdLowered_other (s := { s with phq := false }) hd]
    exact ⟨by simp, hpra, fun _ => ⟨by simp, hprq⟩⟩

theorem prqRise_handshakeOk {s : State} (hr : s.resetHeld = false) (hq : s.prq = false) (h : HandshakeOk s) :
    HandshakeOk (releaseRaised { s with prq := true }) := by
  obtain ⟨hpha, hpra, hlines⟩ := h
  obtain ⟨hphq, hprq⟩ := hlines hr
  have hidle : s.hold.release = .idle := by rw [hq] at hprq; simpa using hprq
  by_cases hp : s.phq = true
  · rw [releaseRaised_deferred (s := { s with prq := true }) hp]
    refine ⟨hpha, ?_, fun _ => ⟨hphq, by simp⟩⟩
    rw [hidle] at hpra; simpa using hpra
  · rw [releaseRaised_taken (s := { s with prq := true }) (Bool.eq_false_of_not_eq_true hp)]
    exact releaseTaken_handshakeOk hpha hphq rfl

theorem prqFall_handshakeOk {s : State} (hr : s.resetHeld = false) (h : HandshakeOk s) :
    HandshakeOk (releaseLowered { s with prq := false }) := by
  obtain ⟨hpha, -, hlines⟩ := h
  exact ⟨hpha, by simp [releaseLowered], fun _ => ⟨(hlines hr).1, by simp [releaseLowered]⟩⟩

theorem takeCommand_handshakeOk (c : PortCommand) (ops : List Byte) : Keeps HandshakeOk (takeCommand c ops) := by
  intro s h
  have ht := takeCommand_touches c ops s
  cases hc : portChangesHold c with
  | false =>
    have hs : SidesAre s.hold (takeCommand c ops s) := (takeCommand_holdIs s.hold hc ops s (.refl s)).sides
    refine h.of_sides hs (ht .phq ?_) (ht .prq ?_) (ht .resetHeld ?_) <;> cases c <;> first | decide | cases hc
  | true =>
    refine takeCommand_keeps (fun _ _ _ => handshakeOk_reads.keeps (putReply_touches _ _ _) rfl) c ops (fun h => ?_) h
    cases c with
    | hold =>
      have hs : SidesAre s.hold (runCommand .hold ops s).1 := by
        rw [SidesAre, runCommand, runHold, changeSources_hold]; exact ⟨rfl, rfl, rfl, rfl⟩
      have hr := runCommand_touches .hold ops s
      exact h.of_sides hs (hr .phq (by decide)) (hr .prq (by decide)) (hr .resetHeld (by decide))
    | rstrt => exact handshakeOk_reads.keeps stopWords_touches rfl _ (startBlocks_handshakeOk s)
    | _ => cases hc

theorem effect_handshakeOk (c : Instr) (s : State) (hr : s.resetHeld = false) (ho : occurs c s = true) (h : HandshakeOk s) :
    HandshakeOk (effect c s) := by
  have ht := effect_touches c s
  have hsides (hs : SidesAre s.hold (effect c s)) (hd : partsApart (settledByEffect c ++ commandParts c) [.phq, .prq, .resetHeld] = true) :
      HandshakeOk (effect c s) :=
    h.of_sides hs (ht.of_apart hd .phq (by decide)) (ht.of_apart hd .prq (by decide)) (ht.of_apart hd .resetHeld (by decide))
  cases c with
  | start | resetPinAssert => exact h
  | phqRise => exact phqRise_handshakeOk hr (by simpa [occurs] using ho) h
  | phqFall => exact phqFall_handshakeOk hr h
  | prqRise => exact prqRise_handshakeOk hr (by simpa [occurs] using ho) h
  | prqFall => exact prqFall_handshakeOk hr h
  | refreshExpiry st => exact hsides (changeHolders_sides _ _ _ (HoldIs.sides (.refl s))) rfl
  | hold ops => exact takeCommand_handshakeOk .hold ops s h
  | rstrt w => exact takeCommand_handshakeOk .rstrt w.bytes _ (handshakeOk_reads.frame (pinAtRestart_touches w s) rfl h)
  | unknownCommand code ops =>
    simp only [effect]
    cases commandOf code with
    | none => exact handshakeOk_reads.frame (putReply_touches _ _ _ s) rfl h
    | some c => exact takeCommand_handshakeOk c ops s h
  | invalidFrameReceived bits => exact hsides (takeBits_sides _ bits s (HoldIs.sides (.refl s))) rfl
  | duplicateFrameReceived | clearwayReceived | clearEndReceived =>
    exact hsides (takeFrame_sides _ _ s (HoldIs.sides (.refl s))) rfl
  | decisecondTick => exact hsides ⟨rfl, rfl, rfl, rfl⟩ rfl
  | _ => exact hsides (effect_holdIs rfl s).sides rfl

theorem whileHeld_handshakeOk (c : Instr) (s : State) (hr : s.resetHeld = true) (h : HandshakeOk s) : HandshakeOk (whileHeld c s) := by
  obtain ⟨hpha, hpra, -⟩ := h
  have ht := whileHeld_pins c s
  rw [HandshakeOk, ht .hold (by decide), ht .resetHeld (by decide)]
  exact ⟨hpha, hpra, fun hf => absurd (hr.symm.trans hf) (by decide)⟩

theorem coldStart_handshakeOk (s : State) : HandshakeOk (coldStart s) := startBlocks_handshakeOk s

theorem exec_handshakeOk {c : Instr} {s t : State} (h : exec c s = .next t) (hs : HandshakeOk s) : HandshakeOk t :=
  exec_keeps (fun _ _ _ _ _ _ => handshakeOk_reads.keeps stopWords_touches rfl _ (coldStart_handshakeOk _))
    (fun s _ => ⟨(coldStart_handshakeOk s).1, (coldStart_handshakeOk s).2.1, fun h => by cases h⟩) whileHeld_handshakeOk
    (handshakeOk_reads.later rfl) settle_handshakeOk effect_handshakeOk h hs

/-! ### The lamp records (R167) -/

/-- No lamp both counts a mismatch and has failed (R167). -/
def NoneTwice (s : State) : Prop := ∀ l i, ¬((lampRec s l i).mismatch.running = true ∧ (lampRec s l i).failed = true)

theorem noneTwice_reads : ReadsOnly [.lamps] NoneTwice := by
  intro s t h hs l i
  rw [lampRec, h .lamps (by decide)]; exact hs l i

/-- One lamp record replaced keeps the property where the new record has it. -/
theorem NoneTwice.map {s t : State} {f : LegId → LampId → LampRec → LampRec} (ht : ∀ l i, lampRec t l i = f l i (lampRec s l i))
    (hf : ∀ l i r, ¬(r.mismatch.running = true ∧ r.failed = true) → ¬((f l i r).mismatch.running = true ∧ (f l i r).failed = true))
    (h : NoneTwice s) : NoneTwice t := fun l i => by rw [ht]; exact hf l i _ (h l i)

theorem proveLamp_noneTwice (on : Bool) (r : LampRec) (h : ¬(r.mismatch.running = true ∧ r.failed = true)) :
    ¬((proveLamp on r).mismatch.running = true ∧ (proveLamp on r).failed = true) := by
  unfold proveLamp
  split
  · simp
  · split
    · exact h
    · next hn =>
      rw [Bool.or_eq_true, not_or] at hn
      exact fun hb => hn.1 hb.2

theorem settle_noneTwice : Keeps NoneTwice settle := fun s =>
  NoneTwice.map (f := fun l i r => if s.mode = .start then r else proveLamp (lampOn s l i) r) (fun l i => by rw [lampRec_settle])
    (fun l i r h => by split; exacts [h, proveLamp_noneTwice _ r h])

theorem lampRec_updLamp (l m : LegId) (i j : LampId) (f : LampRec → LampRec) (s : State) :
    lampRec (updLamp l i f s) m j = if m = l ∧ j = i then f (lampRec s m j) else lampRec s m j := by
  simp only [lampRec, updLamp, Legs.get_upd]
  by_cases hm : m = l
  · by_cases hj : j = i <;> simp [hm, hj, Lamps.get_upd]
  · simp [hm]

theorem updLamp_noneTwice (l : LegId) (i : LampId) {f : LampRec → LampRec}
    (hf : ∀ r, ¬(r.mismatch.running = true ∧ r.failed = true) → ¬((f r).mismatch.running = true ∧ (f r).failed = true)) :
    Keeps NoneTwice (updLamp l i f) := fun s =>
  NoneTwice.map (f := fun m j r => if m = l ∧ j = i then f r else r) (fun m j => lampRec_updLamp l m i j f s)
    (fun m j r h => by split; exacts [hf r h, h])

theorem setReadback_noneTwice (l : LegId) (i : LampId) (on : Bool) : Keeps NoneTwice (setReadback l i on) :=
  updLamp_noneTwice l i fun _ h => h

theorem mismatchDone_noneTwice (l : LegId) (i : LampId) : Keeps NoneTwice (mismatchDone l i) := by
  intro s h; unfold mismatchDone; extract_lets red s1
  have h1 : NoneTwice s1 :=
    noneTwice_reads.keeps (setFlag_touches .lampFail) rfl _ (updLamp_noneTwice l i (fun _ _ => by simp [Countdown.stopped]) s h)
  split
  · exact noneTwice_reads.frame (flashFrom_touches .lamp s1) rfl h1
  · exact h1

/-- A lamp record with its countdown stopped and its failed mark no. -/
def LampRec.cleared (r : LampRec) : LampRec := { r with mismatch := .stopped, failed := false }

theorem lampRec_startBlocks (s : State) (l : LegId) (i : LampId) : lampRec (startBlocks s) l i = (lampRec s l i).cleared := by
  cases l <;> cases i <;> rfl

theorem startBlocks_noneTwice (s : State) : NoneTwice (startBlocks s) := fun l i => by
  rw [lampRec_startBlocks]; simp [LampRec.cleared]

theorem lampRec_tick (s : State) (l : LegId) (i : LampId) : lampRec (tick s) l i = tickLamp (lampRec s l i) := by
  cases l <;> cases i <;> rfl

theorem tick_noneTwice : Keeps NoneTwice tick := fun s =>
  NoneTwice.map (f := fun _ _ => tickLamp) (lampRec_tick s) (fun l i r h => by rwa [tickLamp, Countdown.tick_running])

theorem takeCommand_noneTwice (c : PortCommand) (ops : List Byte) : Keeps NoneTwice (takeCommand c ops) := by
  refine fun s => takeCommand_keeps (fun _ _ _ => noneTwice_reads.keeps (putReply_touches _ _ _) rfl) c ops fun h => ?_
  cases c with
  | rstrt => exact noneTwice_reads.keeps stopWords_touches rfl _ (startBlocks_noneTwice s)
  | _ => exact noneTwice_reads.frame (runCommand_touches _ ops s) rfl h

theorem effect_noneTwice (c : Instr) (s : State) (h : NoneTwice s) : NoneTwice (effect c s) := by
  cases c with
  | start | resetPinAssert => exact h
  | lampReadbackChange l i on =>
    exact noneTwice_reads.frame (checkConflict_touches l _ _) rfl (setReadback_noneTwice l i on s h)
  | mismatchExpiry l i => exact mismatchDone_noneTwice l i s h
  | decisecondTick => exact tick_noneTwice s h
  | rstrt w => exact takeCommand_noneTwice .rstrt w.bytes _ (noneTwice_reads.frame (pinAtRestart_touches w s) rfl h)
  | unknownCommand code ops =>
    simp only [effect]
    cases commandOf code with
    | none => exact noneTwice_reads.frame (putReply_touches _ _ _ s) rfl h
    | some c => exact takeCommand_noneTwice c ops s h
  | _ => exact noneTwice_reads.frame (effect_touches _ s) rfl h

theorem whileHeld_noneTwice (c : Instr) (s : State) (h : NoneTwice s) : NoneTwice (whileHeld c s) := by
  cases c with
  | lampReadbackChange l i on => exact setReadback_noneTwice l i on s h
  | _ => exact h

theorem exec_noneTwice {c : Instr} {s t : State} (h : exec c s = .next t) (hs : NoneTwice s) : NoneTwice t :=
  exec_keeps (fun _ _ _ _ _ _ => noneTwice_reads.keeps stopWords_touches rfl (coldStart _) (startBlocks_noneTwice _))
    (fun _ _ => startBlocks_noneTwice _) (fun c s _ => whileHeld_noneTwice c s) (noneTwice_reads.later rfl) settle_noneTwice
    (fun c s _ _ => effect_noneTwice c s) h hs

/-- A lamp whose mismatch counts or has failed exactly while it differs from its command (R167). -/
theorem proveLamp_ok (on : Bool) (r : LampRec) :
    ((proveLamp on r).readback != on) = ((proveLamp on r).mismatch.running || (proveLamp on r).failed) := by
  by_cases hr : r.readback = on
  · rw [proveLamp_agrees hr]; simp [hr, Countdown.stopped]
  · by_cases hg : r.mismatch.running = true ∨ r.failed = true
    · rw [proveLamp_goesOn hr hg, (Bool.or_eq_true _ _).mpr hg]; simpa using hr
    · rw [not_or, Bool.not_eq_true, Bool.not_eq_true] at hg
      rw [proveLamp_begins hr hg.1 hg.2]; simpa [Countdown.load] using hr

/-- Outside START settling leaves every lamp record in agreement (R167). -/
theorem settle_lampOk {s : State} (hm : s.mode ≠ .start) (l : LegId) (i : LampId) : LampOk (settle s) l i := by
  have h : lampRec (settle s) l i = proveLamp (lampOn s l i) (lampRec s l i) := by rw [lampRec_settle, if_neg hm]
  rw [LampOk, h, ← proveLamp_ok, mismatched, lampOn_settle, ← h]; rfl

theorem lampsOk_iff (s : State) : LampsOk s ↔ (s.mode ≠ .start → ∀ l i, LampOk s l i) ∧ NoneTwice s := by
  have hl (l : LegId) : l ∈ bothLegs := by cases l <;> decide
  have hi (i : LampId) : i ∈ allLamps := by cases i <;> decide
  exact ⟨fun ⟨h1, h2⟩ => ⟨fun hm l i => h1 hm l (hl l) i (hi i), fun l i => h2 l (hl l) i (hi i)⟩,
    fun ⟨h1, h2⟩ => ⟨fun hm l _ i _ => h1 hm l i, fun l _ i _ => h2 l i⟩⟩

theorem exec_lampsOk {c : Instr} {s t : State} (hmode : ModeOk s) (h : exec c s = .next t) (hs : LampsOk s) : LampsOk t := by
  rw [lampsOk_iff] at hs ⊢
  refine ⟨fun hm l i => ?_, exec_noneTwice h hs.2⟩
  cases hc : beginsStart c with
  | true =>
    have hstart : t.mode = .start := by
      cases c with
      | start => cases h; exact stopWords_touches _ .mode (by decide)
      | resetPinAssert => cases h; rfl
      | _ => cases hc
    exact absurd hstart hm
  | false =>
    cases hr : s.resetHeld with
    | true =>
      rw [exec_held hr hc] at h; cases h
      rw [whileHeld_pins c s .mode (by decide)] at hm
      exact absurd (hmode.2.2.2.2.2.2 hr).1 hm
    | false =>
      rw [exec_eq hr hc] at h; cases h
      unfold outcomeOf at hm ⊢
      split at hm
      · next ho => rw [if_pos ho]; exact settle_lampOk (by rwa [settle_touches _ .mode (by decide)] at hm) l i
      · next ho => rw [if_neg ho]; exact hs.1 hm l i

/-- Settles O57: the effects keep the sides with their lines, and settling compares every lamp after each. -/
theorem handshakeAndLampsAreKept : Obligations.HandshakeAndLampsAreKept := by
  unfold Obligations.HandshakeAndLampsAreKept
  intro s t hmode h
  refine ⟨step_keeps (handshakeOk_reads.pending rfl) (fun _ _ _ => exec_handshakeOk) h, fun hl => ?_⟩
  have hboth := step_keeps (P := fun s => ModeOk s ∧ LampsOk s) (fun _ _ h => h)
    (fun _ _ _ he hs => ⟨exec_modeOk he hs.1, exec_lampsOk hs.1 he hs.2⟩) h ⟨hmode, hl⟩
  exact hboth.2

end Sys2Proof.Machine
end

section
/-! The Crossing Table, the holders and the own number through every step (R57, R60, R71, R74, R142, R153). -/

namespace Sys2Proof.Machine

/-! ### The table while a station's frame is taken (R63) -/

/-- `TableOk`, except that the heard countdown of station `st` need not fit its records; and no record has the own number. -/
structure TableBut (own st : Nat) (s : State) : Prop where
  ordered : s.table.Pairwise (fun a b => crossingKey a < crossingKey b)
  room : s.table.length ≤ tableCapacity
  heardOrdered : s.heard.Pairwise (fun a b => a.station < b.station)
  hears : ∀ c ∈ s.table, c.station ≠ st → ∃ h ∈ s.heard, h.station = c.station
  heardFor : ∀ h ∈ s.heard, h.station ≠ st → ∃ c ∈ s.table, c.station = h.station
  heardAtMost : ∀ h ∈ s.heard, h.left ≤ 45
  foreign : ∀ c ∈ s.table, c.station ≠ own

/-- The table is in its order, and no record has the own number. -/
def TableGood (own : Nat) (s : State) : Prop := TableOk s ∧ ∀ c ∈ s.table, c.station ≠ own

theorem TableGood.but {own : Nat} {s : State} (h : TableGood own s) (st : Nat) : TableBut own st s := by
  obtain ⟨⟨h1, h2, h3, h4, h5, h6⟩, h7⟩ := h
  exact ⟨h1, h2, h3, fun c hc _ => h4 c hc, fun x hx _ => h5 x hx, h6, h7⟩

/-- Step 3 of R63 puts the station's heard countdown right again. -/
theorem hearSender_good {own st : Nat} {s : State} (h : TableBut own st s) : TableGood own (hearSender st s) := by
  have hm (x : HeardCount) (hx : x ∈ (hearSender st s).heard) :
      (x = { station := st, left := 45 } ∧ hasRecord s.table st = true) ∨ (x ∈ s.heard ∧ x.station ≠ st) := by
    simp only [hearSender] at hx
    split at hx
    · next hr =>
      rcases (mem_putHeard h.heardOrdered).mp hx with rfl | hx
      · exact .inl ⟨rfl, hr⟩
      · exact .inr hx
    · exact .inr (mem_dropHeard.mp hx)
  refine ⟨⟨h.ordered, h.room, ?_, fun c hc => ?_, fun x hx => ?_, fun x hx => ?_⟩, h.foreign⟩
  · simp only [hearSender]
    split
    · exact putHeard_pairwise h.heardOrdered
    · exact dropHeard_pairwise h.heardOrdered
  · change c ∈ s.table at hc
    simp only [hearSender]
    by_cases hs : c.station = st
    · rw [if_pos (hasRecord_iff.mpr ⟨c, hc, hs⟩)]
      exact ⟨_, (mem_putHeard h.heardOrdered).mpr (.inl rfl), hs.symm⟩
    · obtain ⟨x, hx, hxc⟩ := h.hears c hc hs
      refine ⟨x, ?_, hxc⟩
      split
      · exact (mem_putHeard h.heardOrdered).mpr (.inr ⟨hx, by rw [hxc]; exact hs⟩)
      · exact mem_dropHeard.mpr ⟨hx, by rw [hxc]; exact hs⟩
  · rcases hm x hx with ⟨rfl, hr⟩ | ⟨hx, hne⟩
    · exact hasRecord_iff.mp hr
    · exact h.heardFor x hx hne
  · rcases hm x hx with ⟨rfl, -⟩ | ⟨hx, -⟩
    · exact Nat.le_refl 45
    · exact h.heardAtMost x hx

theorem removeStation_good {own st : Nat} {s : State} (h : TableBut own st s) : TableGood own (removeStation st s) := by
  have hm (c : Crossing) : c ∈ (removeStation st s).table ↔ c ∈ s.table ∧ c.station ≠ st := by simp [removeStation]
  refine ⟨⟨h.ordered.filter _, (List.length_filter_le _ _).trans h.room, dropHeard_pairwise h.heardOrdered, fun c hc => ?_,
    fun x hx => ?_, fun x hx => h.heardAtMost x (mem_dropHeard.mp hx).1⟩, fun c hc => h.foreign c ((hm c).mp hc).1⟩
  · obtain ⟨hc, hne⟩ := (hm c).mp hc
    obtain ⟨x, hx, hxc⟩ := h.hears c hc hne
    exact ⟨x, mem_dropHeard.mpr ⟨hx, by rw [hxc]; exact hne⟩, hxc⟩
  · obtain ⟨hx, hne⟩ := mem_dropHeard.mp hx
    obtain ⟨c, hc, hcx⟩ := h.heardFor x hx hne
    exact ⟨c, (hm c).mpr ⟨hc, by rw [hcx]; exact hne⟩, hcx⟩

/-- One record removed, with the heard countdown of a station that has none left. -/
theorem removeCrossing_but {own st : Nat} {s : State} (h : TableBut own st s) (n : Nat) (l : LegId) :
    TableBut own st (removeCrossing n l s) := by
  have hm (c : Crossing) : c ∈ (removeCrossing n l s).table ↔ c ∈ s.table ∧ ¬(c.station = n ∧ c.leg = l) := by
    simp only [removeCrossing, List.mem_filter, Bool.not_eq_true', Bool.and_eq_false_iff, decide_eq_false_iff_not, not_and_or]
  have hh (x : HeardCount) (hx : x ∈ (removeCrossing n l s).heard) :
      x ∈ s.heard ∧ (x.station = n → hasRecord (removeCrossing n l s).table n = true) := by
    simp only [removeCrossing] at hx
    split at hx
    · next hr => exact ⟨hx, fun _ => hr⟩
    · obtain ⟨hx, hne⟩ := mem_dropHeard.mp hx
      exact ⟨hx, fun he => absurd he hne⟩
  refine ⟨h.ordered.filter _, (List.length_filter_le _ _).trans h.room, ?_, fun c hc hne => ?_, fun x hx hne => ?_,
    fun x hx => h.heardAtMost x (hh x hx).1, fun c hc => h.foreign c ((hm c).mp hc).1⟩
  · simp only [removeCrossing]
    split
    · exact h.heardOrdered
    · exact dropHeard_pairwise h.heardOrdered
  · obtain ⟨x, hx, hxc⟩ := h.hears c ((hm c).mp hc).1 hne
    refine ⟨x, ?_, hxc⟩
    simp only [removeCrossing]
    split
    · exact hx
    · next hr =>
      exact mem_dropHeard.mpr ⟨hx, fun he => hr (hasRecord_iff.mpr ⟨c, hc, hxc.symm.trans he⟩)⟩
  · obtain ⟨hx, hr⟩ := hh x hx
    by_cases hn : x.station = n
    · obtain ⟨c, hc, hcn⟩ := hasRecord_iff.mp (hr hn)
      exact ⟨c, hc, hcn.trans hn.symm⟩
    · obtain ⟨c, hc, hcx⟩ := h.heardFor x hx hne
      exact ⟨c, (hm c).mpr ⟨hc, fun he => hn (hcx.symm.trans he.1)⟩, hcx⟩

/-- A record of the station put in its place, where there is room. -/
theorem putCrossing_but {own st : Nat} {s : State} (h : TableBut own st s) {c : Crossing} (hc : c.station = st) (hown : st ≠ own)
    (hroom : (putCrossing c s.table).length ≤ tableCapacity) : TableBut own st { s with table := putCrossing c s.table } := by
  refine ⟨putCrossing_pairwise h.ordered, hroom, h.heardOrdered, fun d hd hne => ?_, fun x hx hne => ?_, h.heardAtMost, fun d hd => ?_⟩
  · rcases (mem_putCrossing h.ordered).mp hd with rfl | ⟨hd, -⟩
    · exact absurd hc hne
    · exact h.hears d hd hne
  · obtain ⟨d, hd, hdx⟩ := h.heardFor x hx hne
    refine ⟨d, (mem_putCrossing h.ordered).mpr (.inr ⟨hd, fun hk => hne ?_⟩), hdx⟩
    rw [← hdx, (crossingKey_eq.mp hk).1, hc]
  · rcases (mem_putCrossing h.ordered).mp hd with rfl | ⟨hd, -⟩
    · rw [hc]; exact hown
    · exact h.foreign d hd

/-- A record put over the one of its crossing. -/
theorem putOver_but {own st : Nat} {s : State} (h : TableBut own st s) {c d : Crossing} (hc : c ∈ s.table) (hst : d.station = st)
    (hd : d.station = c.station ∧ d.leg = c.leg) (hown : st ≠ own) : TableBut own st { s with table := putCrossing d s.table } :=
  putCrossing_but h hst hown ((putCrossing_length_of_mem h.ordered hc (crossingKey_eq.mpr ⟨hd.1.symm, hd.2.symm⟩)).trans_le h.room)

theorem farthest_mem {s : State} {f : Crossing} (h : farthest s = some f) : f ∈ s.table := by
  have key (t : List Crossing) (best : Option Crossing) (hb : ∀ b, best = some b → b ∈ s.table) (ht : ∀ c ∈ t, c ∈ s.table) (f : Crossing)
      (hf : t.foldl (fun best c =>
        match best with
        | none => some c
        | some b => if distanceTo s b.position ≤ distanceTo s c.position then some c else some b) best = some f) : f ∈ s.table := by
    induction t generalizing best with
    | nil => exact hb f hf
    | cons c cs ih =>
      refine ih _ (fun b hb' => ?_) (fun d hd => ht d (List.mem_cons_of_mem _ hd)) hf
      have hc := ht c (List.mem_cons_self ..)
      cases best with
      | none => cases hb'; exact hc
      | some b0 =>
        dsimp only at hb'
        split at hb' <;> cases hb'
        · exact hc
        · exact hb b rfl
  exact key s.table none nofun (fun _ h => h) f h

theorem removeCrossing_length {s : State} {f : Crossing} (hf : f ∈ s.table) : (removeCrossing f.station f.leg s).table.length < s.table.length := by
  refine List.length_filter_lt_length_iff_exists.mpr ⟨f, hf, by simp⟩

theorem makeRecord_but {own st : Nat} {s : State} (h : TableBut own st s) {c : Crossing} (hc : c.station = st) (hown : st ≠ own) :
    TableBut own st (makeRecord c s) := by
  unfold makeRecord
  split
  · next hroom => exact putCrossing_but h hc hown ((putCrossing_length c s.table).trans hroom)
  · extract_lets s1
    have h1 : TableBut own st s1 := ⟨h.ordered, h.room, h.heardOrdered, h.hears, h.heardFor, h.heardAtMost, h.foreign⟩
    split
    · exact h1
    · next f hf =>
      split
      · refine putCrossing_but (removeCrossing_but h1 f.station f.leg) hc hown ((putCrossing_length c _).trans ?_)
        exact (removeCrossing_length (farthest_mem hf)).trans_le h1.room
      · exact h1

theorem setCrossing_but {own st : Nat} {s : State} (h : TableBut own st s) (hown : st ≠ own) (l : LegId) (position radius : Nat)
    (phase : Option LegState → LegState) (slot : Option Slot) : TableBut own st (setCrossing st l position radius phase slot s) := by
  unfold setCrossing
  split
  · next c hc =>
    obtain ⟨hm, hst, -⟩ := (findCrossing_eq_some h.ordered).mp hc
    exact putOver_but h hm hst ⟨rfl, rfl⟩ hown
  · exact makeRecord_but h rfl hown

theorem takeBeacon_but {own : Nat} {f : BeaconFrame} (hown : f.station.toNat ≠ own) {s : State} (h : TableBut own f.station.toNat s) :
    TableBut own f.station.toNat (takeBeacon f s) := by
  unfold takeBeacon; extract_lets put s1
  have h1 : TableBut own f.station.toNat s1 := setCrossing_but h hown ..
  split
  · exact setCrossing_but h1 hown ..
  · exact removeCrossing_but h1 ..

theorem takeCede_but {own : Nat} {f : CedeFrame} (hown : f.station.toNat ≠ own) {s : State} (h : TableBut own f.station.toNat s) :
    TableBut own f.station.toNat (takeCede f s) := by
  unfold takeCede
  split
  · next c hc =>
    obtain ⟨hm, hst, -⟩ := (findCrossing_eq_some h.ordered).mp hc
    exact putOver_but h hm hst ⟨rfl, rfl⟩ hown
  · exact h

/-- A change of the records and of the heard counts that leaves each its crossing, or its station, and raises no count. -/
theorem TableBut.map {own st : Nat} {s t : State} (h : TableBut own st s) {f : Crossing → Crossing} {g : HeardCount → HeardCount}
    (hf : ∀ c, (f c).station = c.station ∧ (f c).leg = c.leg) (hg : ∀ x, (g x).station = x.station ∧ (g x).left ≤ x.left)
    (ht : t.table = s.table.map f) (hh : t.heard = s.heard.map g) : TableBut own st t := by
  have hk (c : Crossing) : crossingKey (f c) = crossingKey c := crossingKey_eq.mpr (hf c)
  refine ⟨?_, ?_, ?_, fun c hc hne => ?_, fun x hx hne => ?_, fun x hx => ?_, fun c hc => ?_⟩
  · rw [ht, List.pairwise_map]; simpa only [hk] using h.ordered
  · rw [ht, List.length_map]; exact h.room
  · rw [hh, List.pairwise_map]; simpa only [(hg _).1] using h.heardOrdered
  · rw [ht] at hc; rw [hh]
    obtain ⟨d, hd, rfl⟩ := List.mem_map.mp hc
    rw [(hf d).1] at hne ⊢
    obtain ⟨x, hx, hxd⟩ := h.hears d hd hne
    exact ⟨g x, List.mem_map_of_mem hx, (hg x).1.trans hxd⟩
  · rw [hh] at hx; rw [ht]
    obtain ⟨y, hy, rfl⟩ := List.mem_map.mp hx
    rw [(hg y).1] at hne ⊢
    obtain ⟨c, hc, hcx⟩ := h.heardFor y hy hne
    exact ⟨f c, List.mem_map_of_mem hc, (hf c).1.trans hcx⟩
  · rw [hh] at hx
    obtain ⟨y, hy, rfl⟩ := List.mem_map.mp hx
    exact (hg y).2.trans (h.heardAtMost y hy)
  · rw [ht] at hc
    obtain ⟨d, hd, rfl⟩ := List.mem_map.mp hc
    rw [(hf d).1]; exact h.foreign d hd

/-- A table that is good but for each of two stations is good. -/
theorem TableGood.of_but {own : Nat} {s : State} (h : ∀ st, TableBut own st s) : TableGood own s :=
  ⟨⟨(h 0).ordered, (h 0).room, (h 0).heardOrdered, fun c hc => (h (c.station + 1)).hears c hc (by omega),
    fun x hx => (h (x.station + 1)).heardFor x hx (by omega), (h 0).heardAtMost⟩, (h 0).foreign⟩

theorem takePlaced_good {own st : Nat} {s : State} (h : TableGood own s) (position radius : Nat) {f : State → State}
    (hf : ∀ t, TableBut own st t → TableBut own st (f t)) : TableGood own (takePlaced st position radius f s) := by
  unfold takePlaced placeSender
  by_cases hr : relevant s position radius
  · rw [if_pos hr]
    refine hearSender_good (hf _ ((h.but st).map (g := id) (fun c => ?_) (fun _ => ⟨rfl, Nat.le_refl _⟩) rfl (List.map_id _).symm))
    split <;> exact ⟨rfl, rfl⟩
  · rw [if_neg hr]
    exact removeStation_good (h.but st)

/-- The table takes a frame of another station (R63). -/
theorem tableTakes_good {own : Nat} {f : Frame} (hown : frameStation f ≠ own) {s : State} (h : TableGood own s) :
    TableGood own (tableTakes f s) := by
  cases f with
  | beacon f => exact takePlaced_good h _ _ fun t => takeBeacon_but hown
  | bid f => exact takePlaced_good h _ _ fun t ht => setCrossing_but ht hown ..
  | keep f => exact takePlaced_good h _ _ fun t ht => setCrossing_but ht hown ..
  | cede f => exact hearSender_good (takeCede_but hown (h.but _))
  | clearway f => exact hearSender_good (h.but _)
  | clearEnd f => exact hearSender_good (h.but _)

/-! ### The holders (R142, R151 to R153) -/

/-- The holders set is in its order, and no holder has the own number. -/
def HoldersGood (own : Nat) (s : State) : Prop := HoldersOk s ∧ ∀ h ∈ s.hold.holders, h.station ≠ own

/-- The property reads the holders and STREET alone. -/
theorem HoldersGood.of_eq {own : Nat} {s t : State} (h : HoldersGood own s) (hh : t.hold.holders = s.hold.holders)
    (hs : t.hold.street = s.hold.street) : HoldersGood own t := by
  rw [HoldersGood, HoldersOk, hh, hs]; exact h

theorem HoldersGood.of_holdIs {own : Nat} {s t : State} (h : HoldersGood own s) (ht : HoldIs s.hold t) : HoldersGood own t := by
  obtain ⟨c, hc⟩ := ht.exists
  exact h.of_eq (by rw [hc]) (by rw [hc])

theorem changeHolders_good {own : Nat} {f : List Holder → List Holder} {s : State}
    (hordered : (f s.hold.holders).Pairwise (fun a b => a.station < b.station))
    (hf : ∀ h ∈ f s.hold.holders, h.left ≤ 60 ∧ h.station ≠ own) : HoldersGood own (changeHolders f s) := by
  rw [HoldersGood, HoldersOk, changeHolders, changeSources_hold]
  exact ⟨⟨hordered, rfl, fun h hh => (hf h hh).1⟩, fun h hh => (hf h hh).2⟩

theorem putHolder_good {own : Nat} {x : Holder} (hleft : x.left ≤ 60) (hown : x.station ≠ own) {s : State} (h : HoldersGood own s) :
    HoldersGood own (changeHolders (putHolder x) s) := by
  obtain ⟨⟨hordered, -, hle⟩, hne⟩ := h
  refine changeHolders_good (putHolder_pairwise hordered) fun y hy => ?_
  rcases (mem_putHolder hordered).mp hy with rfl | ⟨hy, -⟩
  · exact ⟨hleft, hown⟩
  · exact ⟨hle y hy, hne y hy⟩

theorem dropHolder_good {own : Nat} (st : Nat) {s : State} (h : HoldersGood own s) : HoldersGood own (changeHolders (dropHolder st) s) := by
  obtain ⟨⟨hordered, -, hle⟩, hne⟩ := h
  exact changeHolders_good (dropHolder_pairwise hordered) fun y hy =>
    ⟨hle y (mem_dropHolder.mp hy).1, hne y (mem_dropHolder.mp hy).1⟩

theorem blocksTake_holdersGood {own : Nat} {f : Frame} (hown : frameStation f ≠ own) {s : State} (h : HoldersGood own s) :
    HoldersGood own (blocksTake f s) := by
  cases f with
  | clearway f =>
    unfold blocksTake holdTakesClearway; dsimp only
    split
    · exact putHolder_good (Nat.le_refl 60) hown h
    · exact dropHolder_good _ h
  | clearEnd f => exact dropHolder_good _ h
  | bid | keep => exact h.of_holdIs ((holdIs_reads _).frame (slotsTake_touches _ s) rfl (.refl s))
  | beacon | cede => exact h

/-! ### What leaves the table alone, or empties it -/

/-- The table and the heard countdowns are `x` and `y`, or empty. -/
def TableIs (x : List Crossing) (y : List HeardCount) (s : State) : Prop :=
  (s.table = x ∧ s.heard = y) ∨ (s.table = [] ∧ s.heard = [])

theorem tableIs_reads (x : List Crossing) (y : List HeardCount) : ReadsOnly [.table, .heard] (TableIs x y) := by
  intro s t h hs
  rw [TableIs, h .table (by decide), h .heard (by decide)]; exact hs

theorem TableIs.refl (s : State) : TableIs s.table s.heard s := .inl ⟨rfl, rfl⟩

section
variable (x : List Crossing) (y : List HeardCount)

theorem enterIsolated_tableIs (i : Isolation) : Keeps (TableIs x y) (enterIsolated i) := fun s _ =>
  (tableIs_reads x y).frame (enterIsolated_changes i s) rfl (.inr ⟨rfl, rfl⟩)

theorem reportIsolation_tableIs (i : Isolation) : Keeps (TableIs x y) (reportIsolation i) := by
  intro s h; unfold reportIsolation
  split
  case h_1 | h_2 => exact enterIsolated_tableIs x y i s h
  case h_3 => split <;> exact h
  case h_4 => split <;> exact h
  case h_5 => exact h

theorem duplicateFound_tableIs : Keeps (TableIs x y) duplicateFound := fun _ h => reportIsolation_tableIs x y .duplicate _ h

theorem takeLineFault_tableIs : Keeps (TableIs x y) takeLineFault := by
  refine .ite (Keeps.comp (reportIsolation_tableIs x y .line) ?_) (fun _ h => h)
  exact Keeps.comp ((tableIs_reads x y).keeps discardReception_touches rfl)
    (Keeps.comp ((tableIs_reads x y).keeps stopOwnFrame_touches rfl)
      (Keeps.comp ((tableIs_reads x y).keeps (updLine_touches _) rfl) ((tableIs_reads x y).keeps (setFlag_touches _) rfl)))

theorem takeResume_tableIs : Keeps (TableIs x y) takeResume := by
  intro s h
  have hb : TableIs x y (resumedBase s) := (tableIs_reads x y).frame (resumedBase_changes s) rfl h
  rw [takeResume_eq]
  split
  · exact hb
  · exact enterIsolated_tableIs x y _ _ hb

theorem collide_tableIs : Keeps (TableIs x y) collide := by
  intro s h; unfold collide; extract_lets s1
  split
  · exact duplicateFound_tableIs x y s1 h
  · exact h

theorem judgePulse_tableIs (recessive : Nat) (dominant : Dominant) : Keeps (TableIs x y) (judgePulse recessive dominant) := by
  intro s h; unfold judgePulse; extract_lets s1
  split
  · exact takeLineFault_tableIs x y s1 h
  · exact h

theorem takeCommand_tableIs {c : PortCommand} (hc : c ≠ .rstrt) (ops : List Byte) : Keeps (TableIs x y) (takeCommand c ops) := by
  refine fun s => takeCommand_keeps (fun _ _ _ => (tableIs_reads x y).keeps (putReply_touches _ _ _) rfl) c ops fun h => ?_
  cases c with
  | rstrt => exact absurd rfl hc
  | resume =>
    simp only [runCommand, runResume]
    split
    · exact h
    · split
      · exact h
      · split
        · exact h
        · exact takeResume_tableIs x y s h
  | isol => exact reportIsolation_tableIs x y .command s h
  | _ => exact (tableIs_reads x y).frame (runCommand_touches _ ops s) rfl h

end

/-! ### Table, holders and own number together -/

/-- What O54 says of a state: `TableOk`, `HoldersOk` and `OwnNumberOk`. -/
def ForeignOk (s : State) : Prop := TableOk s ∧ HoldersOk s ∧ OwnNumberOk s

/-- The same, by the table and by the holders. -/
theorem foreignOk_iff (s : State) :
    ForeignOk s ↔ TableGood (conf s).station s ∧ HoldersGood (conf s).station s ∧ (s.cfg = none → s.table = [] ∧ s.hold.holders = []) :=
  ⟨fun ⟨h1, h2, h3, h4, h5⟩ => ⟨⟨h1, h4⟩, ⟨h2, h5⟩, h3⟩, fun ⟨⟨h1, h4⟩, ⟨h2, h5⟩, h3⟩ => ⟨h1, h2, h3, h4, h5⟩⟩

/-- With a configuration the part about its absence says nothing. -/
theorem ForeignOk.loaded {own : Nat} {s : State} (hown : (conf s).station = own) (hc : s.cfg ≠ none) (ht : TableGood own s)
    (hh : HoldersGood own s) : ForeignOk s := by
  rw [foreignOk_iff, hown]; exact ⟨ht, hh, fun h => absurd h hc⟩

theorem tableGood_empty (own : Nat) {s : State} (ht : s.table = []) (hh : s.heard = []) : TableGood own s := by
  rw [TableGood, TableOk, ht, hh]; simp

theorem holdersGood_empty (own : Nat) {s : State} (hh : s.hold.holders = []) (hs : s.hold.street = false) : HoldersGood own s := by
  rw [HoldersGood, HoldersOk, hh, hs]; simp

theorem ForeignOk.empty {s : State} (ht : s.table = []) (hh : s.heard = []) (hd : s.hold.holders = []) (hs : s.hold.street = false) :
    ForeignOk s := by
  rw [foreignOk_iff]
  exact ⟨tableGood_empty _ ht hh, holdersGood_empty _ hd hs, fun _ => ⟨ht, hd⟩⟩

/-- A part without a configuration holds nothing foreign (R60, R142). -/
theorem ForeignOk.unconfigured {s : State} (h : ForeignOk s) (hc : s.cfg = none) :
    s.table = [] ∧ s.heard = [] ∧ s.hold.holders = [] ∧ s.hold.street = false := by
  obtain ⟨⟨-, -, -, -, hfor, -⟩, ⟨-, hstreet, -⟩, hnone, -⟩ := h
  obtain ⟨ht, hd⟩ := hnone hc
  refine ⟨ht, List.eq_nil_iff_forall_not_mem.mpr fun x hx => ?_, hd, by rw [hstreet, hd]; rfl⟩
  obtain ⟨c, hm, -⟩ := hfor x hx
  rw [ht] at hm; cases hm

theorem TableGood.of_tableIs {own : Nat} {s t : State} (h : TableGood own s) (ht : TableIs s.table s.heard t) : TableGood own t := by
  rcases ht with ⟨ht, hh⟩ | ⟨ht, hh⟩
  · rw [TableGood, TableOk, ht, hh]; exact h
  · exact tableGood_empty own ht hh

/-- An operation that leaves the holders and the configuration and at most empties the table keeps all three. -/
theorem ForeignOk.of_kept {s t : State} (h : ForeignOk s) (hc : t.cfg = s.cfg) (ht : TableIs s.table s.heard t)
    (hh : HoldIs s.hold t) : ForeignOk t := by
  rw [foreignOk_iff] at h ⊢
  obtain ⟨h1, h2, h3⟩ := h
  rw [conf_congr hc, hc]
  refine ⟨h1.of_tableIs ht, h2.of_holdIs hh, fun hn => ?_⟩
  obtain ⟨c, hx⟩ := hh.exists
  rw [hx]
  rcases ht with ⟨ht, -⟩ | ⟨ht, -⟩
  · rw [ht]; exact h3 hn
  · exact ⟨ht, (h3 hn).2⟩

/-- The parts that `ForeignOk` reads. -/
def foreignParts : List Part := [.cfg, .table, .heard, .hold]

theorem foreignOk_reads : ReadsOnly foreignParts ForeignOk := by
  intro s t h hs
  have hh : t.hold = s.hold := h .hold (by decide)
  exact hs.of_kept (h .cfg (by decide)) (.inl ⟨h .table (by decide), h .heard (by decide)⟩) (by rw [HoldIs, hh])

/-- A change of the holders alone. -/
theorem ForeignOk.withHolders {s t : State} (h : ForeignOk s) (hp : ChangesOnly holdParts s t)
    (hh : HoldersGood (conf s).station s → HoldersGood (conf s).station t)
    (hn : s.hold.holders = [] → t.hold.holders = []) : ForeignOk t := by
  rw [foreignOk_iff] at h ⊢
  obtain ⟨h1, h2, h3⟩ := h
  have hc : t.cfg = s.cfg := hp .cfg (by decide)
  have ht : t.table = s.table := hp .table (by decide)
  rw [conf_congr hc, hc]
  refine ⟨h1.of_tableIs (.inl ⟨ht, hp .heard (by decide)⟩), hh h2, fun hnone => ?_⟩
  rw [ht]; exact ⟨(h3 hnone).1, hn (h3 hnone).2⟩

/-- A change of the hold sources that leaves the holders. -/
theorem changeSources_foreignOk {f : Hold → Hold} (hf : ∀ x, (f x).holders = x.holders ∧ (f x).street = x.street) :
    Keeps ForeignOk (changeSources f) := fun s h => by
  have hd : (changeSources f s).hold.holders = s.hold.holders := by rw [changeSources_hold]; exact (hf _).1
  exact h.withHolders (changeSources_touches f s) (fun h => h.of_eq hd (by rw [changeSources_hold]; exact (hf _).2)) (fun hn => hd.trans hn)

/-- The Hold Unit's own events on its request lines leave the holders (R145 to R148). -/
theorem ForeignOk.of_request {ps : List Part} {s t : State} (h : ForeignOk s) (hp : ChangesOnly ps s t)
    (hd : partsApart ps [.cfg, .table, .heard] = true) (hh : t.hold.holders = s.hold.holders) (hs : t.hold.street = s.hold.street) :
    ForeignOk t := by
  rw [foreignOk_iff] at h ⊢
  obtain ⟨h1, h2, h3⟩ := h
  have hc : t.cfg = s.cfg := hp.of_apart hd .cfg (by decide)
  have ht : t.table = s.table := hp.of_apart hd .table (by decide)
  rw [conf_congr hc, hc, ht, hh]
  exact ⟨h1.of_tableIs (.inl ⟨ht, hp.of_apart hd .heard (by decide)⟩), h2.of_eq hh hs, h3⟩

theorem dispatch_foreignOk {f : Frame} {s : State} (hown : frameStation f ≠ (conf s).station) (hc : s.cfg ≠ none) (h : ForeignOk s) :
    ForeignOk (dispatch f s) := by
  rw [foreignOk_iff] at h
  obtain ⟨ht, hh, -⟩ := h
  have hb := blocksTake_touches f s
  have htake := tableTakes_touches f (blocksTake f s)
  have hcfg : (dispatch f s).cfg = s.cfg := (htake .cfg (by decide)).trans (hb .cfg (by decide))
  have hhold : (dispatch f s).hold = (blocksTake f s).hold := htake .hold (by decide)
  refine .loaded (congrArg StationConfig.station (conf_congr hcfg)) (by rw [hcfg]; exact hc) ?_ ?_
  · exact tableTakes_good hown (ht.of_tableIs (.inl ⟨hb .table (by decide), hb .heard (by decide)⟩))
  · exact (blocksTake_holdersGood hown hh).of_eq (by rw [hhold]) (by rw [hhold])

theorem takeValid_foreignOk (f : Frame) (s : State) (hr : takesFrames s = true) (h : ForeignOk s) : ForeignOk (takeValid f s) := by
  have hc : s.cfg ≠ none := by
    simp only [takesFrames, acceptsAny, Bool.and_eq_true] at hr
    exact Option.isSome_iff_ne_none.mp hr.1.1
  unfold takeValid
  split
  · exact h.of_kept (duplicateFound_touches s .cfg (by decide)) (duplicateFound_tableIs _ _ s (.refl s))
      (duplicateFound_holdIs _ s (.refl s))
  · next hown => exact dispatch_foreignOk hown hc h

theorem takeFrame_foreignOk (f : Frame) : Keeps ForeignOk (takeFrame f) :=
  takeFrame_keeps (foreignOk_reads.keeps (updLine_touches _) rfl) (foreignOk_reads.keeps countFormat_touches rfl) f
    (takeValid_foreignOk f)

theorem takeBits_foreignOk (bits : List Bool) : Keeps ForeignOk (takeBits bits) :=
  takeBits_keeps (foreignOk_reads.keeps (updLine_touches _) rfl) (foreignOk_reads.keeps countFormat_touches rfl)
    (foreignOk_reads.keeps countCrc_touches rfl) bits takeValid_foreignOk

/-- The configuration is read in START, where nothing foreign is held. -/
theorem configRead_foreignOk (bytes : List Byte) {s : State} (hc : s.cfg = none) (h : ForeignOk s) : ForeignOk (configRead bytes s) := by
  obtain ⟨ht, hh, hd, hs⟩ := h.unconfigured hc
  have hp := configRead_touches bytes s
  obtain ⟨c, hx⟩ := (configRead_holdIs s.hold bytes s (.refl s)).exists
  exact .empty ((hp .table (by decide)).trans ht) ((hp .heard (by decide)).trans hh) (by rw [hx]; exact hd) (by rw [hx]; exact hs)

theorem startBlocks_foreignOk (s : State) : ForeignOk (startBlocks s) := .empty rfl rfl rfl rfl

theorem removeStation_foreignOk (st : Nat) : Keeps ForeignOk (removeStation st) := by
  intro s h
  rw [foreignOk_iff] at h ⊢
  obtain ⟨h1, h2, h3⟩ := h
  refine ⟨removeStation_good (h1.but st), h2, fun hn => ?_⟩
  exact ⟨by simp [removeStation, (h3 hn).1], (h3 hn).2⟩

theorem clearForeign_foreignOk (st : Nat) (l : LegId) : Keeps ForeignOk (clearForeign st l) := by
  intro s h
  rw [foreignOk_iff] at h ⊢
  obtain ⟨h1, h2, h3⟩ := h
  refine ⟨.of_but fun st' => (h1.but st').map (g := id) (fun c => ?_) (fun _ => ⟨rfl, Nat.le_refl _⟩) rfl (List.map_id _).symm, h2,
    fun hn => ⟨by simp [clearForeign, (h3 hn).1], (h3 hn).2⟩⟩
  split <;> exact ⟨rfl, rfl⟩

theorem tick_foreignOk : Keeps ForeignOk tick := by
  intro s h
  rw [foreignOk_iff] at h ⊢
  obtain ⟨h1, ⟨⟨hordered, hstreet, hle⟩, hne⟩, h3⟩ := h
  have hd : (tick s).hold.holders = s.hold.holders.map (fun h => { h with left := h.left - 1 }) := rfl
  refine ⟨.of_but fun st => (h1.but st).map (f := fun c => { c with slot := c.slot.map tickSlot })
    (g := fun x => { x with left := x.left - 1 }) (fun _ => ⟨rfl, rfl⟩)
    (fun x => ⟨rfl, Nat.sub_le x.left 1⟩) rfl rfl, ⟨⟨?_, ?_, ?_⟩, ?_⟩,
    fun hn => ⟨?_, ?_⟩⟩
  · rw [hd, List.pairwise_map]; exact hordered
  · rw [hd, List.isEmpty_map]; exact hstreet
  · rw [hd, List.forall_mem_map]; exact fun x hx => (Nat.sub_le _ _).trans (hle x hx)
  · rw [hd, List.forall_mem_map]; exact hne
  · change s.table.map _ = []
    rw [(h3 hn).1]; rfl
  · rw [hd, (h3 hn).2]; rfl

theorem refreshDone_foreignOk (st : Nat) : Keeps ForeignOk (refreshDone st) := by
  intro s h
  have h1 : ForeignOk (setFlag .clearwayExpired s) := foreignOk_reads.frame (setFlag_touches _ s) rfl h
  refine h1.withHolders (changeSources_touches _ _) (dropHolder_good st) fun hn => ?_
  rw [refreshDone, changeHolders, changeSources_hold]
  exact congrArg (dropHolder st) hn

theorem takeCommand_foreignOk (c : PortCommand) (ops : List Byte) : Keeps ForeignOk (takeCommand c ops) := by
  intro s h
  by_cases hc : portChangesHold c = true
  · refine takeCommand_keeps (fun _ _ _ => foreignOk_reads.keeps (putReply_touches _ _ _) rfl) c ops (fun h => ?_) h
    cases c with
    | hold => exact changeSources_foreignOk (f := fun x => { x with maint := decide (operand ops 0 = 1) }) (fun x => ⟨rfl, rfl⟩) s h
    | rstrt => exact foreignOk_reads.keeps stopWords_touches rfl _ (startBlocks_foreignOk s)
    | _ => cases hc
  · have hne : c ≠ .rstrt := by rintro rfl; exact hc rfl
    refine h.of_kept (takeCommand_touches c ops s .cfg ?_) (takeCommand_tableIs _ _ hne ops s (.refl s))
      (takeCommand_holdIs _ (Bool.eq_false_of_not_eq_true hc) ops s (.refl s))
    cases c <;> first | decide | exact absurd rfl hne

theorem effect_foreignOk (c : Instr) (s : State) (hmode : ModeOk s) (ho : occurs c s = true) (h : ForeignOk s) :
    ForeignOk (effect c s) := by
  have ht := effect_touches c s
  have hkept (hc : ofHoldUnit c = false) (htable : TableIs s.table s.heard (effect c s))
      (hd : partsApart (settledByEffect c ++ commandParts c) [.cfg] = true) : ForeignOk (effect c s) :=
    h.of_kept (ht.of_apart hd .cfg (by decide)) htable (effect_holdIs hc s)
  cases c with
  | start | resetPinAssert => exact h
  | configurationRead bytes => exact configRead_foreignOk bytes (hmode.2.2.2.2.1.mpr (.inl (hmode.2.2.2.2.2.1 ho))) h
  | phqRise =>
    obtain ⟨c, hc⟩ := holdRequested_hold { s with phq := true }
    exact h.of_request ht rfl (by rw [effect, hc]; rfl) (by rw [effect, hc]; rfl)
  | phqFall =>
    have hk : (effect .phqFall s).hold.holders = s.hold.holders ∧ (effect .phqFall s).hold.street = s.hold.street := by
      by_cases hd : s.hold.release = .deferred
      · rw [effect, holdLowered_deferred (s := { s with phq := false }) hd, releaseTaken_hold]; exact ⟨rfl, rfl⟩
      · rw [effect, holdLowered_other (s := { s with phq := false }) hd]; exact ⟨rfl, rfl⟩
    exact h.of_request ht rfl hk.1 hk.2
  | prqRise =>
    have hk : (effect .prqRise s).hold.holders = s.hold.holders ∧ (effect .prqRise s).hold.street = s.hold.street := by
      by_cases hp : s.phq = true
      · rw [effect, releaseRaised_deferred (s := { s with prq := true }) hp]; exact ⟨rfl, rfl⟩
      · rw [effect, releaseRaised_taken (s := { s with prq := true }) (Bool.eq_false_of_not_eq_true hp), releaseTaken_hold]
        exact ⟨rfl, rfl⟩
    exact h.of_request ht rfl hk.1 hk.2
  | prqFall => exact h.of_request ht rfl rfl rfl
  | refreshExpiry st => exact refreshDone_foreignOk st.toNat s h
  | hold ops | isol ops | resume ops => exact takeCommand_foreignOk _ ops s h
  | rstrt w => exact takeCommand_foreignOk .rstrt w.bytes _ (foreignOk_reads.frame (pinAtRestart_touches w s) rfl h)
  | unknownCommand code ops =>
    simp only [effect]
    cases commandOf code with
    | none => exact foreignOk_reads.frame (putReply_touches _ _ _ s) rfl h
    | some c => exact takeCommand_foreignOk c ops s h
  | invalidFrameReceived bits => exact takeBits_foreignOk bits s h
  | duplicateFrameReceived | beaconReceived | bidReceived | keepReceived | cedeReceived | clearwayReceived | clearEndReceived =>
    exact takeFrame_foreignOk _ s h
  | heardExpiry st => exact removeStation_foreignOk st.toNat s h
  | tableSlotExpiry st l => exact clearForeign_foreignOk st.toNat l s h
  | decisecondTick => exact tick_foreignOk s h
  | collisionError => exact hkept rfl (collide_tableIs _ _ s (.refl s)) rfl
  | lineFault => exact hkept rfl (takeLineFault_tableIs _ _ s (.refl s)) rfl
  | startPulse recessive dominant => exact hkept rfl (judgePulse_tableIs _ _ recessive dominant s (.refl s)) rfl
  | _ => exact hkept rfl ((tableIs_reads _ _).frame ht rfl (.refl s)) rfl

theorem settle_foreignOk : Keeps ForeignOk settle := fun s h =>
  h.of_request (settle_touches s) rfl (by rw [settle_hold_eq]) (by rw [settle_hold_eq])

/-- A property that every effect keeps in a state where the mode is in agreement is kept by every step from such a state. -/
theorem step_keeps_withMode {P : State → Prop} (hpending : ∀ s rest, P s → P { s with pending := rest })
    (hstart : ∀ straps phq prq quiet, Keeps P (startNow straps phq prq quiet)) (hreset : Keeps P holdReset)
    (hheld : ∀ c s, s.resetHeld = true → P s → P (whileHeld c s)) (hlater : Keeps P later) (hsettle : Keeps P settle)
    (heffect : ∀ c s, s.resetHeld = false → occurs c s = true → ModeOk s → P s → P (effect c s)) {s t : State} (hm : ModeOk s)
    (h : step s = .next t) (hs : P s) : P t := by
  refine (step_keeps (P := fun s => ModeOk s ∧ P s) (fun s rest hs => ⟨modeOk_reads.pending rfl s rest hs.1, hpending s rest hs.2⟩)
    (fun c s t he hs => ?_) h ⟨hm, hs⟩).2
  exact exec_keeps (P := fun s => ModeOk s ∧ P s)
    (fun straps phq prq quiet s hs => ⟨startNow_modeOk straps phq prq quiet s, hstart straps phq prq quiet s hs.2⟩)
    (fun s hs => ⟨holdReset_modeOk s, hreset s hs.2⟩)
    (fun c s hr hs => ⟨modeOk_reads.frame (whileHeld_pins c s) rfl hs.1, hheld c s hr hs.2⟩)
    (fun s hs => ⟨modeOk_reads.later rfl s hs.1, hlater s hs.2⟩) (fun s hs => ⟨modeOk_reads.settle rfl s hs.1, hsettle s hs.2⟩)
    (fun c s hr ho hs => ⟨effect_modeOk c s hr ho hs.1, heffect c s hr ho hs.1 hs.2⟩) he hs

/-- Settles O54: what empties the table or takes a frame of another station leaves it in order, and the holders likewise. -/
theorem foreignStateIsKept : Obligations.ForeignStateIsKept := by
  unfold Obligations.ForeignStateIsKept
  intro s t hmode htable hholders hown h
  exact step_keeps_withMode (P := ForeignOk) (foreignOk_reads.pending rfl)
    (fun _ _ _ _ _ _ => foreignOk_reads.keeps stopWords_touches rfl (coldStart _) (startBlocks_foreignOk _))
    (fun _ _ => startBlocks_foreignOk _) (fun c s _ h => foreignOk_reads.frame (whileHeld_pins c s) rfl h) (foreignOk_reads.later rfl)
    settle_foreignOk (fun c s _ ho hm h => effect_foreignOk c s hm ho h) hmode h ⟨htable, hholders, hown⟩

end Sys2Proof.Machine
end

section
/-! What every operation on legs, slots and requests keeps while mode and configuration stand: the frame in transmission, the bids, a
queue that stands closed, and the shape of each leg's records. The Slot Engine's operations are of this kind, and move a leg from
CLAIMED back to CALLED or on toward AMBER at the most. -/

namespace Sys2Proof.Machine

/-! ### The records of a leg -/

/-- What `LegOk` says of a leg's two records beside each other. -/
structure LegShape (r : LegRec) (x : SlotRec) : Prop where
  timed : r.interval.running = true ↔ timedState r.state = true
  slot : x.slot.isSome = true → slotState r.state = true
  cancelled : r.walkCancelled = true → (r.state = .amber ∨ r.state = .allRedOut) ∧ x.slot = none
  contest : x.contest.running = true → r.state = .claimed ∧ x.slot.any (fun y => decide (y.stage = .claimed)) = true

theorem legOk_iff (s : State) (l : LegId) :
    LegOk s l ↔ (legState s l = .start ↔ s.mode = .start ∨ inUse s l = false) ∧
      (legState s l = .flash ↔ s.mode = .flash ∧ inUse s l = true) ∧ LegShape (s.legs.get l) (s.slots.get l) :=
  ⟨fun ⟨h1, h2, h3, h4, h5, h6⟩ => ⟨h1, h2, ⟨h3, h4, h5, h6⟩⟩, fun ⟨h1, h2, h⟩ => ⟨h1, h2, h.1, h.2, h.3, h.4⟩⟩

/-- In a state that holds no slot the leg has none, and no contest runs. -/
theorem LegShape.unslotted {r : LegRec} {x : SlotRec} (h : LegShape r x) (hs : slotState r.state = false) :
    x.slot = none ∧ x.contest.running = false := by
  constructor
  · cases hx : x.slot with
    | none => rfl
    | some y => rw [h.slot (by rw [hx]; rfl)] at hs; cases hs
  · cases hc : x.contest.running with
    | false => rfl
    | true => rw [(h.contest hc).1] at hs; cases hs

theorem LegShape.not_cancelled {r : LegRec} {x : SlotRec} (h : LegShape r x) (ha : r.state ≠ .amber) (ho : r.state ≠ .allRedOut) :
    r.walkCancelled = false := by
  cases hc : r.walkCancelled with
  | false => rfl
  | true => exact absurd (h.cancelled hc).1 (not_or.mpr ⟨ha, ho⟩)

theorem LegShape.no_contest {r : LegRec} {x : SlotRec} (h : LegShape r x) (hs : r.state ≠ .claimed) : x.contest.running = false := by
  cases hc : x.contest.running with
  | false => rfl
  | true => exact absurd (h.contest hc).1 hs

/-- The shape does not see a slot's times and bands, nor challengers, bids and deferred frames. -/
theorem LegShape.of_slot {r : LegRec} {x y : SlotRec} (h : LegShape r x) (hs : y.slot.map Slot.stage = x.slot.map Slot.stage)
    (hc : y.contest.running = x.contest.running) : LegShape r y := by
  have hstage (o : Option Slot) : o.any (fun z => decide (z.stage = .claimed)) = decide (o.map Slot.stage = some .claimed) := by
    cases o <;> simp
  have hsome : y.slot.isSome = x.slot.isSome := by rw [← Option.isSome_map, hs, Option.isSome_map]
  have hnone : y.slot = none ↔ x.slot = none := by rw [← Option.map_eq_none_iff, hs, Option.map_eq_none_iff]
  obtain ⟨h1, h2, h3, h4⟩ := h
  exact ⟨h1, by rw [hsome]; exact h2, by rw [hnone]; exact h3, by rw [hc, hstage, hs, ← hstage]; exact h4⟩

/-- The slot goes, and its contest with it. -/
theorem LegShape.removeSlot {r : LegRec} {x : SlotRec} (h : LegShape r x) : LegShape r x.removeSlot :=
  ⟨h.timed, by simp [SlotRec.removeSlot], fun hc => ⟨(h.cancelled hc).1, rfl⟩, by simp [SlotRec.removeSlot, Countdown.stopped]⟩

/-- An untimed state, with the slot that it may hold and no contest, is of the shape. -/
theorem LegShape.untimed {r : LegRec} {x : SlotRec} (ht : timedState r.state = false) (hi : r.interval.running = false)
    (hs : x.slot.isSome = true → slotState r.state = true) (hc : r.walkCancelled = false) (hx : x.contest.running = false) : LegShape r x :=
  ⟨by simp [ht, hi], hs, by simp [hc], by simp [hx]⟩

/-- A timed state with its interval running. -/
theorem LegShape.ofTimed {r : LegRec} {x : SlotRec} (ht : timedState r.state = true) (hi : r.interval.running = true)
    (hs : x.slot.isSome = true → slotState r.state = true)
    (hc : r.walkCancelled = true → (r.state = .amber ∨ r.state = .allRedOut) ∧ x.slot = none) (hx : x.contest.running = false) :
    LegShape r x := ⟨by simp [ht, hi], hs, hc, by simp [hx]⟩

/-! ### Tidy operations -/

theorem Legs.upd_id {α : Type} (p : Legs α) (l : LegId) : p.upd l id = p := by cases l <;> rfl

/-- How each leg may move in an operation. -/
abbrev Moves := LegId → LegState → LegState → Prop

/-- No leg changes its state. -/
def stays : Moves := fun _ a b => b = a

/-- One leg moves by the relation and the other stays. -/
def onLeg (l : LegId) (R : LegState → LegState → Prop) : Moves := fun m a b => if m = l then R a b else b = a

/-- The order in which the Slot Engine moves a leg: from CLAIMED back to CALLED (R104), or on to COMMITTED and AMBER (R6, R7). -/
def easeRank : LegState → Nat
  | .claimed => 1
  | .called => 2
  | .committed => 3
  | .amber => 4
  | _ => 0

/-- The moves of the Slot Engine. -/
def eased (a b : LegState) : Prop := b = a ∨ (0 < easeRank a ∧ easeRank a < easeRank b)

def eases : Moves := fun _ => eased

/-- The leg is in START, or in FLASH, in both states or in neither. -/
def sameStop (a b : LegState) : Prop := (b = .start ↔ a = .start) ∧ (b = .flash ↔ a = .flash)

theorem sameStop.rfl {a : LegState} : sameStop a a := ⟨Iff.rfl, Iff.rfl⟩

theorem sameStop.service {a b : LegState} (ha : a ≠ .start ∧ a ≠ .flash) (hb : b ≠ .start ∧ b ≠ .flash) : sameStop a b :=
  ⟨by simp [ha.1, hb.1], by simp [ha.2, hb.2]⟩

theorem eased_refl (a : LegState) : eased a a := .inl rfl

theorem eased_trans {a b c : LegState} (h : eased a b) (g : eased b c) : eased a c := by
  rcases h with rfl | ⟨h, hab⟩
  · exact g
  · rcases g with rfl | ⟨-, hbc⟩
    · exact .inr ⟨h, hab⟩
    · exact .inr ⟨h, hab.trans hbc⟩

/-- From s to t mode and configuration stand, nothing begins or ends on the line, a closed queue stands, each bid stands and gains no
deferred list without one; each leg's records keep their shape, and the legs move as R allows. -/
structure Tidy (R : Moves) (s t : State) : Prop where
  mode : t.mode = s.mode
  cfg : t.cfg = s.cfg
  tx : t.line.tx = s.line.tx
  queue : s.mode = .start ∨ s.mode = .isolated → t.line.queue = s.line.queue
  bid : ∀ l, (t.slots.get l).bid = (s.slots.get l).bid
  deferred : ∀ l, (s.slots.get l).bid = none → (s.slots.get l).deferred = [] → (t.slots.get l).deferred = []
  shape : ∀ l, LegShape (s.legs.get l) (s.slots.get l) → LegShape (t.legs.get l) (t.slots.get l)
  stop : ∀ l, sameStop (legState s l) (legState t l)
  moves : ∀ l, R l (legState s l) (legState t l)

theorem Tidy.comp {R R' R'' : Moves} {s t u : State} (h : Tidy R s t) (g : Tidy R' t u)
    (hR : ∀ l a b c, R l a b → R' l b c → R'' l a c) : Tidy R'' s u where
  mode := g.mode.trans h.mode
  cfg := g.cfg.trans h.cfg
  tx := g.tx.trans h.tx
  queue := fun hm => (g.queue (by rw [h.mode]; exact hm)).trans (h.queue hm)
  bid := fun l => (g.bid l).trans (h.bid l)
  deferred := fun l hb hd => g.deferred l ((h.bid l).trans hb) (h.deferred l hb hd)
  shape := fun l hs => g.shape l (h.shape l hs)
  stop := fun l => ⟨(g.stop l).1.trans (h.stop l).1, (g.stop l).2.trans (h.stop l).2⟩
  moves := fun l => hR l _ _ _ (h.moves l) (g.moves l)

theorem Tidy.widen {R R' : Moves} {s t : State} (h : Tidy R s t) (hR : ∀ l a b, R l a b → R' l a b) : Tidy R' s t :=
  { h with moves := fun l => hR l _ _ (h.moves l) }

theorem stays_eases (l : LegId) (a b : LegState) (h : stays l a b) : eases l a b := by rw [show b = a from h]; exact eased_refl a

/-- An operation that moves no leg may follow. -/
theorem Tidy.still {R : Moves} {s t u : State} (h : Tidy R s t) (g : Tidy stays t u) : Tidy R s u :=
  h.comp g fun l a b c hab hbc => by rw [show c = b from hbc]; exact hab

theorem Tidy.before {R : Moves} {s t u : State} (h : Tidy stays s t) (g : Tidy R t u) : Tidy R s u :=
  h.comp g fun l a b c hab hbc => by rw [show b = a from hab] at hbc; exact hbc

theorem Tidy.ease {s t u : State} (h : Tidy eases s t) (g : Tidy eases t u) : Tidy eases s u := h.comp g fun _ _ _ _ => eased_trans

theorem Tidy.eases {s t : State} (h : Tidy stays s t) : Tidy Machine.eases s t := h.widen stays_eases

/-- The parts that `Tidy` reads. -/
def tidyParts : List Part := [.mode, .cfg, .line, .slots, .legs]

/-- What leaves the parts that `Tidy` reads is tidy. -/
theorem Tidy.frame {ps : List Part} {s t : State} (h : ChangesOnly ps s t) (hd : partsApart ps tidyParts = true) : Tidy stays s t := by
  have hline : t.line = s.line := h.of_apart hd .line (by decide)
  have hslots : t.slots = s.slots := h.of_apart hd .slots (by decide)
  have hlegs : t.legs = s.legs := h.of_apart hd .legs (by decide)
  have hstate (l : LegId) : legState t l = legState s l := by rw [legState, hlegs, legState]
  exact {
    mode := h.of_apart hd .mode (by decide), cfg := h.of_apart hd .cfg (by decide), tx := by rw [hline], queue := fun _ => by rw [hline]
    bid := fun l => by rw [hslots], deferred := fun l _ hn => by rw [hslots]; exact hn, shape := fun l hl => by rw [hlegs, hslots]; exact hl
    stop := fun l => by rw [hstate]; exact .rfl, moves := hstate }

theorem Tidy.refl (s : State) : Tidy stays s s := .frame (.refl [] s) (by decide)

theorem Tidy.ite {R : Moves} {s t u : State} {c : Prop} [Decidable c] (h : c → Tidy R s t) (g : ¬c → Tidy R s u) :
    Tidy R s (if c then t else u) := by
  split
  · next hc => exact h hc
  · next hc => exact g hc

/-- What changes the line alone, and there only a queue that is open, or what is neither queue nor frame in transmission. -/
theorem Tidy.ofLine {s t : State} (h : ChangesOnly [.line] s t) (htx : t.line.tx = s.line.tx)
    (hq : s.mode = .start ∨ s.mode = .isolated → t.line.queue = s.line.queue) : Tidy stays s t := by
  have hslots : t.slots = s.slots := h .slots (by decide)
  have hlegs : t.legs = s.legs := h .legs (by decide)
  have hstate (l : LegId) : legState t l = legState s l := by rw [legState, hlegs, legState]
  exact {
    mode := h .mode (by decide), cfg := h .cfg (by decide), tx := htx, queue := hq
    bid := fun l => by rw [hslots], deferred := fun l _ hn => by rw [hslots]; exact hn, shape := fun l hl => by rw [hlegs, hslots]; exact hl
    stop := fun l => by rw [hstate]; exact .rfl, moves := hstate }

/-- What changes the two records of one leg, and beside them only what `Tidy` does not read. -/
theorem Tidy.ofRecords {ps : List Part} {l : LegId} {R : LegState → LegState → Prop} {s t : State} {f : LegRec → LegRec}
    {g : SlotRec → SlotRec} (h : ChangesOnly ps s t) (hd : partsApart ps [.mode, .cfg, .line] = true) (hl : t.legs = s.legs.upd l f)
    (hs : t.slots = s.slots.upd l g) (hbid : (g (s.slots.get l)).bid = (s.slots.get l).bid)
    (hdef : (g (s.slots.get l)).deferred = (s.slots.get l).deferred)
    (hshape : LegShape (s.legs.get l) (s.slots.get l) → LegShape (f (s.legs.get l)) (g (s.slots.get l)))
    (hstop : sameStop (legState s l) (f (s.legs.get l)).state) (hR : R (legState s l) (f (s.legs.get l)).state) : Tidy (onLeg l R) s t := by
  have hline : t.line = s.line := h.of_apart hd .line (by decide)
  have hstate (m : LegId) : legState t m = if m = l then (f (s.legs.get l)).state else legState s m := by
    rw [legState, hl, Legs.get_upd]; split <;> rfl
  exact {
    mode := h.of_apart hd .mode (by decide), cfg := h.of_apart hd .cfg (by decide), tx := by rw [hline], queue := fun _ => by rw [hline]
    bid := fun m => by rw [hs, Legs.get_upd]; split <;> simp_all
    deferred := fun m _ hn => by rw [hs, Legs.get_upd]; split <;> simp_all
    shape := fun m hm => by rw [hs, hl, Legs.get_upd, Legs.get_upd]; split <;> simp_all
    stop := fun m => by
      rw [hstate]; split
      · next he => subst he; exact hstop
      · exact .rfl
    moves := fun m => by
      rw [hstate, onLeg]; split
      · next he => subst he; exact hR
      · rfl }

theorem onLeg_stays {l m : LegId} {a b : LegState} (h : onLeg l (fun a b => b = a) m a b) : stays m a b := by
  unfold onLeg at h; split at h <;> exact h

theorem onLeg_eases {l m : LegId} {a b : LegState} (h : onLeg l eased m a b) : eases m a b := by
  unfold onLeg at h
  split at h
  · exact h
  · exact stays_eases m a b h

/-- A change of a slot record that keeps its bid and its deferred list, and its shape. -/
theorem updSlot_tidy {l : LegId} {g : SlotRec → SlotRec} {s : State} (hbid : (g (s.slots.get l)).bid = (s.slots.get l).bid)
    (hdef : (g (s.slots.get l)).deferred = (s.slots.get l).deferred)
    (hshape : LegShape (s.legs.get l) (s.slots.get l) → LegShape (s.legs.get l) (g (s.slots.get l))) : Tidy stays s (updSlot l g s) :=
  (Tidy.ofRecords (R := fun a b => b = a) (f := id) (updSlot_touches l g s) (by decide)
    (Legs.upd_id _ l).symm rfl hbid hdef hshape .rfl rfl).widen fun _ _ _ => onLeg_stays

/-- A change of a leg record that keeps its state, and its shape. -/
theorem updLeg_tidy {l : LegId} {R : LegState → LegState → Prop} {f : LegRec → LegRec} {s : State}
    (hshape : LegShape (s.legs.get l) (s.slots.get l) → LegShape (f (s.legs.get l)) (s.slots.get l))
    (hstop : sameStop (legState s l) (f (s.legs.get l)).state) (hR : R (legState s l) (f (s.legs.get l)).state) :
    Tidy (onLeg l R) s (updLeg l f s) :=
  Tidy.ofRecords (g := id) (updLeg_touches l f s) (by decide) rfl
    (Legs.upd_id _ l).symm rfl rfl hshape hstop hR

/-! ### Requests -/

theorem acceptsAny_open {s : State} (h : acceptsAny s = true) : ¬(s.mode = .start ∨ s.mode = .isolated) := by
  simp only [acceptsAny, Bool.and_eq_true, Bool.or_eq_true, decide_eq_true_eq] at h
  rcases h.2 with (h | h) | h <;> rw [h] <;> decide

theorem acceptsLeg_open {s : State} {k : LegReq} (h : acceptsLeg s k = true) : ¬(s.mode = .start ∨ s.mode = .isolated) := by
  cases k with
  | cede => exact acceptsAny_open h
  | bid | keep =>
    simp only [acceptsLeg, Bool.and_eq_true, decide_eq_true_eq] at h
    rw [h.2]; decide

/-- A queue changes only where it is open. -/
theorem updQueue_tidy {s : State} (h : ¬(s.mode = .start ∨ s.mode = .isolated)) (f : Queue → Queue) : Tidy stays s (updQueue f s) :=
  .ofLine (updLine_touches _ s) rfl fun hm => absurd hm h

theorem enqueueLeg_tidy (l : LegId) (k : LegReq) (s : State) : Tidy stays s (enqueueLeg l k s) :=
  .ite (fun h => updQueue_tidy (acceptsLeg_open h) _) (fun _ => .refl s)

theorem enqueueClear_tidy (k : ClearReq) (s : State) : Tidy stays s (enqueueClear k s) :=
  .ite (fun h => updQueue_tidy (acceptsAny_open h) _) (fun _ => .refl s)

theorem enqueueBeacon_tidy (s : State) : Tidy stays s (enqueueBeacon s) :=
  .ite (fun h => updQueue_tidy (acceptsAny_open (by simp only [Bool.and_eq_true] at h; exact h.1)) _) (fun _ => .refl s)

/-! ### Slots, conflicts and bands -/

theorem removeSlot_tidy (l : LegId) (s : State) : Tidy stays s (removeSlot l s) := updSlot_tidy rfl rfl LegShape.removeSlot

/-- A change of the slot that keeps its stage. -/
theorem onSlot_tidy (l : LegId) (f : Slot → Slot) (s : State) (hf : ∀ x, (f x).stage = x.stage) : Tidy stays s (onSlot l f s) := by
  refine updSlot_tidy rfl rfl fun h => h.of_slot ?_ rfl
  rw [Option.map_map]
  exact Option.map_congr fun x _ => hf x

theorem challengers_tidy (l : LegId) (f : List Challenger → List Challenger) (s : State) :
    Tidy stays s (updSlot l (fun r => { r with challengers := f r.challengers }) s) :=
  updSlot_tidy rfl rfl fun h => h.of_slot rfl rfl

theorem untell_tidy (l : LegId) (s : State) : Tidy stays s (updSlot l SlotRec.untell s) := challengers_tidy l _ s

theorem withdraw_tidy (l : LegId) (s : State) : Tidy stays s (withdraw l s) :=
  .ite (fun _ => (removeSlot_tidy l s).still (enqueueLeg_tidy l .cede _)) (fun _ => .refl s)

theorem cede_tidy (l : LegId) (s : State) : Tidy eases s (cede l s) := by
  unfold cede; extract_lets s1 s2
  have h1 : Tidy stays s s1 := removeSlot_tidy l s
  refine Tidy.still (h1.before (Tidy.ite (fun hc => ?_) fun _ => (Tidy.refl _).eases)) (enqueueLeg_tidy l .cede s2)
  have hc' : (s1.legs.get l).state = .claimed := hc
  have hx : (s1.slots.get l).slot = none ∧ (s1.slots.get l).contest.running = false := by
    simp only [s1, removeSlot, updSlot_slots, Legs.get_upd_self]; exact ⟨rfl, rfl⟩
  refine (updLeg_tidy (R := eased) (fun h => ?_) (.service ?_ (by dsimp only; decide)) ?_).widen fun _ _ _ => onLeg_eases
  · have ht := h.timed
    rw [hc'] at ht
    exact .untimed rfl (by simpa [timedState] using ht) (by simp [hx.1]) (h.not_cancelled (by rw [hc']; decide) (by rw [hc']; decide)) hx.2
  · rw [hc]; decide
  · rw [hc]; exact .inr (by dsimp only; decide)

theorem answerKeep_tidy (l : LegId) (c : Carried) (s : State) : Tidy stays s (answerKeep l c s) := by
  unfold answerKeep; dsimp only
  exact .ite (fun _ => .refl s) fun _ => (challengers_tidy l _ s).still (enqueueLeg_tidy l .keep _)

theorem setFlag_tidy (f : Flag) (s : State) : Tidy stays s (setFlag f s) := .frame (setFlag_touches f s) (by decide)

theorem setFlagIf_tidy (b : Bool) (f : Flag) (s : State) : Tidy stays s (setFlagIf b f s) := .frame (setFlagIf_touches b f s) (by decide)

theorem react_tidy (l : LegId) (c : Carried) (s : State) : Tidy eases s (react l c s) := by
  unfold react
  split
  · exact (Tidy.refl s).eases
  · refine .ite (fun _ => ?_) fun _ => (Tidy.refl s).eases
    split
    · exact cede_tidy l s
    · exact (answerKeep_tidy l c s).eases
    · exact ((answerKeep_tidy l c s).still (setFlag_tidy _ _)).eases

theorem moveBand_tidy {l : LegId} {caller : Option Carried} {s t : State} (h : moveBand l caller s = some t) : Tidy stays s t := by
  unfold moveBand at h
  split at h
  · cases h
  · split at h
    · cases h
    · next b _ =>
      cases h
      have hband : Tidy stays s (onSlot l (fun x => { x with band := b }) s) := onSlot_tidy l _ s fun _ => rfl
      exact (hband.still (untell_tidy l _)).still (enqueueLeg_tidy l .keep _)

theorem checkOwnChange_tidy (n : Nat) (l : LegId) (caller : Option Carried) (s : State) : Tidy stays s (checkOwnChange n l caller s) := by
  induction n generalizing l s with
  | zero => exact .refl s
  | succ n ih =>
    unfold checkOwnChange
    split
    · exact .refl s
    · refine .ite (fun _ => ?_) fun _ => .refl s
      split
      · next t ht =>
        unfold moveChanged at ht
        split at ht
        · exact (moveBand_tidy ht).still (ih _ _)
        · cases ht
      · split
        · next t ht =>
          unfold moveOther at ht
          split at ht
          · exact (moveBand_tidy ht).still (ih _ _)
          · cases ht
        · exact .refl s

theorem checkFrame_tidy (l : LegId) (c : Carried) (s : State) : Tidy stays s (checkFrame l c s) := by
  unfold checkFrame
  split
  · exact .refl s
  · refine .ite (fun _ => ?_) fun _ => .refl s
    split
    · next t ht => exact (moveBand_tidy ht).still (checkOwnChange_tidy _ _ _ _)
    · exact .refl s

/-- An entry joins a leg's deferred list while its bid is pending (R107). -/
theorem defer_tidy {l : LegId} {s : State} (hb : (s.slots.get l).bid.isSome = true) (d : Deferred) :
    Tidy stays s (updSlot l (fun r => { r with deferred := r.deferred ++ [d] }) s) := by
  have hbase : Tidy stays s s := .refl s
  have hget (m : LegId) : ((updSlot l (fun r => { r with deferred := r.deferred ++ [d] }) s).slots.get m) =
      if m = l then { s.slots.get l with deferred := (s.slots.get l).deferred ++ [d] } else s.slots.get m := Legs.get_upd ..
  exact {
    mode := rfl, cfg := rfl, tx := rfl, queue := fun _ => rfl
    bid := fun m => by rw [hget]; split <;> simp_all
    deferred := fun m hn hd => by
      rw [hget]; split
      · next he => subst he; rw [hn] at hb; cases hb
      · exact hd
    shape := fun m hm => by
      rw [hget]; split
      · next he => subst he; exact hm.of_slot rfl rfl
      · exact hm
    stop := hbase.stop, moves := hbase.moves }

theorem takeConflict_tidy (l : LegId) (c : Carried) (s : State) : Tidy eases s (takeConflict l c s) :=
  .ite (fun h => (defer_tidy h _).eases) fun _ => react_tidy l c s

theorem slotsTake_tidy (c : Carried) (s : State) : Tidy eases s (slotsTake c s) := by
  unfold slotsTake; extract_lets s1
  have h1 : Tidy eases s s1 := (takeConflict_tidy .leg0 c s).ease (takeConflict_tidy .leg1 c _)
  exact (h1.still (checkFrame_tidy .leg0 c s1)).still (checkFrame_tidy .leg1 c _)

/-! ### Aid upgrades -/

theorem sameStation_tidy (l : LegId) (s : State) : Tidy eases s (sameStation l s) := by
  unfold sameStation; dsimp only
  split
  · refine .ite (fun _ => ?_) fun _ => (Tidy.refl s).eases
    refine Tidy.still ?_ (setFlagIf_tidy _ _ _)
    exact Tidy.ease (.ite (fun _ => cede_tidy l s) fun _ => (Tidy.refl s).eases) (.ite (fun _ => cede_tidy _ _) fun _ => (Tidy.refl _).eases)
  · exact (Tidy.refl s).eases

theorem upgradeSlot_tidy (l : LegId) (s : State) : Tidy stays s (upgradeSlot l s) := by
  unfold upgradeSlot; extract_lets s1
  have h1 : Tidy stays s s1 := onSlot_tidy l _ s fun _ => rfl
  split
  · exact h1.still (onSlot_tidy l _ s1 fun _ => rfl)
  · exact h1

theorem checkOther_tidy (l : LegId) (s : State) : Tidy eases s (checkOther l s) :=
  .ite (fun h => (defer_tidy h _).eases) fun _ => sameStation_tidy l s

theorem aidUpgrade_tidy (l : LegId) (s : State) : Tidy eases s (aidUpgrade l s) := by
  unfold aidUpgrade
  split
  · exact (Tidy.refl s).eases
  · refine .ite (fun _ => (Tidy.refl s).eases) fun _ => ?_
    have h1 : Tidy eases s (checkOther l (upgradeSlot l s)) := (upgradeSlot_tidy l s).before (checkOther_tidy l _)
    refine .ite (fun _ => ?_) fun _ => h1
    exact ((h1.still (untell_tidy l _)).still (enqueueLeg_tidy l .keep _)).still (checkOwnChange_tidy _ l none _)

end Sys2Proof.Machine
end

section
/-! The operations of the service cycle, of the holds and of the presses are tidy, and move a leg by one change that R5 to R17 allow. -/

namespace Sys2Proof.Machine

/-- The leg stays, or makes a change of R5 to R17. -/
def stepped (a b : LegState) : Prop := b = a ∨ legMove a b = true

def steps : Moves := fun _ => stepped

theorem stepped.refl (a : LegState) : stepped a a := .inl rfl

/-- What the Slot Engine's moves are. -/
theorem eased_cases {a b : LegState} (h : eased a b) :
    b = a ∨ (a = .claimed ∧ (b = .called ∨ b = .committed ∨ b = .amber)) ∨ (a = .called ∧ (b = .committed ∨ b = .amber)) ∨
      (a = .committed ∧ b = .amber) := by
  rcases h with h | ⟨ha, hab⟩
  · exact .inl h
  · cases a <;> simp only [easeRank, Nat.lt_irrefl] at ha <;> cases b <;> simp [easeRank] at hab ⊢

/-- The Slot Engine's moves may follow a change of the cycle. -/
theorem stepped.eased {a b c : LegState} (h : stepped a b) (g : Machine.eased b c) : stepped a c := by
  rcases eased_cases g with rfl | ⟨rfl, hc⟩ | ⟨rfl, hc⟩ | ⟨rfl, rfl⟩
  · exact h
  · rcases h with rfl | h
    · rcases hc with rfl | rfl | rfl <;> exact .inr rfl
    · cases a <;> cases h
      rcases hc with rfl | rfl | rfl <;> simp [stepped, legMove]
  · rcases h with rfl | h
    · rcases hc with rfl | rfl <;> exact .inr rfl
    · cases a <;> cases h <;> rcases hc with rfl | rfl <;> exact .inr rfl
  · rcases h with rfl | h
    · exact .inr rfl
    · cases a <;> cases h <;> exact .inr rfl

theorem eased.stepped {a b : LegState} (h : eased a b) : stepped a b := (Machine.stepped.refl a).eased h

theorem Tidy.steps {s t : State} (h : Tidy Machine.eases s t) : Tidy Machine.steps s t := h.widen fun _ _ _ => eased.stepped

/-- The moves of a leg by a relation that steps. -/
theorem Tidy.onLegSteps {l : LegId} {R : LegState → LegState → Prop} {s t : State} (h : Tidy (onLeg l R) s t)
    (hR : ∀ a b, R a b → stepped a b) : Tidy Machine.steps s t :=
  h.widen fun m a b hab => by
    unfold onLeg at hab; split at hab
    · exact hR a b hab
    · exact .inl hab

theorem Tidy.onLegEases {l : LegId} {s t : State} (h : Tidy (onLeg l eased) s t) : Tidy Machine.eases s t :=
  h.widen fun _ _ _ => onLeg_eases

theorem stays_onLeg {l m : LegId} {a b : LegState} (h : stays m a b) : onLeg l eased m a b := by
  unfold onLeg; split
  · exact .inl h
  · exact h

theorem onLeg_imp {R R' : LegState → LegState → Prop} (h : ∀ a b, R a b → R' a b) {l m : LegId} {a b : LegState} (hab : onLeg l R m a b) :
    onLeg l R' m a b := by
  unfold onLeg at *
  by_cases he : m = l
  · rw [if_pos he] at *; exact h a b hab
  · rw [if_neg he] at *; exact hab

theorem Tidy.refl_onLeg (s : State) (l : LegId) : Tidy (onLeg l eased) s s := (Tidy.refl s).widen fun _ _ _ => stays_onLeg

theorem onLeg_comp {R R' R'' : LegState → LegState → Prop} (h : ∀ a b c, R a b → R' b c → R'' a c) {l m : LegId} {a b c : LegState}
    (hab : onLeg l R m a b) (hbc : onLeg l R' m b c) : onLeg l R'' m a c := by
  unfold onLeg at *
  by_cases he : m = l
  · rw [if_pos he] at *; exact h a b c hab hbc
  · rw [if_neg he] at *; exact hbc.trans hab

theorem Tidy.easeOnLeg {l : LegId} {s t u : State} (h : Tidy (onLeg l eased) s t) (g : Tidy (onLeg l eased) t u) :
    Tidy (onLeg l eased) s u :=
  h.comp g fun _ _ _ _ => onLeg_comp fun _ _ _ => eased_trans

theorem Tidy.thenEaseOnLeg {l : LegId} {s t u : State} (h : Tidy (onLeg l Machine.stepped) s t) (g : Tidy (onLeg l eased) t u) :
    Tidy (onLeg l Machine.stepped) s u :=
  h.comp g fun _ _ _ _ => onLeg_comp fun _ _ _ => stepped.eased

/-- The Slot Engine follows a step. -/
theorem Tidy.thenEase {s t u : State} (h : Tidy Machine.steps s t) (g : Tidy Machine.eases t u) : Tidy Machine.steps s u :=
  h.comp g fun _ _ _ _ => stepped.eased

theorem legState_updLeg_self (l : LegId) (f : LegRec → LegRec) (s : State) : legState (updLeg l f s) l = (f (s.legs.get l)).state := by
  rw [legState_updLeg, if_pos rfl]

/-! ### Commitment and placement (R6, R7, R79, R94, R98) -/

/-- AMBER is entered from COMMITTED (R7). -/
theorem amberEntry_tidy {l : LegId} {s : State} (h : legState s l = .committed) : Tidy (onLeg l eased) s (amberEntry l s) := by
  have h' : (s.legs.get l).state = .committed := h
  refine updLeg_tidy (fun hs => ?_) (.service (by rw [h]; decide) (by dsimp only; decide)) (by rw [h]; exact .inr (by dsimp only; decide))
  refine .ofTimed rfl rfl (fun _ => rfl) (fun hc => ?_) (hs.no_contest (by rw [h']; decide))
  rw [hs.not_cancelled (by rw [h']; decide) (by rw [h']; decide)] at hc; cases hc

/-- A leg that is COMMITTED goes on to AMBER where its start is near. -/
theorem amberIfNear_tidy {l : LegId} {s : State} (h : legState s l = .committed) :
    Tidy (onLeg l eased) s (if startIsNear s l then amberEntry l s else s) :=
  .ite (fun _ => amberEntry_tidy h) fun _ => Tidy.refl_onLeg s l

/-- The commit of a leg whose contest is over (R6). -/
theorem takeCommit_tidy {l : LegId} {s : State} (hx : (s.slots.get l).contest.running = false) :
    Tidy (onLeg l eased) s (takeCommit l s) := by
  refine .ite (fun h => ?_) fun _ => Tidy.refl_onLeg s l
  extract_lets s1
  have hc : (s.legs.get l).state = .claimed ∨ (s.legs.get l).state = .called := h.imp_right And.left
  have h1 : Tidy (onLeg l eased) s s1 := by
    refine updLeg_tidy (fun hs => ?_) ?_ ?_
    · have ht := hs.timed
      refine .untimed rfl ?_ (fun _ => rfl) ?_ hx
      · rcases hc with hc | hc <;> rw [hc] at ht <;> simpa [timedState] using ht
      · rcases hc with hc | hc <;> exact hs.not_cancelled (by rw [hc]; decide) (by rw [hc]; decide)
    · exact .service (by rcases hc with hc | hc <;> rw [legState, hc] <;> decide) (by dsimp only; decide)
    · rcases hc with hc | hc <;> rw [legState, hc] <;> exact .inr (by dsimp only; decide)
  have hs1 : legState s1 l = .committed := legState_updLeg_self ..
  exact h1.easeOnLeg (amberIfNear_tidy hs1)

/-- The contest is stopped with a commit of its slot. -/
theorem contestOver_tidy (l : LegId) (s : State) (f : Slot → Slot) :
    Tidy stays s (updSlot l (fun r => { r with contest := .stopped }) (onSlot l f s)) := by
  have hslots : (updSlot l (fun r => { r with contest := .stopped }) (onSlot l f s)).slots =
      s.slots.upd l (fun r => { r with slot := r.slot.map f, contest := .stopped }) := by
    refine Legs.ext_get fun m => ?_
    simp only [updSlot_slots, onSlot, Legs.get_upd]; split <;> simp_all
  refine (Tidy.ofRecords (R := fun a b => b = a) (f := id) (((onSlot_touches l f).seq (updSlot_touches l _) (ps := [.slots]) rfl rfl) s)
    (by decide) (Legs.upd_id _ l).symm hslots rfl rfl (fun h => ?_) .rfl rfl).widen
    fun _ _ _ => onLeg_stays
  exact ⟨h.timed, by simpa using h.slot, by simpa using h.cancelled, by simp [Countdown.stopped]⟩

theorem contestWon_tidy (l : LegId) (s : State) : Tidy eases s (contestWon l s) := by
  unfold contestWon; extract_lets challenged s1 s2
  have h1 : Tidy stays s s1 := contestOver_tidy l s _
  have hx1 : (s1.slots.get l).contest.running = false := by simp only [s1, updSlot_slots, Legs.get_upd_self]; rfl
  have h2 : Tidy stays s1 s2 := .ite (fun _ => (untell_tidy l s1).still (enqueueLeg_tidy l .keep _)) fun _ => .refl s1
  have hx2 : (s2.slots.get l).contest.running = false := by
    simp only [s2]; split
    · rw [enqueueLeg_touches l .keep _ .slots (by decide), updSlot_slots, Legs.get_upd_self]; exact hx1
    · exact hx1
  exact (h1.still h2).before (takeCommit_tidy hx2).onLegEases

/-- In ISOLATED a leg in CALLED takes its slot and is COMMITTED at once (R79, R94). -/
theorem placeIsolated_tidy {l : LegId} {s : State} (hm : s.mode = .isolated) :
    Tidy (onLeg l eased) s (placeIsolated l s) := by
  unfold placeIsolated
  split
  · exact .refl_onLeg s l
  · refine .ite (fun hc => ?_) fun _ => .refl_onLeg s l
    extract_lets b s1
    have hc' : (s.legs.get l).state = .called := hc
    have hlegs : (setFlagIf b.urgent .urgent s1).legs = s.legs := setFlagIf_touches _ _ s1 .legs (by decide)
    have hslots : (setFlagIf b.urgent .urgent s1).slots = s1.slots := setFlagIf_touches _ _ s1 .slots (by decide)
    have hmode : (setFlagIf b.urgent .urgent s1).mode = .isolated := (setFlagIf_touches _ _ s1 .mode (by decide)).trans hm
    have hcalled : legState (setFlagIf b.urgent .urgent s1) l = .called := by rw [legState, hlegs]; exact hc
    rw [takeCommit, if_pos (.inr ⟨hcalled, hmode⟩)]
    extract_lets s3
    have h3 : Tidy (onLeg l eased) s s3 := by
      refine Tidy.ofRecords (ps := [.slots, .port, .legs]) (f := fun r => { r with state := .committed })
        (g := fun r => { r with slot := some (slotOfBid b .committed), contest := .stopped, challengers := [] })
        ((((updSlot_touches l _).seq (setFlagIf_touches b.urgent .urgent) (ps := [.slots, .port]) rfl rfl).seq (updLeg_touches l _) rfl
          rfl) s) (by decide) (by rw [updLeg_legs, hlegs]) (by rw [updLeg_slots, hslots]; rfl) rfl rfl (fun hs => ?_)
        (.service (by rw [hc]; decide) (by dsimp only; decide)) (by rw [hc]; exact .inr (by dsimp only; decide))
      have ht := hs.timed
      rw [hc'] at ht
      exact .untimed rfl (by simpa [timedState] using ht) (fun _ => rfl) (hs.not_cancelled (by rw [hc']; decide) (by rw [hc']; decide)) rfl
    have hs3 : legState s3 l = .committed := legState_updLeg_self ..
    exact h3.easeOnLeg (amberIfNear_tidy hs3)

theorem reportEligible_tidy (l : LegId) (s : State) : Tidy (onLeg l eased) s (reportEligible l s) :=
  .ite placeIsolated_tidy fun _ => (enqueueLeg_tidy l .bid s).widen fun _ _ _ => stays_onLeg

theorem requestSlot_tidy (l : LegId) (s : State) : Tidy (onLeg l eased) s (requestSlot l s) := by
  unfold requestSlot; extract_lets t
  have ht : Tidy (onLeg l eased) s t := reportEligible_tidy l s
  refine .ite (fun h => ht.still (updQueue_tidy ?_ _)) fun _ => ht
  rw [ht.mode]
  simp only [Bool.and_eq_true] at h
  exact acceptsLeg_open h.1

/-! ### A completed BID (R92, R97) -/

theorem takeDeferred_tidy (l : LegId) (d : Deferred) (s : State) : Tidy eases s (takeDeferred l d s) := by
  cases d with
  | frame c => exact react_tidy l c s
  | upgrade => exact sameStation_tidy _ s

theorem foldDeferred_tidy (l : LegId) (ds : List Deferred) (s : State) : Tidy eases s (ds.foldl (fun s d => takeDeferred l d s) s) := by
  induction ds generalizing s with
  | nil => exact (Tidy.refl s).eases
  | cons d ds ih => exact (takeDeferred_tidy l d s).ease (ih _)

/-- What is reported of a leg's BID beside its own pending bid, which is gone, is tidy. -/
theorem bidReported_tidy {l : LegId} {s : State} {b : Bid} (hb : (s.slots.get l).bid = some b) :
    Tidy steps (updSlot l SlotRec.dropBid s) (bidReported l s) := by
  unfold bidReported
  split
  · next hn => rw [hb] at hn; cases hn
  extract_lets deferred s1
  split
  case isFalse => exact (enqueueLeg_tidy l .cede s1).eases.steps
  next b _ s2 s3 aidCall s4 s5 hc =>
  have hc' : (s1.legs.get l).state = .called := hc
  have h3 : Tidy (onLeg l stepped) s1 s3 := by
    have hport := setFlagIf_touches b.urgent .urgent (updLeg l (fun r => { r with state := .claimed }) s2)
    refine Tidy.ofRecords (ps := [.slots, .legs, .port]) (f := fun r => { r with state := .claimed })
      (g := fun r => { r with slot := some (slotOfBid b .claimed), contest := .load contestTime, challengers := [] })
      ((((updSlot_touches l _).seq (updLeg_touches l _) (ps := [.slots, .legs]) rfl rfl).seq (setFlagIf_touches b.urgent .urgent) rfl rfl) _)
      (by decide) (by simp only [s3]; rw [hport .legs (by decide)]; rfl) (by simp only [s3]; rw [hport .slots (by decide)]; rfl) rfl rfl
      (fun hs => ?_) (.service (by rw [hc]; decide) (by dsimp only; decide)) (by rw [hc]; exact .inr rfl)
    have ht := hs.timed
    rw [hc'] at ht
    refine ⟨?_, fun _ => rfl, ?_, fun _ => ⟨rfl, rfl⟩⟩
    · simpa [timedState] using ht
    · simp [hs.not_cancelled (by rw [hc']; decide) (by rw [hc']; decide)]
  have h4 : Tidy eases s3 s4 := .ite (fun _ => aidUpgrade_tidy l s3) fun _ => (Tidy.refl s3).eases
  have h5 : Tidy steps s1 s5 := ((h3.onLegSteps fun _ _ => id).thenEase h4).thenEase (foldDeferred_tidy l deferred s4)
  exact h5.still (checkOwnChange_tidy _ l none s5)

/-! ### The service cycle (R7 to R11) -/

/-- The slot of a leg past its contest takes another stage. -/
theorem restage_tidy (l : LegId) (f : Slot → Slot) {s : State} (h : legState s l ≠ .claimed) : Tidy stays s (onSlot l f s) := by
  refine updSlot_tidy rfl rfl fun hs => ⟨hs.timed, by simpa using hs.slot, by simpa using hs.cancelled, fun hc => ?_⟩
  exact absurd (hs.contest hc).1 h

/-- A leg moves and its slot is withdrawn (R12, R13, R113). -/
theorem withdrawMove_tidy {l : LegId} {f : LegRec → LegRec} {s : State}
    (hshape : ∀ x : SlotRec, x.slot = none → x.contest.running = false → LegShape (s.legs.get l) x → LegShape (f (s.legs.get l)) x)
    (hstop : sameStop (legState s l) (f (s.legs.get l)).state) (hR : stepped (legState s l) (f (s.legs.get l)).state) :
    Tidy (onLeg l stepped) s (withdraw l (updLeg l f s)) := by
  refine .ite (fun _ => Tidy.still ?_ (enqueueLeg_tidy l .cede _)) fun hn => ?_
  · exact Tidy.ofRecords (((updLeg_touches l f).seq (removeSlot_touches l) (ps := [.legs, .slots]) rfl rfl) s) (by decide) rfl rfl rfl rfl
      (fun hs => hshape _ rfl rfl hs.removeSlot) hstop hR
  · have hslot : (s.slots.get l).slot = none := by simpa [slotOf] using hn
    refine updLeg_tidy (fun hs => hshape _ hslot ?_ hs) hstop hR
    cases hx : (s.slots.get l).contest.running with
    | false => rfl
    | true => have := (hs.contest hx).2; rw [hslot] at this; cases this

/-- ALL_RED_OUT is entered by a leg that has no slot then (R8, R9, R13). -/
theorem allRedOut_shape {r : LegRec} {x : SlotRec} (n : Nat) (c : Countdown) (hs : x.slot = none) (hx : x.contest.running = false) :
    LegShape { r with state := .allRedOut, interval := .load n, flash := c } x :=
  .ofTimed rfl rfl (by simp [hs]) (fun _ => ⟨.inr rfl, hs⟩) hx

theorem amberDone_tidy {l : LegId} {s : State} (h : legState s l = .amber) : Tidy (onLeg l stepped) s (amberDone l s) := by
  have h' : (s.legs.get l).state = .amber := h
  refine .ite (fun hc => ?_) fun hc => ?_
  · refine updLeg_tidy (fun hs => allRedOut_shape _ _ (hs.cancelled hc).2 (hs.no_contest (by rw [h']; decide)))
      (.service (by rw [h]; decide) (by dsimp only; decide)) (by rw [h]; exact .inr rfl)
  · refine updLeg_tidy (fun hs => .ofTimed rfl rfl (fun _ => rfl) (fun h => absurd h hc) (hs.no_contest (by rw [h']; decide)))
      (.service (by rw [h]; decide) (by dsimp only; decide)) (by rw [h]; exact .inr rfl)

theorem startWalk_tidy {l : LegId} {s : State} (h : legState s l = .allRedIn) : Tidy (onLeg l stepped) s (startWalk l s) := by
  unfold startWalk; extract_lets c aid len s1 s2
  have h' : (s.legs.get l).state = .allRedIn := h
  have h1 : Tidy (onLeg l stepped) s s1 := by
    refine updLeg_tidy (fun hs => ?_) (.service (by rw [h]; decide) (by dsimp only; decide)) (by rw [h]; exact .inr rfl)
    refine .ofTimed rfl rfl (fun _ => rfl) (fun hc => ?_) (hs.no_contest (by rw [h']; decide))
    rw [hs.not_cancelled (by rw [h']; decide) (by rw [h']; decide)] at hc; cases hc
  have hcall : Tidy stays s1 (removeCall l s1) := .frame (removeCall_touches l s1) (by decide)
  have hwalk : legState (removeCall l s1) l = .walk := legState_updLeg_self l _ s
  have h2 : Tidy (onLeg l stepped) s s2 :=
    ((h1.still hcall).still (restage_tidy l _ (by rw [hwalk]; decide))).still (untell_tidy l _)
  refine .ite (fun _ => h2.still (.frame (changePattern_touches l .walk s2) (by decide))) fun _ => h2.still ?_
  exact .frame (((cutBeep_touches l .a).seq (cutBeep_touches l .b) (ps := [.kerbs, .links]) rfl rfl) s2) (by decide)

theorem skipWalk_tidy {l : LegId} {s : State} (h : legState s l = .allRedIn) : Tidy (onLeg l stepped) s (skipWalk l s) :=
  withdrawMove_tidy (fun x hs hx _ => allRedOut_shape _ _ hs hx) (.service (by rw [h]; decide) (by dsimp only; decide))
    (by rw [h]; exact .inr rfl)

theorem allRedInDone_tidy {l : LegId} {s : State} (h : legState s l = .allRedIn) : Tidy (onLeg l stepped) s (allRedInDone l s) :=
  .ite (fun _ => startWalk_tidy h) fun _ => skipWalk_tidy h

theorem enterClearance_tidy {l : LegId} {s : State} (h : legState s l = .walk) : Tidy (onLeg l stepped) s (enterClearance l s) := by
  unfold enterClearance; extract_lets r c s1
  have h' : (s.legs.get l).state = .walk := h
  have h1 : Tidy (onLeg l stepped) s s1 := by
    refine updLeg_tidy (fun hs => ?_) (.service (by rw [h]; decide) (by dsimp only; decide)) (by rw [h]; exact .inr rfl)
    refine .ofTimed rfl rfl (fun _ => rfl) (fun hc => ?_) (hs.no_contest (by rw [h']; decide))
    rw [hs.not_cancelled (by rw [h']; decide) (by rw [h']; decide)] at hc; cases hc
  exact .ite (fun _ => h1.still (.frame (changePattern_touches l .clearance s1) (by decide))) fun _ => h1

theorem clearanceDone_tidy {l : LegId} {s : State} (h : legState s l = .clearance) : Tidy (onLeg l stepped) s (clearanceDone l s) := by
  have ht := changePattern_touches l .locator (enterAllRedOut l s)
  have hp : ChangesOnly [.legs, .kerbs, .links, .slots] s (clearanceDone l s) :=
    (((enterAllRedOut_touches l).seq (changePattern_touches l .locator) (ps := [.legs, .kerbs, .links]) rfl rfl).seq
      (removeSlot_touches l) rfl rfl) s
  refine .ofRecords (f := fun r => { r with state := .allRedOut, interval := .load (legConf s l).rout, flash := r.flash.freeze })
    (g := SlotRec.removeSlot) hp (by decide) ((removeSlot_touches l _ .legs (by decide)).trans (ht .legs (by decide))) ?_
    rfl rfl (fun hs => allRedOut_shape _ _ rfl rfl) (.service (by rw [h]; decide) (by dsimp only; decide)) (by rw [h]; exact .inr rfl)
  rw [clearanceDone, removeSlot, updSlot_slots, ht .slots (by decide)]; rfl

theorem greenState_green (s : State) (l : LegId) : greenState s l = .held ∨ greenState s l = .called ∨ greenState s l = .rest := by
  unfold greenState; split
  · exact .inl rfl
  · split
    · exact .inr (.inl rfl)
    · exact .inr (.inr rfl)

theorem allRedOutDone_tidy {l : LegId} {s : State} (h : legState s l = .allRedOut) : Tidy (onLeg l stepped) s (allRedOutDone l s) := by
  unfold allRedOutDone; extract_lets g s1
  have h' : (s.legs.get l).state = .allRedOut := h
  have h1 : Tidy (onLeg l stepped) s s1 := by
    refine updLeg_tidy (fun hs => ?_) (.service (by rw [h]; decide) ?_) ?_
    · obtain ⟨hn, hx⟩ := hs.unslotted (by rw [h']; rfl)
      refine .untimed ?_ rfl (by simp [hn]) rfl hx
      rcases greenState_green s l with hg | hg | hg <;> dsimp only [g] <;> rw [hg] <;> rfl
    · rcases greenState_green s l with hg | hg | hg <;> dsimp only [g] <;> rw [hg] <;> decide
    · rw [h]; rcases greenState_green s l with hg | hg | hg <;> dsimp only [g] <;> rw [hg] <;> exact .inr rfl
  exact .ite (fun _ => h1.thenEaseOnLeg (reportEligible_tidy l s1)) fun _ => h1

/-! ### Holds (R12 to R16) -/

theorem holdInWalk_tidy {l : LegId} {s : State} (h : legState s l = .walk) : Tidy (onLeg l stepped) s (holdInWalk l s) := by
  unfold holdInWalk; extract_lets c rest shorter s1 s2
  have h' : (s.legs.get l).state = .walk := h
  have h1 : Tidy stays s s1 := (updLeg_tidy (R := fun a b => b = a) (fun hs => ⟨hs.1, hs.2, hs.3, hs.4⟩) .rfl rfl).widen fun _ _ _ => onLeg_stays
  have hs1 : legState s1 l = .walk := (legState_updLeg_self l _ s).trans h
  have h2 : Tidy (onLeg l stepped) s s2 := by
    refine .ite (fun _ => h1.before (enterClearance_tidy hs1)) fun _ => h1.before ?_
    refine updLeg_tidy (fun hs => .ofTimed ?_ rfl ?_ (fun hc => hs.cancelled hc) (hs.no_contest ?_)) .rfl (.inl rfl)
    · exact congrArg timedState hs1
    · exact hs.slot
    · rw [show (s1.legs.get l).state = .walk from hs1]; decide
  have h3 : Tidy (onLeg l stepped) s (setFlagIf shorter .truncated s2) := h2.still (setFlagIf_tidy _ _ _)
  exact h3.still (onSlot_tidy l _ _ fun _ => rfl)

theorem holdInClearance_tidy {l : LegId} {s : State} (h : legState s l = .clearance) : Tidy (onLeg l stepped) s (holdInClearance l s) := by
  unfold holdInClearance; extract_lets c
  have h' : (s.legs.get l).state = .clearance := h
  refine .ite (fun _ => ?_) fun _ => ((Tidy.refl_onLeg s l).widen fun _ _ _ => onLeg_imp fun _ _ => eased.stepped)
  have h1 : Tidy (onLeg l stepped) s (updLeg l (fun r => { r with interval := .load c.kp }) s) := by
    refine updLeg_tidy (fun hs => .ofTimed ?_ rfl hs.slot hs.cancelled (hs.no_contest (by rw [h']; decide))) .rfl (.inl rfl)
    exact congrArg timedState h'
  exact (h1.still (setFlag_tidy _ _)).still (onSlot_tidy l _ _ fun _ => rfl)

/-- A leg takes the report of a new hold (R12 to R15). -/
theorem holdLeg_tidy (l : LegId) (s : State) : Tidy (onLeg l stepped) s (holdLeg l s) := by
  have hstill : Tidy (onLeg l stepped) s s := (Tidy.refl_onLeg s l).widen fun _ _ _ => onLeg_imp fun _ _ => eased.stepped
  have hheld (x : SlotRec) (hn : x.slot = none) (hx : x.contest.running = false) (ht : timedState (legState s l) = false)
      (ha : legState s l ≠ .amber) (ho : legState s l ≠ .allRedOut) (hs : LegShape (s.legs.get l) x) :
      LegShape { s.legs.get l with state := .held } x := by
    have htimed := hs.timed
    rw [show (s.legs.get l).state = legState s l from rfl, ht] at htimed
    exact .untimed rfl (by simpa using htimed) (by simp [hn]) (hs.not_cancelled ha ho) hx
  cases h : legState s l <;> simp only [holdLeg, h]
  case rest | called =>
    refine updLeg_tidy (fun hs => ?_) (.service (by rw [h]; decide) (by dsimp only; decide)) (by rw [h]; exact .inr rfl)
    obtain ⟨hn, hx⟩ := hs.unslotted (by rw [show (s.legs.get l).state = legState s l from rfl, h]; rfl)
    exact hheld _ hn hx (by rw [h]; rfl) (by rw [h]; decide) (by rw [h]; decide) hs
  case claimed | committed =>
    exact withdrawMove_tidy (fun x hn hx hs => hheld x hn hx (by rw [h]; rfl) (by rw [h]; decide) (by rw [h]; decide) hs)
      (.service (by rw [h]; decide) (by dsimp only; decide)) (by rw [h]; exact .inr rfl)
  case amber =>
    exact withdrawMove_tidy (fun x hn hx hs => ⟨hs.timed, hs.slot, fun _ => ⟨.inl h, hn⟩, by simp [hx]⟩) .rfl (.inl rfl)
  case allRedIn =>
    exact withdrawMove_tidy (fun x hn hx _ => allRedOut_shape _ _ hn hx) (.service (by rw [h]; decide) (by dsimp only; decide))
      (by rw [h]; exact .inr rfl)
  case walk => exact holdInWalk_tidy h
  case clearance => exact holdInClearance_tidy h
  case allRedOut | held | start | flash => exact hstill

/-- A leg takes the report of the end of a hold (R16). -/
theorem unholdLeg_tidy (l : LegId) (s : State) : Tidy (onLeg l stepped) s (unholdLeg l s) := by
  refine .ite (fun h => ?_) fun _ => (Tidy.refl_onLeg s l).widen fun _ _ _ => onLeg_imp fun _ _ => eased.stepped
  have hleave (g : LegState) (hg : g = .called ∨ g = .rest) : Tidy (onLeg l stepped) s (updLeg l (fun r => { r with state := g }) s) := by
    refine updLeg_tidy (fun hs => ?_) (.service (by rw [h]; decide) ?_) ?_
    · have h' : (s.legs.get l).state = .held := h
      obtain ⟨hn, hx⟩ := hs.unslotted (by rw [h']; rfl)
      have ht := hs.timed
      rw [h'] at ht
      refine .untimed ?_ (by simpa [timedState] using ht) (by simp [hn]) (hs.not_cancelled (by rw [h']; decide) (by rw [h']; decide)) hx
      rcases hg with rfl | rfl <;> rfl
    · rcases hg with rfl | rfl <;> dsimp only <;> decide
    · rcases hg with rfl | rfl <;> rw [h] <;> exact .inr rfl
  exact .ite (fun _ => (hleave _ (.inl rfl)).thenEaseOnLeg (reportEligible_tidy l _)) fun _ => hleave _ (.inr rfl)

theorem placementOrder_pair (both : Bool) (s : State) : ∃ l, placementOrder both s = [l, otherLeg l] := by
  unfold placementOrder
  split
  · split
    · exact ⟨.leg1, rfl⟩
    · exact ⟨.leg0, rfl⟩
  · exact ⟨.leg0, rfl⟩

/-- An update run for the two legs in turn moves each by its own move. -/
theorem forLegs_moves {R : LegState → LegState → Prop} (hrefl : ∀ a, R a a) {f : LegId → State → State} {s : State}
    (hf : ∀ l t, t.mode = s.mode → Tidy (onLeg l R) t (f l t)) (l : LegId) : Tidy (fun _ => R) s (forLegs [l, otherLeg l] f s) := by
  have hone (m : LegId) (t : State) (hm : t.mode = s.mode) : Tidy (onLeg m R) t (if inUse t m then f m t else t) :=
    .ite (fun _ => hf m t hm) fun _ => (Tidy.refl t).widen fun n a b (h : b = a) => by
      unfold onLeg; split
      · rw [h]; exact hrefl a
      · exact h
  have h1 := hone l s rfl
  refine h1.comp (hone (otherLeg l) _ h1.mode) fun m a b c hab hbc => ?_
  unfold onLeg at hab hbc
  by_cases he : m = l
  · rw [if_pos he] at hab
    rw [if_neg (by rw [he]; exact (otherLeg_ne l).symm)] at hbc
    rw [hbc]; exact hab
  · rw [if_neg he] at hab
    rw [if_pos (eq_otherLeg he), hab] at hbc
    exact hbc

theorem forLegs_tidy {f : LegId → State → State} {s : State} (hf : ∀ l t, t.mode = s.mode → Tidy (onLeg l stepped) t (f l t)) (l : LegId) :
    Tidy steps s (forLegs [l, otherLeg l] f s) := forLegs_moves .refl hf l

theorem forLegs_eases {f : LegId → State → State} {s : State} (hf : ∀ l t, t.mode = s.mode → Tidy (onLeg l eased) t (f l t)) (l : LegId) :
    Tidy eases s (forLegs [l, otherLeg l] f s) := forLegs_moves eased_refl hf l

theorem changeSources_tidy (f : Hold → Hold) (s : State) : Tidy steps s (changeSources f s) := by
  unfold changeSources; extract_lets t
  have h1 : Tidy stays s t := .frame (updHold_touches f s) (by decide)
  refine .ite (fun _ => h1.before (forLegs_tidy (fun l t _ => holdLeg_tidy l t) .leg0)) fun _ =>
    .ite (fun _ => ?_) fun _ => h1.eases.steps
  unfold reportHoldEnded; extract_lets both order
  have h2 : Tidy stays s (if both = true then { t with choices := t.choices + 1 } else t) :=
    h1.still (.ite (fun _ => .frame (choose_touches t) (by decide)) fun _ => .refl t)
  obtain ⟨l, hl⟩ := placementOrder_pair both t
  dsimp only [order]
  rw [hl]
  exact h2.before (forLegs_tidy (fun l t _ => unholdLeg_tidy l t) l)

theorem updHold_tidy (f : Hold → Hold) (s : State) : Tidy stays s (updHold f s) := .frame (updHold_touches f s) (by decide)

theorem startClearway_tidy (s : State) : Tidy stays s (startClearway s) :=
  .ite (fun _ => (enqueueClear_tidy .clearway s).still (updHold_tidy _ _)) fun _ => .refl s

theorem endClearway_tidy (s : State) : Tidy stays s (endClearway s) := by
  unfold endClearway; dsimp only
  exact .ite (fun _ => (updHold_tidy _ s).still (enqueueClear_tidy .clearEnd _)) fun _ => updHold_tidy _ s

theorem holdRequested_tidy (s : State) : Tidy steps s (holdRequested s) := by
  unfold holdRequested; dsimp only
  have h1 := (changeSources_tidy (fun h => { h with preempt := true }) s).still (updHold_tidy (fun h => { h with side := .waiting }) _)
  exact .ite (fun _ => h1.still (startClearway_tidy _)) fun _ => h1

theorem releaseTaken_tidy (s : State) : Tidy steps s (releaseTaken s) := by
  unfold releaseTaken; dsimp only
  have h1 := changeSources_tidy (fun h => { h with preempt := false }) s
  exact Tidy.still (.ite (fun _ => h1.still (endClearway_tidy _)) fun _ => h1) (updHold_tidy _ _)

theorem holdLowered_tidy (s : State) : Tidy steps s (holdLowered s) := by
  unfold holdLowered; dsimp only
  have h1 : Tidy stays s (updHold (fun h => { h with side := .idle, pha := false }) s) := updHold_tidy _ s
  exact .ite (fun _ => h1.before (releaseTaken_tidy _)) fun _ => h1.eases.steps

theorem releaseRaised_tidy (s : State) : Tidy steps s (releaseRaised s) :=
  .ite (fun _ => (updHold_tidy _ s).eases.steps) fun _ => releaseTaken_tidy s

theorem changeHolders_tidy (f : List Holder → List Holder) (s : State) : Tidy steps s (changeHolders f s) := changeSources_tidy _ s

theorem refreshDone_tidy (st : Nat) (s : State) : Tidy steps s (refreshDone st s) :=
  (setFlag_tidy .clearwayExpired s).before (changeHolders_tidy _ _)

theorem clearwayDone_tidy (s : State) : Tidy stays s (clearwayDone s) := (enqueueClear_tidy .clearway s).still (updHold_tidy _ _)

theorem startBeacon_tidy (s : State) : Tidy stays s (startBeacon s) :=
  (enqueueBeacon_tidy s).still (.ofLine (updLine_touches _ _) rfl fun _ => rfl)

/-- A valid frame's dispatch (R58). -/
theorem dispatch_tidy (f : Frame) (s : State) : Tidy steps s (dispatch f s) := by
  refine Tidy.still ?_ (.frame (tableTakes_touches f _) (by decide))
  cases f with
  | bid f => exact (slotsTake_tidy _ s).steps
  | keep f => exact (slotsTake_tidy _ s).steps
  | clearway f => exact .ite (fun _ => changeHolders_tidy _ s) fun _ => changeHolders_tidy _ s
  | clearEnd f => exact changeHolders_tidy _ s
  | beacon | cede => exact (Tidy.refl s).eases.steps

/-! ### Presses (R23 to R34) -/

theorem triggerBeep_tidy (l : LegId) (k : Side) (kind : Kind) (s : State) : Tidy stays s (triggerBeep l k kind s) :=
  .frame (triggerBeep_touches l k kind s) (by decide)

theorem pressInRest_tidy {l : LegId} {s : State} (h : legState s l = .rest) (k : Side) (kind : Kind) :
    Tidy steps s (pressInRest l k kind s).1 := by
  unfold pressInRest; extract_lets s1
  have h1 : Tidy (onLeg l stepped) s s1 := by
    refine Tidy.before (.frame (latch_touches l k kind s) (by decide)) (updLeg_tidy (fun hs => ?_) ?_ ?_)
    · have h' : ((latch l k kind s).legs.get l).state = .rest := h
      obtain ⟨hn, hx⟩ := hs.unslotted (by rw [h']; rfl)
      have ht := hs.timed
      rw [h'] at ht
      exact .untimed rfl (by simpa [timedState] using ht) (by simp [hn]) (hs.not_cancelled (by rw [h']; decide) (by rw [h']; decide)) hx
    · exact .service (by rw [show legState (latch l k kind s) l = .rest from h]; decide) (by dsimp only; decide)
    · rw [show legState (latch l k kind s) l = .rest from h]; exact .inr rfl
  exact ((h1.thenEaseOnLeg (requestSlot_tidy l s1)).onLegSteps fun _ _ => id).still (triggerBeep_tidy l k kind _)

theorem upgradeCall_tidy (l : LegId) (s : State) : Tidy stays s (upgradeCall l s) := .frame (upgradeCall_touches l s) (by decide)

theorem latch_tidy (l : LegId) (k : Side) (kind : Kind) (s : State) : Tidy stays s (latch l k kind s) :=
  .frame (latch_touches l k kind s) (by decide)

theorem press_tidy (l : LegId) (k : Side) (kind : Kind) (s : State) : Tidy steps s (press l k kind s) := by
  have hbeep : Tidy steps s (triggerBeep l k kind s) := (triggerBeep_tidy l k kind s).eases.steps
  have hstill : Tidy steps s s := (Tidy.refl s).eases.steps
  cases h : legState s l <;> simp only [press, takePress, h]
  case rest => exact pressInRest_tidy h k kind
  case called =>
    unfold pressInCalled
    split
    · exact ((upgradeCall_tidy l s).before (requestSlot_tidy l _).onLegEases.steps).still (triggerBeep_tidy l k kind _)
    · exact hbeep
  case claimed | committed | amber | allRedIn =>
    unfold pressInService
    split
    · exact ((upgradeCall_tidy l s).before (aidUpgrade_tidy l _).steps).still (triggerBeep_tidy l k kind _)
    · exact hbeep
  case walk =>
    unfold pressInWalk
    split
    · exact hstill
    · split
      · exact hstill.still (.frame (((resetEnvelope_touches l .a).seq (resetEnvelope_touches l .b) (ps := [.kerbs]) rfl rfl) s) (by decide))
      · split
        · exact hstill
        · exact (latch_tidy l k .aid s).eases.steps
  case clearance | allRedOut | held =>
    unfold pressInLater
    split
    · exact ((latch_tidy l k kind s).still (triggerBeep_tidy l k kind _)).eases.steps
    · split
      · exact ((upgradeCall_tidy l s).still (triggerBeep_tidy l k kind _)).eases.steps
      · exact hbeep
  case start | flash => exact hstill

theorem updButton_tidy (l : LegId) (k : Side) (f : Button → Button) (s : State) : Tidy stays s (updButton l k f s) :=
  .frame (updButton_touches l k f s) (by decide)

theorem classifyAid_tidy (l : LegId) (k : Side) (s : State) : Tidy steps s (classifyAid l k s) :=
  (updButton_tidy l k _ s).before (press_tidy l k .aid _)

theorem markStuck_tidy (l : LegId) (k : Side) (s : State) : Tidy stays s (markStuck l k s) := .frame (markStuck_touches l k s) (by decide)

theorem buttonOf_updButton_self (l : LegId) (k : Side) (f : Button → Button) (s : State) :
    buttonOf (updButton l k f s) l k = f (buttonOf s l k) := by
  simp only [buttonOf, updButton, Legs.get_upd_self, Kerbs.get_upd_self]

theorem buttonOf_press (l : LegId) (k : Side) (kind : Kind) (s : State) (m : LegId) (j : Side) :
    buttonOf (press l k kind s) m j = buttonOf s m j := by
  rw [buttonOf, press_touches l k kind s .buttons (by decide), buttonOf]

/-- A press that is classified hands nothing more on at its release (R23). -/
theorem classified_classifyAid (l : LegId) (k : Side) (s : State) : (buttonOf (classifyAid l k s) l k).classified = true := by
  rw [classifyAid, buttonOf_press, buttonOf_updButton_self]

theorem classified_markStuck (l : LegId) (k : Side) (s : State) : (buttonOf (markStuck l k s) l k).classified = (buttonOf s l k).classified := by
  have h : buttonOf (markStuck l k s) l k = buttonOf (updButton l k (fun b => { b with input := .stuck }) s) l k := by
    rw [buttonOf, markStuck, setFlag_touches _ _ .buttons (by decide), buttonOf]
  rw [h, buttonOf_updButton_self]

/-- A release hands at most one press on (R23 to R25). -/
theorem declareRelease_tidy (l : LegId) (k : Side) (s : State) : Tidy steps s (declareRelease l k s) := by
  unfold declareRelease; extract_lets s1 s2 b plain s3
  have h2 : Tidy stays s1 s2 := .ite (fun _ => markStuck_tidy l k s1) fun _ => .refl s1
  have h3 : Tidy stays s1 s3 := h2.still (updButton_tidy l k _ s2)
  by_cases ha : aidReached s l k = true
  · have h1 : Tidy steps s s1 := by simp only [s1, if_pos ha]; exact classifyAid_tidy l k s
    have hc : b.classified = true := by
      have hc1 : (buttonOf s1 l k).classified = true := by simp only [s1, if_pos ha]; exact classified_classifyAid l k s
      simp only [b, s2]; split
      · rw [classified_markStuck]; exact hc1
      · exact hc1
    have hp : plain = false := by simp only [plain, hc]; simp
    rw [hp]
    exact h1.still h3
  · have h1 : s1 = s := by simp only [s1, if_neg ha]
    rw [h1] at h3
    exact .ite (fun _ => h3.before (press_tidy l k .plain s3)) fun _ => h3.eases.steps

theorem sampleButton_tidy (l : LegId) (k : Side) (high : Bool) (s : State) : Tidy steps s (sampleButton l k high s) := by
  have hb (f : Button → Button) : Tidy steps s (updButton l k f s) := (updButton_tidy l k f s).eases.steps
  unfold sampleButton; dsimp only
  split
  · exact .ite (fun _ => .ite (fun _ => hb _) fun _ => hb _) fun _ => hb _
  all_goals exact .ite (fun _ => hb _) fun _ => .ite (fun _ => declareRelease_tidy l k s) fun _ => hb _

/-! ### The decisecond tick -/

theorem tick_tidy (s : State) : Tidy stays s (tick s) := by
  have hlegs (l : LegId) : (tick s).legs.get l = tickLeg (s.legs.get l) := Legs.get_map ..
  have hslots (l : LegId) : (tick s).slots.get l = tickSlotRec (s.slots.get l) := Legs.get_map ..
  have hstate (l : LegId) : legState (tick s) l = legState s l := legState_tick s l
  exact {
    mode := rfl, cfg := rfl, tx := rfl, queue := fun _ => rfl
    bid := fun l => by rw [hslots]; rfl
    deferred := fun l _ hd => by rw [hslots, tickSlotRec, hd]; rfl
    shape := fun l hs => by
      rw [hlegs, hslots]
      have hx : LegShape (s.legs.get l) (tickSlotRec (s.slots.get l)) :=
        hs.of_slot (by simp only [tickSlotRec, Option.map_map]; rfl) (Countdown.tick_running _)
      exact ⟨by rw [tickLeg, Countdown.tick_running]; exact hx.timed, hx.slot, hx.cancelled, hx.contest⟩
    stop := fun l => by rw [hstate]; exact .rfl
    moves := hstate }

end Sys2Proof.Machine
end

section
/-! Legs and line through every step (R51, R54, R76, R77, R93, R96): the Mode Controller's operations beside the tidy ones, and what all
of them do to the state of a leg (R5 to R19). -/

namespace Sys2Proof.Machine

/-! ### Operations that keep legs and line -/

/-- From s to t the legs stay in agreement with mode and slots, the line with mode and bids, and each leg moves as R allows. -/
structure Sound (R : LegState → LegState → Prop) (s t : State) : Prop where
  legs : LegsOk s → LegsOk t
  line : LineOk s → LineOk t
  moves : LegsOk s → ∀ l, R (legState s l) (legState t l)

/-- The leg stays as it is. -/
def still (a b : LegState) : Prop := b = a

/-- The leg stays, enters FLASH, or makes a change of R5 to R19. -/
def moved (a b : LegState) : Prop := b = a ∨ b = .flash ∨ legMove a b = true

theorem Sound.comp {R R' R'' : LegState → LegState → Prop} {s t u : State} (h : Sound R s t) (g : Sound R' t u)
    (hR : ∀ a b c, R a b → R' b c → R'' a c) : Sound R'' s u :=
  ⟨fun hs => g.legs (h.legs hs), fun hs => g.line (h.line hs), fun hs l => hR _ _ _ (h.moves hs l) (g.moves (h.legs hs) l)⟩

theorem Sound.before {R : LegState → LegState → Prop} {s t u : State} (h : Sound still s t) (g : Sound R t u) : Sound R s u :=
  h.comp g fun a b c hab hbc => by rw [show b = a from hab] at hbc; exact hbc

theorem Sound.then {R : LegState → LegState → Prop} {s t u : State} (h : Sound R s t) (g : Sound still t u) : Sound R s u :=
  h.comp g fun a b c hab hbc => by rw [show c = b from hbc]; exact hab

theorem Sound.widen {R R' : LegState → LegState → Prop} {s t : State} (h : Sound R s t) (hR : ∀ a b, R a b → R' a b) : Sound R' s t :=
  ⟨h.legs, h.line, fun hs l => hR _ _ (h.moves hs l)⟩

theorem Sound.ite {R : LegState → LegState → Prop} {s t u : State} {c : Prop} [Decidable c] (h : c → Sound R s t) (g : ¬c → Sound R s u) :
    Sound R s (if c then t else u) := by
  split
  · next hc => exact h hc
  · next hc => exact g hc

theorem legsOk_iff (s : State) : LegsOk s ↔ ∀ l, LegOk s l := ⟨fun ⟨h0, h1⟩ l => by cases l <;> assumption, fun h => ⟨h _, h _⟩⟩

theorem lineOk_iff (s : State) :
    LineOk s ↔ (∀ l, (s.slots.get l).bid.isSome = true → sendsBid s l = true) ∧
      (∀ l, (s.slots.get l).deferred ≠ [] → (s.slots.get l).bid.isSome = true) ∧
      (s.mode = .start ∨ s.mode = .isolated → s.line.queue = Queue.empty ∧ s.line.tx = none) :=
  ⟨fun ⟨h0, h1, h2, h3, h4⟩ => ⟨fun l => by cases l <;> assumption, fun l => by cases l <;> assumption, h4⟩,
    fun ⟨h, g, h4⟩ => ⟨h _, h _, g _, g _, h4⟩⟩

theorem sendsBid_congr {s t : State} (h : t.line.tx = s.line.tx) (l : LegId) : sendsBid t l = sendsBid s l := by
  rw [sendsBid, h, sendsBid]

/-- A leg is as its mode wants it where both records have the shape. -/
theorem LegOk.of_stop {s t : State} {l : LegId} (h : LegOk s l) (hstart : t.mode = .start ↔ s.mode = .start)
    (hflash : t.mode = .flash ↔ s.mode = .flash) (hc : t.cfg = s.cfg) (hstop : sameStop (legState s l) (legState t l))
    (hshape : LegShape (s.legs.get l) (s.slots.get l) → LegShape (t.legs.get l) (t.slots.get l)) : LegOk t l := by
  rw [legOk_iff] at h ⊢
  obtain ⟨h1, h2, h3⟩ := h
  rw [hstop.1, hstop.2, hstart, hflash, inUse_congr hc]
  exact ⟨h1, h2, hshape h3⟩

/-- Tidy operations are sound. -/
theorem Sound.ofTidy {R : LegState → LegState → Prop} {s t : State} (h : Tidy (fun _ => R) s t) : Sound R s t where
  legs := fun hs => by
    rw [legsOk_iff] at hs ⊢
    exact fun l => (hs l).of_stop (by rw [h.mode]) (by rw [h.mode]) h.cfg (h.stop l) (h.shape l)
  line := fun hs => by
    rw [lineOk_iff] at hs ⊢
    obtain ⟨hbid, hdef, hquiet⟩ := hs
    refine ⟨fun l hb => ?_, fun l hd => ?_, fun hm => ?_⟩
    · rw [sendsBid_congr h.tx]; rw [h.bid] at hb; exact hbid l hb
    · rw [h.bid]
      by_contra hn
      rw [Bool.not_eq_true, Option.isSome_eq_false_iff, Option.isNone_iff_eq_none] at hn
      refine hd (h.deferred l hn ?_)
      by_contra hne
      exact absurd (hdef l hne) (by simp [hn])
    · rw [h.mode] at hm
      rw [h.queue hm, h.tx]; exact hquiet hm
  moves := fun _ l => h.moves l

theorem Sound.ofSteps {s t : State} (h : Tidy steps s t) : Sound moved s t := (Sound.ofTidy h).widen fun _ _ h => h.imp_right .inr

theorem Sound.ofEases {s t : State} (h : Tidy eases s t) : Sound eased s t := .ofTidy h

theorem Sound.ofStays {s t : State} (h : Tidy stays s t) : Sound still s t := .ofTidy h

theorem Sound.toMoved {s t : State} (h : Sound still s t) : Sound moved s t := h.widen fun _ _ => .inl

theorem Sound.refl (s : State) : Sound still s s := ⟨id, id, fun _ _ => rfl⟩

/-- The bids and deferred lists may change, and all of the line: legs and slots stand. -/
theorem LegsOk.of_slots {s t : State} (h : LegsOk s) (hm : t.mode = s.mode) (hc : t.cfg = s.cfg) (hl : t.legs = s.legs)
    (hs : ∀ l, (t.slots.get l).slot = (s.slots.get l).slot ∧ (t.slots.get l).contest = (s.slots.get l).contest) : LegsOk t := by
  rw [legsOk_iff] at h ⊢
  refine fun l => (h l).of_stop (by rw [hm]) (by rw [hm]) hc (by rw [legState, legState, hl]; exact .rfl) fun hx => ?_
  rw [hl]
  exact hx.of_slot (by rw [(hs l).1]) (by rw [(hs l).2])

/-! ### The own frame (R43 to R45, R53, R54) -/

/-- What reads on legs and slots alone is kept where only bids and deferred lists of the slots change. -/
theorem Sound.ofLine {ps : List Part} {s t : State} (h : ChangesOnly ps s t) (hd : partsApart ps [.mode, .cfg, .legs] = true)
    (hs : ∀ l, (t.slots.get l).slot = (s.slots.get l).slot ∧ (t.slots.get l).contest = (s.slots.get l).contest)
    (hline : LineOk s → LineOk t) : Sound still s t where
  legs := fun hl => hl.of_slots (h.of_apart hd .mode (by decide)) (h.of_apart hd .cfg (by decide)) (h.of_apart hd .legs (by decide)) hs
  line := hline
  moves := fun _ l => by rw [still, legState, h.of_apart hd .legs (by decide), legState]

theorem Queue.rest_empty : Queue.empty.rest = Queue.empty := rfl

theorem Queue.dropSent_empty : Queue.empty.dropSent = Queue.empty := rfl

theorem slots_stopOwnFrame (s : State) (l : LegId) : (stopOwnFrame s).slots.get l = (s.slots.get l).dropBid := Legs.get_map ..

theorem stopOwnFrame_sound (s : State) : Sound still s (stopOwnFrame s) := by
  refine .ofLine (stopOwnFrame_touches s) (by decide) (fun l => by rw [slots_stopOwnFrame]; exact ⟨rfl, rfl⟩) fun h => ?_
  rw [lineOk_iff] at h ⊢
  obtain ⟨-, -, hquiet⟩ := h
  refine ⟨fun l hb => ?_, fun l hd => ?_, fun hm => ⟨?_, rfl⟩⟩
  · rw [slots_stopOwnFrame] at hb; cases hb
  · rw [slots_stopOwnFrame] at hd; exact absurd rfl hd
  · change s.line.queue.rest = _
    rw [(hquiet hm).1]; rfl

/-- What changes the line beside queue and frame in transmission. -/
theorem updLine_sound {s : State} {f : Line → Line} (hq : (f s.line).queue = s.line.queue) (htx : (f s.line).tx = s.line.tx) :
    Sound still s (updLine f s) := .ofStays (.ofLine (updLine_touches f s) htx fun _ => hq)

theorem discardReception_sound (s : State) : Sound still s (discardReception s) := updLine_sound rfl rfl

theorem loseArbitration_sound (s : State) : Sound still s (loseArbitration s) :=
  (stopOwnFrame_sound s).then (updLine_sound rfl rfl)

/-- A completed frame is gone with its request (R45): a station that sends none holds no pending bid but one whose report is due. -/
theorem completeFrame_quiet {s : State} (h : LineOk s) :
    s.mode = .start ∨ s.mode = .isolated → (completeFrame s).line.queue = Queue.empty ∧ (completeFrame s).line.tx = none := by
  rw [lineOk_iff] at h
  intro hm
  refine ⟨?_, rfl⟩
  change s.line.queue.dropSent = _
  rw [(h.2.2 hm).1]; rfl

theorem completeFrame_sound {s : State} (h : ∀ l, sendsBid s l = false) : Sound still s (completeFrame s) := by
  refine .ofLine (updLine_touches _ s) (by decide) (fun _ => ⟨rfl, rfl⟩) fun hl => ?_
  have hquiet := completeFrame_quiet hl
  rw [lineOk_iff] at hl ⊢
  obtain ⟨hbid, hdef, -⟩ := hl
  have hnone (l : LegId) : ¬(s.slots.get l).bid.isSome = true := fun hb => by have := hbid l hb; rw [h l] at this; cases this
  exact ⟨fun l hb => absurd hb (hnone l), fun l hd => absurd (hdef l hd) (hnone l), hquiet⟩

theorem sendsBid_of_bid {s : State} {f : BidFrame} (h : s.line.tx = some (.bid f)) (m : LegId) :
    sendsBid s m = decide (f.leg = m) := by
  rw [sendsBid, h]

/-- A frame in transmission is a BID exactly where `bidInFlight` names its leg. -/
theorem bidInFlight_cases (s : State) :
    (∃ f, s.line.tx = some (.bid f) ∧ bidInFlight s = some f.leg) ∨
    (bidInFlight s = none ∧ ∀ m, sendsBid s m = false) := by
  unfold bidInFlight sendsBid
  cases s.line.tx with
  | none => exact .inr ⟨rfl, fun _ => rfl⟩
  | some frame =>
    cases frame with
    | bid f => exact .inl ⟨f, rfl, rfl⟩
    | _ => exact .inr ⟨rfl, fun _ => rfl⟩

theorem sendsBid_bidInFlight {s : State} {l : LegId} (h : bidInFlight s = some l) (m : LegId) : sendsBid s m = decide (l = m) := by
  obtain ⟨f, htx, hf⟩ | ⟨hn, -⟩ := bidInFlight_cases s
  · cases hf.symm.trans h; exact sendsBid_of_bid htx m
  · cases hn.symm.trans h

theorem sendsBid_of_noBid {s : State} (h : bidInFlight s = none) (m : LegId) : sendsBid s m = false := by
  obtain ⟨f, -, hf⟩ | ⟨-, hnone⟩ := bidInFlight_cases s
  · cases hf.symm.trans h
  · exact hnone m

theorem bidInFlight_none_of_keep {s : State} {l : LegId} (h : keepInFlight s = some l) : bidInFlight s = none := by
  unfold keepInFlight at h; unfold bidInFlight
  split at h
  · next f hf => rw [hf]
  · cases h

theorem bidInFlight_none_of_cede {s : State} {l : LegId} (h : cedeInFlight s = some l) : bidInFlight s = none := by
  unfold cedeInFlight at h; unfold bidInFlight
  split at h
  · next f hf => rw [hf]
  · cases h

theorem bidInFlight_none_of_plain {s : State} (h : sendsPlain s = true) : bidInFlight s = none := by
  unfold sendsPlain at h; unfold bidInFlight
  split at h
  · next f hf => rw [hf]
  · next f hf => rw [hf]
  · next f hf => rw [hf]
  · cases h

theorem keepReported_tidy (l : LegId) (s : State) : Tidy stays s (keepReported l s) :=
  updSlot_tidy rfl rfl fun h => h.of_slot rfl rfl

theorem cedeReported_tidy (l : LegId) (s : State) : Tidy stays s (cedeReported l s) :=
  .ite (fun _ => enqueueLeg_tidy l .bid s) fun _ => .refl s

/-- A BID completes (R45, R92): its pending bid goes as its report is taken. -/
theorem bidCompleted_sound {s : State} {l : LegId} (h : bidInFlight s = some l) : Sound moved s (bidReported l (completeFrame s)) := by
  have hslot (m : LegId) : (completeFrame s).slots.get m = s.slots.get m := rfl
  have hother (hs : LineOk s) (m : LegId) (hm : m ≠ l) : ¬(s.slots.get m).bid.isSome = true := fun hb => by
    have := ((lineOk_iff s).mp hs).1 m hb
    rw [sendsBid_bidInFlight h, decide_eq_true_eq] at this
    exact hm this.symm
  cases hb : (s.slots.get l).bid with
  | none =>
    have he : bidReported l (completeFrame s) = completeFrame s := by
      unfold bidReported; rw [hslot, hb]
    rw [he]
    refine (Sound.ofLine (updLine_touches _ s) (by decide) (fun _ => ⟨rfl, rfl⟩) fun hs => ?_).toMoved
    have hnone (m : LegId) : ¬(s.slots.get m).bid.isSome = true := by
      by_cases hm : m = l
      · rw [hm, hb]; decide
      · exact hother hs m hm
    refine (lineOk_iff _).mpr ⟨fun m hm => absurd hm (hnone m), fun m hd => ?_, completeFrame_quiet hs⟩
    exact absurd (((lineOk_iff s).mp hs).2.1 m hd) (hnone m)
  | some b =>
    have hdrop : Sound still s (updSlot l SlotRec.dropBid (completeFrame s)) := by
      have hget (m : LegId) : (updSlot l SlotRec.dropBid (completeFrame s)).slots.get m =
          if m = l then (s.slots.get l).dropBid else s.slots.get m := Legs.get_upd ..
      refine .ofLine ((completeFrame_touches.seq (updSlot_touches l _) (ps := [.line, .slots]) rfl rfl) s) (by decide)
        (fun m => ?_) fun hs => ?_
      · rw [hget]; split
        · next he => rw [he]; exact ⟨rfl, rfl⟩
        · exact ⟨rfl, rfl⟩
      · refine (lineOk_iff _).mpr ⟨fun m hm => ?_, fun m hd => ?_, completeFrame_quiet hs⟩
        · rw [hget] at hm; split at hm
          · cases hm
          · next hne => exact absurd hm (hother hs m hne)
        · rw [hget] at hd ⊢; split at hd
          · exact absurd rfl hd
          · next hne => rw [if_neg hne]; exact ((lineOk_iff s).mp hs).2.1 m hd
    exact hdrop.before (Sound.ofSteps (bidReported_tidy (s := completeFrame s) hb))

/-! ### A transmission starts (R53) -/

theorem sendFrame_line (h : Head) (f : Frame) (s : State) : (sendFrame h f s).line.tx = some f ∧ (sendFrame h f s).slots = s.slots := ⟨rfl, rfl⟩

/-- With no own frame in transmission no bid is pending. -/
theorem LineOk.no_bid {s : State} (h : LineOk s) (htx : s.line.tx = none) (l : LegId) :
    (s.slots.get l).bid = none ∧ (s.slots.get l).deferred = [] := by
  rw [lineOk_iff] at h
  obtain ⟨hbid, hdef, -⟩ := h
  have hn : ¬(s.slots.get l).bid.isSome = true := fun hb => by
    have := hbid l hb
    rw [sendsBid, htx] at this; cases this
  refine ⟨by simpa using hn, ?_⟩
  by_contra hd
  exact hn (hdef l hd)

/-- A frame other than a BID begins with no bid pending. -/
theorem sendFrame_sound {s : State} (htx : s.line.tx = none) (hm : ¬(s.mode = .start ∨ s.mode = .isolated)) (h : Head) (f : Frame) :
    Sound still s (sendFrame h f s) := by
  refine .ofLine (sendFrame_touches h f s) (by decide) (fun _ => ⟨rfl, rfl⟩) fun hs => ?_
  have hno := hs.no_bid htx
  refine (lineOk_iff _).mpr ⟨fun l hb => ?_, fun l hd => absurd (hno l).2 hd, fun hq => absurd hq hm⟩
  change (s.slots.get l).bid.isSome = true at hb
  rw [(hno l).1] at hb; cases hb

theorem beginFrame_sound {s : State} (htx : s.line.tx = none) (hm : ¬(s.mode = .start ∨ s.mode = .isolated)) (h : Head) :
    Sound still s (beginFrame h s) := by
  cases h with
  | beacon => exact sendFrame_sound htx hm .beacon (buildBeacon s)
  | clear k =>
    cases k with
    | clearway => exact sendFrame_sound htx hm (.clear .clearway) (.clearway (ownClearway s))
    | clearEnd => exact sendFrame_sound htx hm (.clear .clearEnd) (.clearEnd (ownClearway s))
  | leg l k =>
    cases k with
    | cede => exact sendFrame_sound htx hm (.leg l .cede) (.cede { station := ownStation s, leg := l })
    | keep =>
      unfold beginFrame; dsimp only
      split
      · exact .refl s
      · exact sendFrame_sound htx hm _ _
    | bid =>
      unfold beginFrame; dsimp only
      split
      · exact .refl s
      · next c hc =>
        have hget (m : LegId) : (sendFrame (.leg l .bid) (buildBid s l (place s l c))
            (updSlot l (fun r => { r with bid := some (place s l c), deferred := [] }) s)).slots.get m =
            if m = l then { s.slots.get l with bid := some (place s l c), deferred := [] } else s.slots.get m := Legs.get_upd ..
        refine .ofLine (((updSlot_touches l _).seq (sendFrame_touches _ _) (ps := [.slots, .line]) rfl rfl) s) (by decide)
          (fun m => ?_) fun hs => ?_
        · rw [hget]; split
          · next he => rw [he]; exact ⟨rfl, rfl⟩
          · exact ⟨rfl, rfl⟩
        · have hno := hs.no_bid htx
          refine (lineOk_iff _).mpr ⟨fun m hb => ?_, fun m hd => ?_, fun hq => absurd hq hm⟩
          · rw [hget] at hb; split at hb
            · next he => rw [sendsBid, (sendFrame_line _ _ _).1]; simp [buildBid, he]
            · rw [(hno m).1] at hb; cases hb
          · rw [hget] at hd; split at hd
            · exact absurd rfl hd
            · exact absurd (hno m).2 hd

theorem headPasses_open {s : State} {h : Head} (hp : headPasses s h = true) : ¬(s.mode = .start ∨ s.mode = .isolated) := by
  cases h with
  | beacon | clear => exact acceptsAny_open hp
  | leg l k =>
    cases k <;> simp only [headPasses, Bool.and_eq_true] at hp
    · exact acceptsLeg_open hp.1.1
    · exact acceptsLeg_open hp.1
    · exact acceptsLeg_open hp

/-- Dropping a head leaves an empty queue empty. -/
theorem dropHead_sound (h : Head) (s : State) : Sound still s (dropHead h s) := by
  refine .ofLine (updLine_touches _ s) (by decide) (fun _ => ⟨rfl, rfl⟩) fun hs => ?_
  obtain ⟨hbid, hdef, hquiet⟩ := (lineOk_iff s).mp hs
  refine (lineOk_iff _).mpr ⟨hbid, hdef, fun hm => ⟨?_, (hquiet hm).2⟩⟩
  cases h with
  | leg l k =>
    change ({ s.line.queue with legs := s.line.queue.legs.set l none } : Queue) = _
    rw [(hquiet hm).1]
    cases l <;> rfl
  | beacon =>
    change ({ s.line.queue with beacon := none } : Queue) = _
    rw [(hquiet hm).1]; rfl
  | clear k =>
    change ({ s.line.queue with clear := none } : Queue) = _
    rw [(hquiet hm).1]; rfl

theorem takeHead_sound (n : Nat) {s : State} (htx : s.line.tx = none) : Sound still s (takeHead n s) := by
  induction n generalizing s with
  | zero => exact .refl s
  | succ n ih =>
    unfold takeHead
    split
    · exact .refl s
    · next h _ => exact .ite (fun hp => beginFrame_sound htx (headPasses_open hp) h) fun _ => (dropHead_sound h s).before (ih htx)

/-! ### LISTEN and ISOLATED are entered (R161, R162) -/

/-- The mode changes between two that are neither START nor FLASH, and the legs stand. -/
theorem LegsOk.of_mode {s t : State} (h : LegsOk s) (hs : s.mode ≠ .start ∧ s.mode ≠ .flash) (ht : t.mode ≠ .start ∧ t.mode ≠ .flash)
    (hc : t.cfg = s.cfg) (hl : t.legs = s.legs)
    (hx : ∀ l, (t.slots.get l).slot = (s.slots.get l).slot ∧ (t.slots.get l).contest = (s.slots.get l).contest) : LegsOk t := by
  rw [legsOk_iff] at h ⊢
  refine fun l => (h l).of_stop (by simp [hs.1, ht.1]) (by simp [hs.2, ht.2]) hc (by rw [legState, legState, hl]; exact .rfl) fun hsh => ?_
  rw [hl]
  exact hsh.of_slot (by rw [(hx l).1]) (by rw [(hx l).2])

theorem enterListen_sound {s : State} (hm : s.mode = .isolated) : Sound still s (enterListen s) := by
  have hbase : Sound still s { s with mode := .listen, cause := .none, join := .load 30 } :=
    ⟨fun h => h.of_mode (by rw [hm]; decide) ⟨nofun, nofun⟩ rfl rfl fun _ => ⟨rfl, rfl⟩,
      fun h => (lineOk_iff _).mpr ⟨((lineOk_iff s).mp h).1, ((lineOk_iff s).mp h).2.1, fun hq => absurd hq (by simp)⟩, fun _ _ => rfl⟩
  exact hbase.then (.ofStays ((startBeacon_tidy _).still (startClearway_tidy _)))

theorem isolatedBase_sound (i : Isolation) {s : State} (hm : s.mode = .listen ∨ s.mode = .run) : Sound still s (isolatedBase i s) := by
  have hget (l : LegId) : (isolatedBase i s).slots.get l = { s.slots.get l with bid := none, deferred := [], challengers := [] } :=
    Legs.get_map ..
  refine ⟨fun h => h.of_mode ?_ ⟨nofun, nofun⟩ rfl rfl fun l => by rw [hget]; exact ⟨rfl, rfl⟩, fun _ => ?_, fun _ _ => rfl⟩
  · rcases hm with hm | hm <;> rw [hm] <;> decide
  · refine (lineOk_iff _).mpr ⟨fun l hb => ?_, fun l hd => ?_, fun _ => ⟨rfl, rfl⟩⟩
    · rw [hget] at hb; cases hb
    · rw [hget] at hd; exact absurd rfl hd

theorem isolateLeg_tidy {l : LegId} {s : State} (hm : s.mode = .isolated) : Tidy (onLeg l eased) s (isolateLeg l s) := by
  refine .ite (fun _ => placeIsolated_tidy hm) fun _ => .ite (fun _ => ?_) fun _ => .refl_onLeg s l
  exact (contestOver_tidy l s _).before (takeCommit_tidy (by rw [updSlot_slots, Legs.get_upd_self]; rfl))

/-- Entering ISOLATED the legs move as the Slot Engine moves them (R100). -/
theorem enterIsolated_tidy (i : Isolation) (s : State) : Tidy eases (isolatedBase i s) (enterIsolated i s) := by
  rw [enterIsolated_eq]
  have h1 : Tidy stays (isolatedBase i s)
      (if bothCalled s = true then { isolatedBase i s with choices := s.choices + 1 } else isolatedBase i s) :=
    .ite (fun _ => .frame (choose_touches (isolatedBase i s)) (by decide)) fun _ => .refl _
  obtain ⟨l, hl⟩ := placementOrder_pair (bothCalled s) (isolatedBase i s)
  rw [hl]
  exact h1.before (forLegs_eases (fun l t ht => isolateLeg_tidy (ht.trans h1.mode)) l)

theorem enterIsolated_sound (i : Isolation) {s : State} (hm : s.mode = .listen ∨ s.mode = .run) : Sound eased s (enterIsolated i s) :=
  (isolatedBase_sound i hm).before (.ofEases (enterIsolated_tidy i s))

theorem eased_moved {a b : LegState} (h : eased a b) : moved a b := h.stepped.imp_right .inr

theorem reportIsolation_sound (i : Isolation) (s : State) : Sound moved s (reportIsolation i s) := by
  have hsame {t : State} (h1 : LegsOk s → LegsOk t) (h2 : LineOk s → LineOk t) (h3 : t.legs = s.legs) : Sound moved s t :=
    ⟨h1, h2, fun _ l => .inl (by rw [legState, h3, legState])⟩
  unfold reportIsolation
  split
  case h_1 hm => exact (enterIsolated_sound i (.inl hm)).widen fun _ _ => eased_moved
  case h_2 hm => exact (enterIsolated_sound i (.inr hm)).widen fun _ _ => eased_moved
  case h_3 => exact .ite (fun _ => hsame id id rfl) fun _ => hsame id id rfl
  case h_4 => split <;> exact hsame id id rfl
  case h_5 => exact hsame id id rfl

theorem duplicateFound_sound (s : State) : Sound moved s (duplicateFound s) :=
  (Sound.ofStays (setFlag_tidy .duplicate s)).before (reportIsolation_sound .duplicate _)

theorem takeLineFault_sound (s : State) : Sound moved s (takeLineFault s) := by
  refine .ite (fun _ => ?_) fun _ => (Sound.refl s).toMoved
  have h1 : Sound still s (updLine (fun n => { n with faulted := true }) (setFlag .lineFault s)) :=
    (Sound.ofStays (setFlag_tidy _ s)).then (updLine_sound rfl rfl)
  exact ((h1.then (stopOwnFrame_sound _)).then (discardReception_sound _)).before (reportIsolation_sound .line _)

theorem takeLineClear_sound (s : State) : Sound still s (takeLineClear s) := by
  refine .ite (fun _ => ?_) fun _ => .refl s
  extract_lets s1
  have h1 : Sound still s s1 := updLine_sound rfl rfl
  refine .ite (fun h => h1.then (enterListen_sound h.1)) fun _ => .ite (fun _ => ?_) fun _ => h1
  exact h1.then ⟨id, id, fun _ _ => rfl⟩

theorem takeJoin_sound (s : State) : Sound still s (takeJoin s) := by
  have hsame {t : State} (h1 : LegsOk s → LegsOk t) (h2 : LineOk s → LineOk t) (h3 : t.legs = s.legs) : Sound still s t :=
    ⟨h1, h2, fun _ l => by rw [still, legState, h3, legState]⟩
  unfold takeJoin
  split
  case h_1 hm => exact .ite (fun _ => hsame id id rfl) fun _ => enterListen_sound hm
  case h_2 =>
    refine .ite (fun _ => hsame id id rfl) fun _ => ?_
    split <;> exact hsame id id rfl
  case h_3 => exact .refl s

theorem collide_sound (s : State) : Sound moved s (collide s) := by
  unfold collide; extract_lets s1
  have h1 : Sound still s s1 := (stopOwnFrame_sound s).then (updLine_sound rfl rfl)
  exact .ite (fun _ => h1.before (duplicateFound_sound s1)) fun _ => h1.toMoved

theorem judgePulse_sound (recessive : Nat) (dominant : Dominant) (s : State) : Sound moved s (judgePulse recessive dominant s) := by
  unfold judgePulse; extract_lets s1
  have h1 : Sound still s s1 := updLine_sound rfl rfl
  exact .ite (fun _ => h1.before (takeLineFault_sound s1)) fun _ => h1.toMoved

theorem joinDone_sound {s : State} (hm : s.mode = .listen) : Sound still s (joinDone s) := by
  have hbase : Sound still s { s with mode := .run, join := .stopped } :=
    ⟨fun h => h.of_mode (by rw [hm]; decide) ⟨nofun, nofun⟩ rfl rfl fun _ => ⟨rfl, rfl⟩,
      fun h => (lineOk_iff _).mpr ⟨((lineOk_iff s).mp h).1, ((lineOk_iff s).mp h).2.1, fun hq => absurd hq (by simp)⟩, fun _ _ => rfl⟩
  have hask (l : LegId) (t : State) : Tidy stays t (if inUse t l then cedeReported l t else t) :=
    .ite (fun _ => cedeReported_tidy l t) fun _ => .refl t
  exact hbase.then (.ofStays ((hask .leg0 _).still (hask .leg1 _)))

/-! ### FLASH is entered (R18, R114, R164) -/

/-- The record of a leg that enters FLASH (R18). -/
def LegRec.flashed (r : LegRec) : LegRec :=
  { r with state := .flash, flashOn := true, flash := .load 5, interval := .stopped, minGreen := .stopped, walkElapsed := 0,
           walkCancelled := false, clearanceCut := false }

/-- An update of each leg in use that sets the leg's record alone among the legs, by the configuration. -/
theorem forLegs_get {f : LegId → State → State} {g : LegId → LegRec → LegRec} {s : State}
    (hf : ∀ l t, t.cfg = s.cfg → (f l t).legs = t.legs.upd l (g l) ∧ (f l t).cfg = t.cfg) (l : LegId) :
    (forLegs bothLegs f s).legs.get l = if inUse s l then g l (s.legs.get l) else s.legs.get l := by
  have hone (m : LegId) (t : State) (ht : t.cfg = s.cfg) :
      (∀ n, (if inUse t m then f m t else t).legs.get n = if n = m ∧ inUse s m = true then g m (t.legs.get m) else t.legs.get n) ∧
        (if inUse t m then f m t else t).cfg = s.cfg := by
    rw [inUse_congr ht]
    cases hu : inUse s m with
    | false => exact ⟨fun n => by simp, by simpa using ht⟩
    | true =>
      obtain ⟨hl, hc⟩ := hf m t ht
      refine ⟨fun n => ?_, by simpa using hc.trans ht⟩
      simp only [if_true, hl, Legs.get_upd, and_true]
  obtain ⟨h0, hc0⟩ := hone .leg0 s rfl
  obtain ⟨h1, -⟩ := hone .leg1 _ hc0
  change ((if inUse (if inUse s .leg0 then f .leg0 s else s) .leg1 then f .leg1 (if inUse s .leg0 then f .leg0 s else s)
    else (if inUse s .leg0 then f .leg0 s else s)).legs.get l) = _
  rw [h1 l]
  cases l with
  | leg0 => rw [if_neg (by simp), h0]; simp
  | leg1 => simp [h0]

/-- What FLASH entry leaves of a leg: its record in FLASH where it is in use, and its slot, contest and deferred list gone. -/
theorem flashBlocks_legs (s : State) (l : LegId) :
    (flashBlocks s).legs.get l = if inUse s l then (s.legs.get l).flashed else s.legs.get l := by
  unfold flashBlocks; extract_lets s1 s2 s3
  rw [forLegs_touches silenceLeg_touches bothLegs s3 .legs (by decide)]
  exact forLegs_get (f := flashLeg) (g := fun _ => LegRec.flashed) (fun l t _ => ⟨rfl, rfl⟩) l

theorem flashBlocks_slots (s : State) (l : LegId) : (flashBlocks s).slots.get l = (s.slots.get l).flash := by
  unfold flashBlocks; extract_lets s1 s2 s3
  rw [forLegs_touches silenceLeg_touches bothLegs s3 .slots (by decide)]
  have h1 : s1.slots = s.slots := forLegs_touches flashLeg_touches bothLegs s .slots (by decide)
  change (s1.slots.map SlotRec.flash).get l = _
  rw [h1, Legs.get_map]

/-- FLASH entry, with the mode set before: legs in use are in FLASH, one that is not is in START. -/
theorem flashBlocks_legsOk {s : State} (hm : s.mode = .flash) (hout : ∀ l, inUse s l = false → legState s l = .start ∧
    LegShape (s.legs.get l) (s.slots.get l)) : LegsOk (flashBlocks s) := by
  have ht := flashBlocks_touches s
  have hmode : (flashBlocks s).mode = .flash := (ht .mode (by decide)).trans hm
  have huse (l : LegId) : inUse (flashBlocks s) l = inUse s l := inUse_congr (ht .cfg (by decide)) l
  rw [legsOk_iff]
  intro l
  rw [legOk_iff, hmode, huse, legState, flashBlocks_legs, flashBlocks_slots]
  cases hu : inUse s l with
  | true =>
    exact ⟨by simp [LegRec.flashed], by simp [LegRec.flashed],
      .untimed rfl rfl (by simp [SlotRec.flash, SlotRec.removeSlot]) rfl rfl⟩
  | false =>
    obtain ⟨hst, hsh⟩ := hout l hu
    have hst' : (s.legs.get l).state = .start := hst
    exact ⟨iff_of_true hst' (.inr rfl), iff_of_false (by simp [hst']) (by simp), hsh.removeSlot.of_slot rfl rfl⟩

/-- FLASH entry keeps bids to their frames (R92). -/
theorem flashBlocks_lineOk {s : State} (hm : s.mode = .flash)
    (h : (∀ l, (s.slots.get l).bid.isSome = true → sendsBid s l = true) ∧
      (∀ l, (s.slots.get l).deferred ≠ [] → (s.slots.get l).bid.isSome = true)) : LineOk (flashBlocks s) := by
  have ht := flashBlocks_touches s
  refine (lineOk_iff _).mpr ⟨fun l hb => ?_, fun l hd => ?_, fun hq => ?_⟩
  · rw [flashBlocks_slots] at hb
    rw [sendsBid_congr (congrArg Line.tx (ht .line (by decide)))]
    exact h.1 l hb
  · rw [flashBlocks_slots] at hd; exact absurd rfl hd
  · rw [ht .mode (by decide), hm] at hq; simp at hq

theorem flashBlocks_flash {s : State} (l : LegId) : legState (flashBlocks s) l = if inUse s l then .flash else legState s l := by
  rw [legState, flashBlocks_legs]; split <;> rfl

theorem LegOk.out {s : State} {l : LegId} (h : LegOk s l) (hu : inUse s l = false) :
    legState s l = .start ∧ LegShape (s.legs.get l) (s.slots.get l) := by
  rw [legOk_iff] at h
  exact ⟨h.1.mpr (.inr hu), h.2.2⟩

/-- The leg stays or enters FLASH. -/
def flashes (a b : LegState) : Prop := b = a ∨ b = .flash

theorem flashes.moved {a b : LegState} (h : flashes a b) : Machine.moved a b := h.imp_right .inl

theorem Sound.flashes {s t : State} (h : Sound still s t) : Sound Machine.flashes s t := h.widen fun _ _ => .inl

theorem enterFlash_sound (c : Cause) (s : State) : Sound flashes s (enterFlash c s) := by
  have hbase : Sound flashes s (flashBlocks (flashMode c s)) := by
    refine ⟨fun h => flashBlocks_legsOk rfl fun l hu => (((legsOk_iff s).mp h) l).out hu,
      fun h => flashBlocks_lineOk rfl ⟨((lineOk_iff s).mp h).1, ((lineOk_iff s).mp h).2.1⟩, fun _ l => ?_⟩
    rw [flashBlocks_flash]
    split
    · exact .inr rfl
    · exact .inl rfl
  have h1 : Sound flashes s (startBeacon (flashBlocks (flashMode c s))) := hbase.then (.ofStays (startBeacon_tidy _))
  rw [enterFlash_eq]
  exact .ite (fun _ => h1.then (.ofStays (startClearway_tidy _))) fun _ => h1

theorem flashFrom_sound (c : Cause) (s : State) : Sound flashes s (flashFrom c s) :=
  .ite (fun _ => (Sound.refl s).flashes) fun _ => enterFlash_sound c s

/-- A conflict found takes the station to FLASH (R169). -/
theorem conflictFound_sound (s : State) : Sound flashes s (flashFrom .conflict (setFlag .conflict s)) :=
  (Sound.ofStays (setFlag_tidy .conflict s)).before (flashFrom_sound .conflict _)

theorem checkConflict_sound (l : LegId) (before : Lamps LampRec) (s : State) : Sound flashes s (checkConflict l before s) :=
  .ite (fun _ => conflictFound_sound s) fun _ => (Sound.refl s).flashes

theorem conflictAtStart_sound (s : State) : Sound flashes s (conflictAtStart s) :=
  .ite (fun _ => conflictFound_sound s) fun _ => (Sound.refl s).flashes

theorem mismatchDone_sound (l : LegId) (i : LampId) (s : State) : Sound flashes s (mismatchDone l i s) := by
  unfold mismatchDone; extract_lets red s1
  have h1 : Sound still s s1 :=
    .ofStays (.frame (((updLamp_touches l i _).seq (setFlag_touches _) (ps := [.lamps, .port]) rfl rfl) s) (by decide))
  exact .ite (fun _ => h1.before (flashFrom_sound .lamp s1)) fun _ => h1.flashes

/-! ### FLASH and START are left (R160, R166) -/

/-- The record of a leg that leaves FLASH or START (R18, R19). -/
def LegRec.released (rout : Nat) (r : LegRec) : LegRec :=
  { r with state := .allRedOut, interval := .load rout, flash := r.flash.freeze }

theorem legConf_congr {s t : State} (hc : t.cfg = s.cfg) (l : LegId) : legConf t l = legConf s l := by
  cases l <;> simp only [legConf, conf_congr hc]

theorem releaseLeg_legs (l : LegId) (s : State) :
    (releaseLeg l s).legs = s.legs.upd l (LegRec.released (legConf s l).rout) ∧ (releaseLeg l s).cfg = s.cfg :=
  ⟨changePattern_touches l .locator (enterAllRedOut l s) .legs (by decide), releaseLeg_touches l s .cfg (by decide)⟩

theorem resumedBase_legs (s : State) (l : LegId) :
    (resumedBase s).legs.get l = if inUse s l then (s.legs.get l).released (legConf s l).rout else s.legs.get l :=
  forLegs_get (s := { s with mode := .run, cause := .none }) (g := fun l => LegRec.released (legConf s l).rout) (fun l t ht => by
    rw [← legConf_congr (s := s) (t := t) ht l]; exact releaseLeg_legs l t) l

/-- Legs that leave FLASH or START for ALL_RED_OUT hold no slot, and no walk is cancelled. -/
theorem released_shape {r : LegRec} {x : SlotRec} (h : LegShape r x) (hr : r.state = .flash ∨ r.state = .start) (rout : Nat) :
    LegShape (r.released rout) x := by
  obtain ⟨hn, hx⟩ := h.unslotted (by rcases hr with hr | hr <;> rw [hr] <;> rfl)
  exact allRedOut_shape _ _ hn hx

theorem takeResume_sound {s : State} (hm : s.mode = .flash) : Sound moved s (takeResume s) := by
  have ht := resumedBase_changes s
  have hmode : (resumedBase s).mode = .run := ht .mode (by decide)
  have hcfg : (resumedBase s).cfg = s.cfg := ht .cfg (by decide)
  have hslots : (resumedBase s).slots = s.slots := ht .slots (by decide)
  have hstate (l : LegId) : legState (resumedBase s) l = if inUse s l then .allRedOut else legState s l := by
    rw [legState, resumedBase_legs]; split <;> rfl
  have hmoves (hs : LegsOk s) (l : LegId) : stepped (legState s l) (legState (resumedBase s) l) := by
    rw [hstate]; split
    · next hu =>
      rw [((legOk_iff s l).mp ((legsOk_iff s).mp hs l)).2.1.mpr ⟨hm, hu⟩]; exact .inr rfl
    · exact .inl rfl
  have hbase : Sound stepped s (resumedBase s) := by
    refine ⟨fun hs => (legsOk_iff _).mpr fun l => ?_, fun h => ?_, hmoves⟩
    · obtain ⟨hstart, hflash, hsh⟩ := (legOk_iff s l).mp ((legsOk_iff s).mp hs l)
      rw [legOk_iff, hmode, inUse_congr hcfg, hstate, resumedBase_legs, hslots]
      cases hu : inUse s l with
      | true => exact ⟨by simp, by simp, released_shape hsh (.inl (hflash.mpr ⟨hm, hu⟩)) _⟩
      | false => exact ⟨by simpa [hu] using hstart.mpr (.inr hu), by simp [hstart.mpr (.inr hu)], hsh⟩
    · refine (lineOk_iff _).mpr ⟨fun l hb => ?_, fun l hd => ?_, fun hq => ?_⟩
      · rw [hslots] at hb
        rw [sendsBid_congr (congrArg Line.tx (ht .line (by decide)))]
        exact ((lineOk_iff s).mp h).1 l hb
      · rw [hslots] at hd ⊢; exact ((lineOk_iff s).mp h).2.1 l hd
      · rw [hmode] at hq; simp at hq
  rw [takeResume_eq]
  split
  · exact hbase.widen fun _ _ h => h.imp_right .inr
  · next i _ =>
    have hnone : Sound still (resumedBase s) { resumedBase s with isolation := none } := ⟨id, id, fun _ _ => rfl⟩
    refine ((hbase.then hnone).comp (enterIsolated_sound i (.inr hmode)) fun _ _ _ => stepped.eased).widen fun _ _ h => h.imp_right .inr

theorem runResume_sound (s : State) : Sound moved s (runResume s).1 := by
  unfold runResume
  split
  · exact (Sound.refl s).toMoved
  · next hm =>
    split
    · exact (Sound.refl s).toMoved
    · split
      · exact (Sound.refl s).toMoved
      · exact takeResume_sound (not_not.mp hm)

/-- A configuration fault: FLASH, both legs as in use (R160). -/
theorem configFault_sound (c : FaultCheck) {s : State} (hc : s.cfg = none) : Sound moved s (configFault c s) := by
  unfold configFault; extract_lets s1
  have huse (l : LegId) : inUse s1 l = true := by
    have : s1.cfg = none := hc
    rw [inUse, this]
  have hbase : Sound flashes s (flashBlocks s1) := by
    refine ⟨fun _ => flashBlocks_legsOk rfl fun l hu => ?_,
      fun h => flashBlocks_lineOk rfl ⟨((lineOk_iff s).mp h).1, ((lineOk_iff s).mp h).2.1⟩, fun _ l => ?_⟩
    · rw [huse] at hu; cases hu
    · rw [flashBlocks_flash, huse]; exact .inr rfl
  refine hbase.comp (conflictAtStart_sound _) fun a b d hab hbd => flashes.moved ?_
  rcases hbd with rfl | rfl
  · exact hab
  · exact .inr rfl

/-- The legs as a passing configuration read leaves them before the conflict check (R160). -/
def releasedLegs (s : State) : State :=
  let t := forLegs bothLegs (fun l s => track l (releaseLeg l s)) s
  if inUse t .leg1 then t else updLeg .leg1 (fun r => { r with flash := r.flash.freeze }) t

theorem releasedLegs_touches : Touches [.legs, .kerbs, .links, .ambient] releasedLegs := by
  intro s; unfold releasedLegs; extract_lets t
  have ht : ChangesOnly [.legs, .kerbs, .links, .ambient] s t :=
    forLegs_touches (fun l => (releaseLeg_touches l).seq (track_touches l) (ps := [.legs, .kerbs, .links, .ambient]) rfl rfl) bothLegs s
  exact .ite ht (.after (updLeg_touches .leg1 _) (by decide) ht)

theorem releasedLegs_get (s : State) (l : LegId) :
    (releasedLegs s).legs.get l =
      if inUse s l then (s.legs.get l).released (legConf s l).rout else { s.legs.get l with flash := (s.legs.get l).flash.freeze } := by
  unfold releasedLegs; extract_lets t
  have hget (l : LegId) : t.legs.get l = if inUse s l then (s.legs.get l).released (legConf s l).rout else s.legs.get l :=
    forLegs_get (g := fun l => LegRec.released (legConf s l).rout) (fun l u hu => by
      rw [← legConf_congr hu]
      exact ⟨(track_touches l _ .legs (by decide)).trans (releaseLeg_legs l u).1,
        (track_touches l _ .cfg (by decide)).trans (releaseLeg_legs l u).2⟩) l
  have huse : inUse t .leg1 = inUse s .leg1 :=
    inUse_congr (forLegs_touches (fun l => (releaseLeg_touches l).seq (track_touches l) (ps := [.legs, .kerbs, .links, .ambient]) rfl rfl)
      bothLegs s .cfg (by decide)) _
  have h0 : inUse s .leg0 = true := (inUse_iff s .leg0).mpr (.inl rfl)
  rw [huse]
  cases hu : inUse s .leg1 with
  | true => rw [if_pos rfl, hget]; cases l <;> simp [h0, hu]
  | false =>
    rw [if_neg (by decide), updLeg_legs, Legs.get_upd]
    cases l with
    | leg0 => rw [if_neg (by decide), hget, if_pos h0]; simp [h0]
    | leg1 => rw [if_pos rfl, hget, hu]; rfl

theorem configLoaded_eq (bytes : List Byte) (s : State) :
    configLoaded bytes s =
      conflictAtStart (releasedLegs (enterListen
        (setFlagIf (imageClamped bytes) .cfgClamped { s with reading := false, cfg := some (loadImage bytes) }))) := rfl

/-- What a passing configuration read has set before the legs are released. -/
theorem configListening_changes (bytes : List Byte) (s : State) :
    let u := enterListen (setFlagIf (imageClamped bytes) .cfgClamped { s with reading := false, cfg := some (loadImage bytes) })
    ChangesOnly [.reading, .cfg, .mode, .cause, .join, .port, .line, .hold] s u ∧ u.mode = .listen ∧ u.cfg = some (loadImage bytes) ∧
      u.line.tx = s.line.tx := by
  intro u
  have hflag := setFlagIf_touches (imageClamped bytes) .cfgClamped { s with reading := false, cfg := some (loadImage bytes) }
  have hu := enterListen_changes (setFlagIf (imageClamped bytes) .cfgClamped { s with reading := false, cfg := some (loadImage bytes) })
  refine ⟨fun p hp => ?_, hu .mode (by decide), (hu .cfg (by decide)).trans (hflag .cfg (by decide)), ?_⟩
  · simp only [List.mem_cons, List.not_mem_nil, not_or] at hp
    have h1 := hu p (by simp [hp])
    have h2 := hflag p (by simp [hp])
    cases p <;> first | exact h1.trans h2 | simp at hp
  · exact (((startBeacon_tidy _).still (startClearway_tidy _)).tx).trans (congrArg Line.tx (hflag .line (by decide)))

theorem configLoaded_sound (bytes : List Byte) {s : State} (hm : s.mode = .start) : Sound moved s (configLoaded bytes s) := by
  rw [configLoaded_eq]
  obtain ⟨hsu, hmode, -, htx⟩ := configListening_changes bytes s
  revert hsu hmode htx
  generalize enterListen (setFlagIf (imageClamped bytes) .cfgClamped { s with reading := false, cfg := some (loadImage bytes) }) = u
  intro hsu hmode htx
  have hr := releasedLegs_touches u
  have hlegs : u.legs = s.legs := hsu .legs (by decide)
  have hslots : (releasedLegs u).slots = s.slots := (hr .slots (by decide)).trans (hsu .slots (by decide))
  have hstart (hs : LegsOk s) (l : LegId) : legState s l = .start := ((legOk_iff s l).mp ((legsOk_iff s).mp hs l)).1.mpr (.inl hm)
  have hstate (l : LegId) : legState (releasedLegs u) l = if inUse u l then .allRedOut else legState s l := by
    rw [legState, releasedLegs_get, hlegs]; split <;> rfl
  have hbase : Sound stepped s (releasedLegs u) := by
    refine ⟨fun hs => (legsOk_iff _).mpr fun l => ?_, fun h => ?_, fun hs l => ?_⟩
    · obtain ⟨-, -, hsh⟩ := (legOk_iff s l).mp ((legsOk_iff s).mp hs l)
      rw [legOk_iff, hr .mode (by decide), hmode, inUse_congr (hr .cfg (by decide)), hstate, releasedLegs_get, hslots, hlegs]
      cases hu : inUse u l with
      | true => exact ⟨by simp, by simp, released_shape hsh (.inr (hstart hs l)) _⟩
      | false => exact ⟨by simp [hstart hs l], by simp [hstart hs l], ⟨hsh.1, hsh.2, hsh.3, hsh.4⟩⟩
    · have hno := h.no_bid (((lineOk_iff s).mp h).2.2 (.inl hm)).2
      refine (lineOk_iff _).mpr ⟨fun l hb => ?_, fun l hd => ?_, fun hq => ?_⟩
      · rw [hslots, (hno l).1] at hb; cases hb
      · rw [hslots] at hd; exact absurd (hno l).2 hd
      · rw [hr .mode (by decide), hmode] at hq; simp at hq
    · rw [hstate]; split
      · rw [hstart hs l]; exact .inr rfl
      · exact .inl rfl
  refine hbase.comp (conflictAtStart_sound _) fun a b d hab hbd => ?_
  rcases hbd with rfl | rfl
  · exact hab.imp_right .inr
  · exact .inr (.inl rfl)

theorem configRead_sound (bytes : List Byte) {s : State} (hm : s.mode = .start) (hc : s.cfg = none) : Sound moved s (configRead bytes s) := by
  unfold configRead
  split
  · exact configLoaded_sound bytes hm
  · exact configFault_sound _ hc

/-! ### Frames, commands and START -/

theorem takeValid_sound (f : Frame) (s : State) : Sound moved s (takeValid f s) :=
  .ite (fun _ => duplicateFound_sound s) fun _ => .ofSteps (dispatch_tidy f s)

theorem atFrameEnd_sound {take : State → State} (h : ∀ t, Sound moved t (take t)) (s : State) : Sound moved s (atFrameEnd take s) := by
  unfold atFrameEnd; extract_lets t
  have ht : Sound still s t := updLine_sound rfl rfl
  exact .ite (fun _ => ht.before (h t)) fun _ => ht.toMoved

theorem countFormat_sound (s : State) : Sound moved s (countFormat s) := (updLine_sound rfl rfl).toMoved

theorem takeFrame_sound (f : Frame) (s : State) : Sound moved s (takeFrame f s) :=
  atFrameEnd_sound (fun t => .ite (fun _ => takeValid_sound f t) fun _ => countFormat_sound t) s

theorem takeBits_sound (bits : List Bool) (s : State) : Sound moved s (takeBits bits s) := by
  refine atFrameEnd_sound (fun t => ?_) s
  split
  · exact takeValid_sound _ t
  · exact (updLine_sound rfl rfl).toMoved
  · exact countFormat_sound t

theorem startBlocks_legsOk (s : State) : LegsOk (startBlocks s) := by
  rw [legsOk_iff]
  intro l
  rw [legOk_iff]
  have hl : (startBlocks s).legs.get l = .atStart := by cases l <;> rfl
  have hx : (startBlocks s).slots.get l = .atStart := by cases l <;> rfl
  rw [legState, hl, hx]
  exact ⟨iff_of_true rfl (.inl rfl), iff_of_false nofun (fun h => nomatch h.1), .untimed rfl rfl nofun rfl rfl⟩

theorem startBlocks_lineOk (s : State) : LineOk (startBlocks s) := by
  have hx (l : LegId) : (startBlocks s).slots.get l = .atStart := by cases l <;> rfl
  refine (lineOk_iff _).mpr ⟨fun l hb => ?_, fun l hd => ?_, fun _ => ⟨rfl, rfl⟩⟩
  · rw [hx] at hb; cases hb
  · rw [hx] at hd; exact absurd rfl hd

/-- A maintenance command other than RSTRT. -/
theorem takeCommand_sound {c : PortCommand} (hc : c ≠ .rstrt) (ops : List Byte) (s : State) : Sound moved s (takeCommand c ops s) := by
  have hreply (st : ReplyStatus) (code : Byte) (content : List Byte) (t : State) : Sound still t (putReply st code content t) :=
    .ofStays (.frame (putReply_touches st code content t) (by decide))
  have hrun : Sound moved s (runCommand c ops s).1 := by
    cases c with
    | rstrt => exact absurd rfl hc
    | flash => exact (flashFrom_sound .command s).widen fun _ _ => flashes.moved
    | resume => exact runResume_sound s
    | isol => exact reportIsolation_sound .command s
    | join => exact (takeJoin_sound s).toMoved
    | call => exact .ofSteps (press_tidy _ .a _ s)
    | hold => exact .ofSteps (changeSources_tidy _ s)
    | fclr => exact (Sound.ofStays (.frame (runCommand_touches .fclr ops s) (by decide))).toMoved
    | quiet => exact (Sound.ofStays (.frame (runCommand_touches .quiet ops s) (by decide))).toMoved
    | stat | leg | tread | holders | cnts => exact (Sound.refl s).toMoved
  unfold takeCommand
  split
  · exact (hreply _ _ _ s).toMoved
  · exact hrun.then (hreply _ _ _ _)

theorem intervalDone_state {s : State} {l : LegId} {g : LegState} (h : intervalDone s l g = true) : legState s l = g := by
  simp only [intervalDone, Bool.and_eq_true, decide_eq_true_eq] at h; exact h.1

/-- Every effect but that of an RSTRT. -/
theorem effect_sound {c : Instr} (hrst : restarts c = false) {s : State} (ho : occurs c s = true) (hm : ModeOk s) :
    Sound moved s (effect c s) := by
  have hstays {t : State} (h : Tidy stays s t) : Sound moved s t := (Sound.ofStays h).toMoved
  have hleg {l : LegId} {t : State} (h : Tidy (onLeg l stepped) s t) : Sound moved s t := .ofSteps (h.onLegSteps fun _ _ => id)
  cases c with
  | start | resetPinAssert | rstrt => cases hrst
  | configurationRead bytes =>
    have hstart : s.mode = .start := hm.2.2.2.2.2.1 ho
    exact configRead_sound bytes hstart (hm.2.2.2.2.1.mpr (.inl hstart))
  | joinExpiry =>
    have hrun : s.join.running = true := by rw [(Countdown.due_iff _).mp ho]
    exact (joinDone_sound (hm.2.2.2.1.mp hrun)).toMoved
  | releaseDeclared l k => exact .ofSteps (declareRelease_tidy l k s)
  | aidClassification l k => exact .ofSteps (classifyAid_tidy l k s)
  | buttonSample l k high => exact .ofSteps (sampleButton_tidy l k high s)
  | flashCountdownExpiry l => exact hleg (updLeg_tidy (fun h => ⟨h.1, h.2, h.3, h.4⟩) .rfl (.inl rfl))
  | minGreenExpiry l => exact hleg (updLeg_tidy (fun h => ⟨h.1, h.2, h.3, h.4⟩) .rfl (.inl rfl))
  | startNear l =>
    simp only [occurs, Bool.and_eq_true, decide_eq_true_eq] at ho
    exact .ofSteps (amberEntry_tidy ho.1).onLegEases.steps
  | amberExpiry l => exact hleg (amberDone_tidy (intervalDone_state ho))
  | allRedInExpiry l => exact hleg (allRedInDone_tidy (intervalDone_state ho))
  | walkExpiry l => exact hleg (enterClearance_tidy (intervalDone_state ho))
  | clearanceExpiry l => exact hleg (clearanceDone_tidy (intervalDone_state ho))
  | allRedOutExpiry l => exact hleg (allRedOutDone_tidy (intervalDone_state ho))
  | slotEndInExpiry l => exact hstays (removeSlot_tidy l s)
  | contestExpiry l => exact .ofSteps (contestWon_tidy l s).steps
  | transmissionStart =>
    have htx : s.line.tx = none := by
      simp only [occurs, maySend, Bool.and_eq_true, Option.isNone_iff_eq_none] at ho; exact ho.1
    exact (takeHead_sound 4 htx).toMoved
  | arbitrationLoss => exact (loseArbitration_sound s).toMoved
  | collisionError => exact collide_sound s
  | ownFrameCompleted => exact (completeFrame_sound (sendsBid_of_noBid (bidInFlight_none_of_plain ho))).toMoved
  | bidCompleted =>
    obtain ⟨l, hl⟩ := Option.isSome_iff_exists.mp ho
    simp only [effect, completed, hl]
    exact bidCompleted_sound hl
  | keepCompleted =>
    obtain ⟨l, hl⟩ := Option.isSome_iff_exists.mp ho
    simp only [effect, completed, hl]
    exact ((completeFrame_sound (sendsBid_of_noBid (bidInFlight_none_of_keep hl))).then (.ofStays (keepReported_tidy l _))).toMoved
  | cedeCompleted =>
    obtain ⟨l, hl⟩ := Option.isSome_iff_exists.mp ho
    simp only [effect, completed, hl]
    exact ((completeFrame_sound (sendsBid_of_noBid (bidInFlight_none_of_cede hl))).then (.ofStays (cedeReported_tidy l _))).toMoved
  | beaconCountdownExpiry => exact hstays (startBeacon_tidy s)
  | lineFault => exact takeLineFault_sound s
  | lineClear => exact (takeLineClear_sound s).toMoved
  | brokenFrame => exact atFrameEnd_sound countFormat_sound s
  | invalidFrameReceived bits => exact takeBits_sound bits s
  | duplicateFrameReceived | beaconReceived | bidReceived | keepReceived | cedeReceived | clearwayReceived | clearEndReceived =>
    exact takeFrame_sound _ s
  | phqRise =>
    exact (Sound.ofStays (.frame (setPhq_touches true s) (by decide))).before (.ofSteps (holdRequested_tidy _))
  | phqFall =>
    exact (Sound.ofStays (.frame (setPhq_touches false s) (by decide))).before (.ofSteps (holdLowered_tidy _))
  | prqRise =>
    exact (Sound.ofStays (.frame (setPrq_touches true s) (by decide))).before (.ofSteps (releaseRaised_tidy _))
  | prqFall =>
    exact ((Sound.ofStays (.frame (setPrq_touches false s) (by decide))).then (t := { s with prq := false })
      (.ofStays (updHold_tidy (fun h => { h with release := .idle, pra := false }) _))).toMoved
  | clearwayRepeatExpiry => exact hstays (clearwayDone_tidy s)
  | refreshExpiry st => exact .ofSteps (refreshDone_tidy st.toNat s)
  | lampReadbackChange l i on =>
    exact (Sound.ofStays (.frame (updLamp_touches l i _ s) (by decide))).before
      ((checkConflict_sound l _ _).widen fun _ _ => flashes.moved)
  | mismatchExpiry l i => exact (mismatchDone_sound l i s).widen fun _ _ => flashes.moved
  | flash ops | resume ops | isol ops | join ops | call ops | hold ops => exact takeCommand_sound (by decide) ops s
  | unknownCommand code ops =>
    simp only [effect]
    cases hc : commandOf code with
    | none => exact hstays (.frame (putReply_touches _ _ _ s) (by decide))
    | some c =>
      refine takeCommand_sound ?_ ops s
      rintro rfl
      simp [restarts, hc] at hrst
  | startPulse recessive dominant => exact judgePulse_sound recessive dominant s
  | decisecondTick => exact hstays (tick_tidy s)
  | _ => exact hstays (.frame (effect_touches _ s) rfl)

/-! ### Every command -/

/-- An RSTRT that executes takes every block to START; one that fails a check replies alone. -/
theorem takeRestart_keeps {P : State → Prop} (hreply : ∀ st code content, Keeps P (putReply st code content)) (hlinks : Keeps P stopWords)
    (hstart : ∀ s, P (startBlocks s)) (ops : List Byte) : Keeps P (takeCommand .rstrt ops) :=
  fun _ => takeCommand_keeps hreply .rstrt ops fun _ => hlinks _ (hstart _)

/-- The parts that `LegsOk` reads, and those that `LineOk` reads. -/
def legsParts : List Part := [.mode, .cfg, .legs, .slots]

def lineParts : List Part := [.mode, .slots, .line]

theorem legsOk_reads : ReadsOnly legsParts LegsOk := fun s t h hs =>
  hs.of_slots (h .mode (by decide)) (h .cfg (by decide)) (h .legs (by decide)) fun l => by
    rw [h .slots (by decide)]; exact ⟨rfl, rfl⟩

theorem lineOk_reads : ReadsOnly lineParts LineOk := fun s t h hs => by
  have hl : t.line = s.line := h .line (by decide)
  have hx : t.slots = s.slots := h .slots (by decide)
  have hm : t.mode = s.mode := h .mode (by decide)
  rw [lineOk_iff] at hs ⊢
  simp only [hl, hx, hm, sendsBid_congr (congrArg Line.tx hl)]
  exact hs

theorem partsApart_within {ps qs rs : List Part} (h : partsApart qs rs = true) (hs : partsWithin ps qs = true) : partsApart ps rs = true :=
  List.all_eq_true.mpr fun p hp => List.all_eq_true.mp h p (mem_of_partsWithin hs p hp)

/-- A property that START gives and that sound effects keep is kept by every step. -/
theorem step_keeps_sound {qs : List Part} {P : State → Prop} (hP : ReadsOnly qs P)
    (hapart : partsApart [.pending, .clock, .port, .links, .hold, .lamps, .quietPin, .phq, .prq, .resetHeld, .reading] qs = true)
    (hblocks : ∀ s, P (startBlocks s)) (hcold : ∀ s, P (coldStart s)) (hsound : ∀ s t, Sound moved s t → P s → P t) {s t : State}
    (hm : ModeOk s) (h : step s = .next t) (hs : P s) : P t := by
  have hread {s t : State} {ps : List Part} (hc : ChangesOnly ps s t)
      (hsub : partsWithin ps [.pending, .clock, .port, .links, .hold, .lamps, .quietPin, .phq, .prq, .resetHeld, .reading] = true) :
      P s → P t := hP.frame (fun p hp => hc p fun hmem => hp (mem_of_partsWithin hsub p hmem)) hapart
  have hrestart (ops : List Byte) : Keeps P (takeCommand .rstrt ops) :=
    takeRestart_keeps (fun _ _ _ u => hread (putReply_touches _ _ _ u) rfl) (fun u => hread (stopWords_touches u) rfl) hblocks ops
  have hpending (u : State) (rest : List Instr) : P u → P { u with pending := rest } := hP.pending (by
    exact partsApart_within hapart rfl) u rest
  have hstart (straps : BitVec 2) (phq prq quiet : Bool) (u : State) : P (startNow straps phq prq quiet u) := by
    unfold startNow; extract_lets _ v
    exact hread (stopWords_touches _) rfl (hcold _)
  have hreset (u : State) : P (holdReset u) := by
    have hc : ChangesOnly [.resetHeld, .reading] (coldStart u) (holdReset u) := fun p hp => by
      cases p <;> first | rfl | exact absurd (by decide) hp
    exact hread hc rfl (hcold u)
  refine step_keeps_withMode hpending (fun straps phq prq quiet u _ => hstart straps phq prq quiet u) (fun u _ => hreset u)
    (fun c u _ => hread (whileHeld_pins c u) rfl) (fun u => hread (later_touches u) rfl) (fun u => hread (settle_touches u) rfl)
    (fun c u hr ho hmu hu => ?_) hm h hs
  cases hrst : restarts c with
  | false => exact hsound u _ (effect_sound hrst ho hmu) hu
  | true =>
    cases c with
    | start | resetPinAssert => exact hu
    | rstrt w => exact hrestart w.bytes _ (hread (pinAtRestart_touches w u) rfl hu)
    | unknownCommand code ops =>
      simp only [restarts, decide_eq_true_eq] at hrst
      simp only [effect, hrst]
      exact hrestart ops u hu
    | _ => cases hrst

/-- Settles O56: every operation keeps the shape of the legs' records, or sets them with the mode. -/
theorem legsAreKept : Obligations.LegsAreKept := by
  unfold Obligations.LegsAreKept
  intro s t hm hs h
  exact step_keeps_sound legsOk_reads rfl startBlocks_legsOk startBlocks_legsOk (fun _ _ h => h.legs) hm h hs

/-- Settles O58: a pending bid stands or falls with its frame, and what closes the queue empties it. -/
theorem lineIsKept : Obligations.LineIsKept := by
  unfold Obligations.LineIsKept
  intro s t hm hs h
  exact step_keeps_sound lineOk_reads rfl startBlocks_lineOk (fun s => startBlocks_lineOk s) (fun _ _ h => h.line) hm h hs

theorem legState_whileHeld (c : Instr) (s : State) (l : LegId) : legState (whileHeld c s) l = legState s l := by
  rw [legState, whileHeld_pins c s .legs (by decide), legState]

/-- Settles O60: each effect moves each leg by one change at most. -/
theorem legsMoveAlongTheCycle : Obligations.LegsMoveAlongTheCycle := by
  unfold Obligations.LegsMoveAlongTheCycle
  intro c l s t hm hs hrst h
  have hc : beginsStart c = false := by cases c <;> first | rfl | cases hrst
  cases hr : s.resetHeld with
  | true =>
    rw [exec_held hr hc] at h; cases h
    exact .inl (legState_whileHeld c s l)
  | false =>
    rw [exec_eq hr hc] at h; cases h
    unfold outcomeOf
    split
    · next ho =>
      rw [legState_settle]
      unfold atInstant
      split
      · exact (effect_sound hrst ho hm).moves hs l
      · exact (effect_sound (s := later s) hrst ((occurs_later c s).trans ho) hm).moves hs l
    · exact .inl rfl

end Sys2Proof.Machine
end

section
/-! START, the RESET pin and RSTRT, the configuration read and the end of LISTEN (chapter 10): what each leaves, block by block. -/

namespace Sys2Proof.Machine

/-! ### Commands that occur -/

theorem exec_next {c : Instr} {s : State} (hr : s.resetHeld = false) (hc : beginsStart c = false) (ho : occurs c s = true) :
    exec c s = .next (settle (effect c (atInstant c s))) := by
  rw [exec_eq hr hc, outcomeOf, if_pos ho]

/-- A command that is no expiry takes its effect at a new instant. -/
theorem exec_event {c : Instr} {s : State} (hr : s.resetHeld = false) (hc : beginsStart c = false) (hx : expires c = false)
    (ho : occurs c s = true) : exec c s = .next (settle (effect c (later s))) := by
  rw [exec_next hr hc ho, atInstant, hx]; rfl

/-- An expiry takes its effect at the instant of the tick that brought it about. -/
theorem exec_expiry {c : Instr} {s : State} (hr : s.resetHeld = false) (hx : expires c = true) (ho : occurs c s = true) :
    exec c s = .next (settle (effect c s)) := by
  have hc : beginsStart c = false := by cases c <;> first | rfl | cases hx
  rw [exec_next hr hc ho, atInstant, if_pos hx]

theorem exec_changes {c : Instr} {s t : State} (h : exec c s = .next t) {ps : List Part}
    (hs : partsWithin (settledParts ++ commandParts c) ps = true) : ChangesOnly ps s t := by
  obtain ⟨u, hu, hc⟩ := commandsChangeOnlyTheirParts c s
  rw [h] at hu
  cases hu
  exact hc.mono (mem_of_partsWithin hs)

theorem settle_same {s : State} (p : Part) (hp : p ∉ [Part.hold, Part.lamps]) : p.same s (settle s) := settle_touches s p hp

/-! ### START and the RESET pin (R157, R170) -/

/-- Settles O2: every value is read off the reset state. -/
theorem resetStateValues : Obligations.ResetStateValues := by
  unfold Obligations.ResetStateValues
  refine ⟨rfl, rfl, rfl, rfl, rfl, rfl, rfl, rfl, fun l => ?_, fun l k => ?_, fun l => ?_, fun l => ?_, rfl, rfl, rfl, rfl, fun l k => ?_,
    fun l => ?_, fun l k => ?_, fun l i => ?_, rfl, rfl, rfl⟩
  case refine_1 | refine_3 | refine_4 | refine_6 => cases l <;> rfl
  case refine_2 | refine_5 | refine_7 => cases l <;> cases k <;> rfl
  case refine_8 => cases l <;> cases i <;> exact ⟨rfl, rfl⟩

theorem reset_eq_startBlocks : startBlocks State.reset = State.reset := rfl

/-- Settles O59: the reset state has the blocks of START, which meet the invariants. -/
theorem resetMeetsInvariants : Obligations.ResetMeetsInvariants := by
  unfold Obligations.ResetMeetsInvariants
  obtain ⟨htable, hholders, hown⟩ := startBlocks_foreignOk State.reset
  have hlamps : LampsOk (startBlocks State.reset) := (lampsOk_iff _).mpr ⟨nofun, startBlocks_noneTwice State.reset⟩
  exact ⟨startBlocks_modeOk (s := State.reset) rfl, htable, hholders, hown, startBlocks_legsOk State.reset, startBlocks_handshakeOk State.reset,
    startBlocks_lineOk State.reset, hlamps⟩

theorem startBlocks_records (s : State) (l : LegId) :
    (startBlocks s).legs.get l = LegRec.atStart ∧ (startBlocks s).calls.get l = CallRec.atStart ∧
      (startBlocks s).slots.get l = SlotRec.atStart := by
  cases l <;> exact ⟨rfl, rfl, rfl⟩

theorem startBlocks_kerbs (s : State) (l : LegId) (k : Side) :
    buttonOf (startBlocks s) l k = Button.atStart ∧ kerbOf (startBlocks s) l k = Kerb.atStart ∧
      ambientOf (startBlocks s) l k = Ambient.atStart := by
  cases l <;> cases k <;> exact ⟨rfl, rfl, rfl⟩

/-- The stop words of R129 follow the words that the links hold; with no configuration their level is 0 (log entry 9). -/
theorem stopWords_words {s : State} (hc : s.cfg = none) (l : LegId) :
    ((stopWords s).links.get l).words = (s.links.get l).words ++ [BurstWord.stop .a 0, BurstWord.stop .b 0] := by
  have hlevel (t : State) (ht : t.cfg = none) : stopLevel t = 0 := by rw [stopLevel, ht]
  unfold stopWords bothLegs
  simp only [List.foldl_cons, List.foldl_nil, hlevel s hc]
  have h0 := hlevel (sendWord .leg0 (.stop .b 0) (sendWord .leg0 (.stop .a 0) s)) hc
  rw [h0]
  cases l <;> simp [sendWord, updLink, Legs.upd, Legs.set, Legs.get, Link.push]

/-- Settles O3: START and the held pin have the blocks of `startBlocks`, with the counters, flags and reply cleared. -/
theorem startAndResetPin : Obligations.StartAndResetPin := by
  unfold Obligations.StartAndResetPin
  intro straps phq prq quiet s stopped asAtStart
  constructor
  · refine ⟨_, rfl, ⟨rfl, rfl, rfl, rfl, rfl, rfl, rfl, rfl, startBlocks_records s, startBlocks_kerbs s, rfl, rfl, rfl, rfl, rfl, rfl, rfl,
      rfl, rfl, rfl, rfl, rfl, lampRec_startBlocks s, rfl, rfl⟩, rfl, rfl, rfl, rfl, fun l => ?_, rfl⟩
    refine (stopWords_words rfl l).trans ?_
    cases l <;> rfl
  · refine ⟨_, rfl, ⟨rfl, rfl, rfl, rfl, rfl, rfl, rfl, rfl, startBlocks_records s, startBlocks_kerbs s, rfl, rfl, rfl, rfl, rfl, rfl, rfl,
      rfl, rfl, rfl, rfl, rfl, lampRec_startBlocks s, rfl, rfl⟩, rfl, rfl, rfl, rfl, fun l => ?_, rfl⟩
    cases l <;> rfl

/-- In START with leg 0 at its START values nothing is to be settled. -/
theorem settle_atStart {s : State} (hm : s.mode = .start) (h0 : legState s .leg0 = .start) : settle s = s := by
  have hnot : holdAnswered s ≠ true := by
    rw [Ne, holdAnswered_iff, hm]
    rintro (h | h)
    · cases h
    · have := h .leg0 ((inUse_iff s .leg0).mpr (.inl rfl))
      rw [h0] at this; cases this
  have htest : testHoldSide s = s := by rw [testHoldSide, if_neg fun h => hnot h.2]
  rw [settle, htest, proveLamps, if_pos hm]

/-- Settles O49: RESTART has the blocks of `startBlocks` with the pin as the write gives it; its stop words follow those on the links. -/
theorem restartKeepsFlagsAndCounters : Obligations.RestartKeepsFlagsAndCounters := by
  unfold Obligations.RestartKeepsFlagsAndCounters
  intro quiet s hr
  have hexec : exec (.rstrt { bytes := [], quiet := quiet }) s =
      .next (putReply .ok 0x2F [] (stopWords (startBlocks { later s with quietPin := quiet }))) := by
    rw [exec_event hr rfl rfl rfl]
    exact congrArg Host.Outcome.next (settle_atStart rfl rfl)
  refine ⟨_, hexec, rfl, rfl, rfl, rfl, rfl, rfl, rfl, rfl, rfl, rfl, rfl, rfl, rfl, rfl, rfl, rfl, rfl, rfl, rfl,
    startBlocks_records s, startBlocks_kerbs s, lampRec_startBlocks s, fun l => stopWords_words rfl l, rfl, rfl, rfl, rfl, rfl,
    hr, rfl, rfl, rfl⟩

end Sys2Proof.Machine
end

section
/-! The Sound Unit (chapters 7 and 8): every operation on a kerb as an update of its record and the words that follow on its link, the
levels in their order, the ambient average in its bounds. -/

namespace Sys2Proof.Machine

/-! ### Kerb records and links after an update -/

theorem kerbOf_updKerb (l m : LegId) (k j : Side) (f : Kerb → Kerb) (s : State) :
    kerbOf (updKerb l k f s) m j = if m = l ∧ j = k then f (kerbOf s l k) else kerbOf s m j := by
  unfold kerbOf
  rw [updKerb_kerbs, Legs.get_upd]
  by_cases hm : m = l
  · subst hm; simp [Kerbs.get_upd]
  · simp [hm]

@[simp] theorem kerbOf_updKerb_self (l : LegId) (k : Side) (f : Kerb → Kerb) (s : State) :
    kerbOf (updKerb l k f s) l k = f (kerbOf s l k) := by
  rw [kerbOf_updKerb, if_pos ⟨rfl, rfl⟩]

@[simp] theorem otherSide_ne (k : Side) : otherSide k ≠ k := by cases k <;> decide

@[simp] theorem kerbOf_updKerb_otherSide (l : LegId) (k : Side) (f : Kerb → Kerb) (s : State) :
    kerbOf (updKerb l k f s) l (otherSide k) = kerbOf s l (otherSide k) := by
  rw [kerbOf_updKerb, if_neg fun h => otherSide_ne k h.2]

theorem kerbOf_settle (s : State) (l : LegId) (k : Side) : kerbOf (settle s) l k = kerbOf s l k := by
  have h : (settle s).kerbs = s.kerbs := settle_same .kerbs (by decide)
  rw [kerbOf, h, kerbOf]

/-- Words produced one after another for a leg's link. -/
def sendWords (l : LegId) (ws : List BurstWord) (s : State) : State := ws.foldl (fun s w => sendWord l w s) s

@[simp] theorem sendWords_nil (l : LegId) (s : State) : sendWords l [] s = s := rfl

theorem sendWord_eq (l : LegId) (w : BurstWord) (s : State) : sendWord l w s = sendWords l [w] s := rfl

theorem sendWords_eq (l : LegId) (ws : List BurstWord) (s : State) :
    sendWords l ws s = { s with links := s.links.upd l (fun k => ws.foldl (fun k w => k.push w) k) } := by
  induction ws generalizing s with
  | nil => simp [sendWords, Legs.upd]
  | cons w ws ih =>
    change sendWords l ws (sendWord l w s) = _
    rw [ih]
    simp [sendWord, updLink, Legs.upd]

theorem words_pushed (k : Link) (ws : List BurstWord) : (ws.foldl (fun k w => k.push w) k).words = k.words ++ ws := by
  induction ws generalizing k with
  | nil => simp
  | cons w ws ih => rw [List.foldl_cons, ih]; simp [Link.push]

@[simp] theorem words_sendWords (l : LegId) (ws : List BurstWord) (s : State) :
    ((sendWords l ws s).links.get l).words = (s.links.get l).words ++ ws := by
  rw [sendWords_eq]; simp only [Legs.get_upd_self, words_pushed]

@[simp] theorem links_sendWords_other (l : LegId) (ws : List BurstWord) (s : State) :
    (sendWords l ws s).links.get (otherLeg l) = s.links.get (otherLeg l) := by
  rw [sendWords_eq]; simp

@[simp] theorem kerbs_sendWords (l : LegId) (ws : List BurstWord) (s : State) : (sendWords l ws s).kerbs = s.kerbs := by
  rw [sendWords_eq]

@[simp] theorem kerbOf_sendWords (l m : LegId) (j : Side) (ws : List BurstWord) (s : State) :
    kerbOf (sendWords l ws s) m j = kerbOf s m j := by rw [kerbOf, kerbs_sendWords, kerbOf]

/-! ### Reads that an operation of the Sound Unit leaves alone -/

@[simp] theorem kerbLevel_updKerb (l m : LegId) (k j : Side) (f : Kerb → Kerb) (s : State) :
    kerbLevel (updKerb l k f s) m j = kerbLevel s m j := rfl
@[simp] theorem combinedCap_updKerb (l : LegId) (k : Side) (f : Kerb → Kerb) (s : State) : combinedCap (updKerb l k f s) = combinedCap s := rfl
@[simp] theorem stopLevel_updKerb (l : LegId) (k : Side) (f : Kerb → Kerb) (s : State) : stopLevel (updKerb l k f s) = stopLevel s := rfl
@[simp] theorem locatorLevel_updKerb (l m : LegId) (k j : Side) (f : Kerb → Kerb) (s : State) :
    locatorLevel (updKerb l k f s) m j = locatorLevel s m j := rfl
@[simp] theorem kerbLevel_sendWords (l m : LegId) (j : Side) (ws : List BurstWord) (s : State) :
    kerbLevel (sendWords l ws s) m j = kerbLevel s m j := by rw [sendWords_eq]; rfl
@[simp] theorem combinedCap_sendWords (l : LegId) (ws : List BurstWord) (s : State) :
    combinedCap (sendWords l ws s) = combinedCap s := by rw [sendWords_eq]; rfl
@[simp] theorem stopLevel_sendWords (l : LegId) (ws : List BurstWord) (s : State) : stopLevel (sendWords l ws s) = stopLevel s := by
  rw [sendWords_eq]; rfl
@[simp] theorem locatorLevel_sendWords (l m : LegId) (j : Side) (ws : List BurstWord) (s : State) :
    locatorLevel (sendWords l ws s) m j = locatorLevel s m j := by rw [sendWords_eq]; rfl
@[simp] theorem conf_sendWords (l : LegId) (ws : List BurstWord) (s : State) : conf (sendWords l ws s) = conf s := by
  rw [sendWords_eq]; rfl
@[simp] theorem slotOf_sendWords (l m : LegId) (ws : List BurstWord) (s : State) : slotOf (sendWords l ws s) m = slotOf s m := by
  rw [sendWords_eq]; rfl
@[simp] theorem links_updKerb (l : LegId) (k : Side) (f : Kerb → Kerb) (s : State) : (updKerb l k f s).links = s.links := rfl

/-! ### Each operation as an update and its words -/

theorem updKerb_id (l : LegId) (k : Side) {f : Kerb → Kerb} {s : State} (h : f (kerbOf s l k) = kerbOf s l k) : updKerb l k f s = s := by
  have hk : s.kerbs.upd l (fun p => p.upd k f) = s.kerbs := by
    rw [kerbOf] at h
    apply Legs.ext_get
    intro m
    rw [Legs.get_upd]
    split
    · next hm => subst hm; rw [Kerbs.upd, h]; cases k <;> rfl
    · rfl
  unfold updKerb; rw [hk]

theorem updKerb_congr {l : LegId} {k : Side} {f g : Kerb → Kerb} {s : State} (h : f (kerbOf s l k) = g (kerbOf s l k)) :
    updKerb l k f s = updKerb l k g s := by
  rw [kerbOf] at h
  simp only [updKerb, Legs.upd, Kerbs.upd, h]

/-- A kerb's burst or beep is ended (R120, R127). -/
def Kerb.stopped (r : Kerb) : Kerb := { r with sounding := 0, beep := .none, beepLeft := .stopped }

theorem stopKerb_eq (l : LegId) (k : Side) (s : State) :
    stopKerb l k s = sendWords l [.stop k (stopLevel s)] (updKerb l k Kerb.stopped s) := rfl

/-- Step 1 of R120 on a kerb record. -/
def Kerb.cut (r : Kerb) : Kerb := if r.sounding ≠ 0 ∨ r.beep ≠ .none then r.stopped else r

/-- The stop word of step 1 of R120, where there is one. -/
def cutWords (s : State) (l : LegId) (k : Side) : List BurstWord :=
  if (kerbOf s l k).sounding ≠ 0 ∨ (kerbOf s l k).beep ≠ .none then [.stop k (stopLevel s)] else []

theorem cutKerb_eq (l : LegId) (k : Side) (s : State) : cutKerb l k s = sendWords l (cutWords s l k) (updKerb l k Kerb.cut s) := by
  by_cases h : (kerbOf s l k).sounding ≠ 0 ∨ (kerbOf s l k).beep ≠ .none
  · have hf : updKerb l k Kerb.cut s = updKerb l k Kerb.stopped s := updKerb_congr (if_pos h)
    rw [cutWords, if_pos h, hf]
    exact if_pos h
  · have hf : updKerb l k Kerb.cut s = s := updKerb_id l k (if_neg h)
    rw [cutWords, if_neg h, hf]
    exact if_neg h

theorem cut_beep (r : Kerb) : r.cut.beep = .none := by
  unfold Kerb.cut; split
  · rfl
  · next h => simp only [not_or, not_not] at h; exact h.2

/-- A kerb record that takes a pattern, with the envelope's start and E (R122). -/
def Kerb.take (p : Pattern) (start envStep : Nat) (r : Kerb) : Kerb :=
  if p = .walk then { r with pattern := p, envelope := start, step := .load envStep } else { r with pattern := p, step := .stopped }

theorem takePattern_eq (l : LegId) (p : Pattern) (k : Side) (s : State) :
    takePattern l p k s = updKerb l k (Kerb.take p (envelopeStart s l k) (conf s).envStep) s := rfl

/-- A kerb record whose word has gone out (R121, R125). -/
def Kerb.sounds (late : Nat) (w : BurstWord) (r : Kerb) : Kerb := { r with shadow := w.band, sounding := ms w.length - late }

theorem soundWord_eq (l : LegId) (k : Side) (late : Nat) (w : BurstWord) (s : State) :
    soundWord l k late w s = sendWords l [w] (updKerb l k (Kerb.sounds late w) s) := rfl

/-- The word of a burst on LOCATOR, WALK or CLEARANCE (R118, R121), as the state stands. -/
def toneWord (s : State) (l : LegId) (k : Side) : BurstWord :=
  let p := (kerbOf s l k).pattern
  { kerb := k
    tone := if p = .locator then .locator else .band
    band := if p = .locator then 0 else toneBand s l k
    level := if p = .locator then locatorLevel s l k else if p = .walk then walkLevel s l k else kerbLevel s l k
    length := if p = .locator then 40 else 30 }

theorem burstWord_eq {s : State} {l : LegId} {k : Side} (h : (kerbOf s l k).pattern ≠ .silent) :
    burstWord s l k = some (toneWord s l k) := by
  rw [kerbOf] at h
  unfold burstWord toneWord kerbOf
  cases hp : ((s.kerbs.get l).get k).pattern with
  | silent => exact absurd hp h
  | locator | walk | clearance => rfl

theorem sendBurst_eq {s : State} {l : LegId} {k : Side} (h : (kerbOf s l k).pattern ≠ .silent) (hb : (kerbOf s l k).beep = .none)
    (late : Nat) : sendBurst l k late s = sendWords l [toneWord s l k] (updKerb l k (Kerb.sounds late (toneWord s l k)) s) := by
  rw [sendBurst, burstWord_eq h]
  exact if_pos hb

theorem sendBurst_beeping {s : State} {l : LegId} {k : Side} (hb : (kerbOf s l k).beep ≠ .none) (late : Nat) :
    sendBurst l k late s = s := by
  unfold sendBurst
  split
  · rfl
  · exact if_neg hb

/-- A kerb record whose burst phase is loaded (R120, R121). -/
def Kerb.loaded (n late : Nat) (r : Kerb) : Kerb := { r with phase := .load (n - late), late := late - n }

theorem loadPhase_eq (l : LegId) (k : Side) (n late : Nat) (s : State) : loadPhase l k n late s = updKerb l k (Kerb.loaded n late) s := rfl

/-! ### A change of pattern (R120, R127) -/

/-- The leg's kerbs cut and on their new pattern, no burst sent yet. -/
def prepared (l : LegId) (p : Pattern) (s : State) : State :=
  takePattern l p .b (takePattern l p .a (cutKerb l .b (cutKerb l .a s)))

theorem cutWords_cutA (s : State) (l : LegId) : cutWords (cutKerb l .a s) l .b = cutWords s l .b := by
  rw [cutKerb_eq]
  simp only [cutWords, kerbOf_sendWords, stopLevel_sendWords, stopLevel_updKerb, kerbOf_updKerb]
  simp

theorem prepared_eq (l : LegId) (p : Pattern) (s : State) :
    prepared l p s =
      updKerb l .b (Kerb.take p (envelopeStart s l .b) (conf s).envStep) (updKerb l .a (Kerb.take p (envelopeStart s l .a) (conf s).envStep)
        (sendWords l (cutWords s l .b) (updKerb l .b Kerb.cut (sendWords l (cutWords s l .a) (updKerb l .a Kerb.cut s))))) := by
  simp only [prepared, takePattern_eq, cutKerb_eq _ .b, cutWords_cutA, envelopeStart]
  simp only [cutKerb_eq, combinedCap_updKerb, combinedCap_sendWords, kerbLevel_updKerb, kerbLevel_sendWords, conf_updKerb, conf_sendWords]

theorem kerbOf_prepared (l : LegId) (p : Pattern) (s : State) (k : Side) :
    kerbOf (prepared l p s) l k = Kerb.take p (envelopeStart s l k) (conf s).envStep (kerbOf s l k).cut := by
  rw [prepared_eq]
  cases k <;> simp [kerbOf_updKerb]

theorem words_prepared (l : LegId) (p : Pattern) (s : State) :
    ((prepared l p s).links.get l).words = (s.links.get l).words ++ cutWords s l .a ++ cutWords s l .b := by
  rw [prepared_eq]; simp

theorem prepared_reads (l m : LegId) (p : Pattern) (s : State) (k : Side) :
    conf (prepared l p s) = conf s ∧ combinedCap (prepared l p s) = combinedCap s ∧ kerbLevel (prepared l p s) m k = kerbLevel s m k ∧
      locatorLevel (prepared l p s) m k = locatorLevel s m k ∧ slotOf (prepared l p s) m = slotOf s m := by
  rw [prepared_eq]; simp

@[simp] theorem Kerb.take_pattern (p : Pattern) (n e : Nat) (r : Kerb) : (r.take p n e).pattern = p := by unfold Kerb.take; split <;> rfl

@[simp] theorem Kerb.take_beep (p : Pattern) (n e : Nat) (r : Kerb) : (r.take p n e).beep = r.beep := by unfold Kerb.take; split <;> rfl

@[simp] theorem Kerb.take_shadow (p : Pattern) (n e : Nat) (r : Kerb) : (r.take p n e).shadow = r.shadow := by
  unfold Kerb.take; split <;> rfl

@[simp] theorem Kerb.cut_shadow (r : Kerb) : r.cut.shadow = r.shadow := by unfold Kerb.cut; split <;> rfl

@[simp] theorem Kerb.cut_envelope (r : Kerb) : r.cut.envelope = r.envelope := by unfold Kerb.cut; split <;> rfl

theorem Kerb.take_walk {p : Pattern} (h : p = .walk) (n e : Nat) (r : Kerb) :
    (r.take p n e).envelope = n ∧ (r.take p n e).step = .load e := by
  rw [Kerb.take, if_pos h]; exact ⟨rfl, rfl⟩

theorem Kerb.take_other {p : Pattern} (h : p ≠ .walk) (n e : Nat) (r : Kerb) :
    (r.take p n e).envelope = r.envelope ∧ (r.take p n e).step = .stopped := by
  rw [Kerb.take, if_neg h]; exact ⟨rfl, rfl⟩

theorem toneBand_congr {s t : State} {l : LegId} {k : Side} (hx : slotOf t l = slotOf s l)
    (hk : (kerbOf t l k).shadow = (kerbOf s l k).shadow) : toneBand t l k = toneBand s l k := by
  unfold kerbOf at hk
  simp only [toneBand, hx, hk]

/-- The first burst of a kerb on its new pattern (R118, R121, R122, R123). -/
def firstBurst (s : State) (l : LegId) (p : Pattern) (k : Side) : BurstWord :=
  { kerb := k
    tone := if p = .locator then .locator else .band
    band := if p = .locator then 0 else toneBand s l k
    level := if p = .locator then locatorLevel s l k else if p = .walk then max (kerbLevel s l k) (envelopeStart s l k) else kerbLevel s l k
    length := if p = .locator then 40 else 30 }

theorem toneWord_prepared (l : LegId) (p : Pattern) (s : State) (k : Side) : toneWord (prepared l p s) l k = firstBurst s l p k := by
  obtain ⟨-, hcap, hlevel, hloc, hslot⟩ := prepared_reads l l p s k
  have hk := kerbOf_prepared l p s k
  have hband : toneBand (prepared l p s) l k = toneBand s l k := toneBand_congr hslot (by rw [hk]; simp)
  have hwalk : p = .walk → walkLevel (prepared l p s) l k = max (kerbLevel s l k) (envelopeStart s l k) := fun hp => by
    have hcap' : envelopeStart s l k ≤ combinedCap s := Nat.min_le_left ..
    rw [walkLevel, hlevel, hcap]
    change max _ (min (kerbOf (prepared l p s) l k).envelope _) = _
    rw [hk, (Kerb.take_walk hp _ _ _).1, Nat.min_eq_left hcap']
  unfold toneWord firstBurst
  simp only [hk, Kerb.take_pattern, hband, hloc, hlevel]
  by_cases hp : p = .walk
  · subst hp; simp [hwalk rfl]
  · simp [hp]

theorem toneWord_congr {s t : State} {l : LegId} {k : Side} (hk : kerbOf t l k = kerbOf s l k) (hx : slotOf t l = slotOf s l)
    (hlevel : kerbLevel t l k = kerbLevel s l k) (hcap : combinedCap t = combinedCap s) (hloc : locatorLevel t l k = locatorLevel s l k) :
    toneWord t l k = toneWord s l k := by
  have hwalk : walkLevel t l k = walkLevel s l k := by
    unfold kerbOf at hk
    simp only [walkLevel, hk, hlevel, hcap]
  unfold toneWord
  simp only [hk, hlevel, hloc, hwalk, toneBand_congr hx (congrArg Kerb.shadow hk)]

/-- The leg's kerb A has sent its first burst (R120). -/
def begunA (l : LegId) (p : Pattern) (s : State) : State :=
  updKerb l .a (Kerb.loaded (periodOf p) 0) (sendWords l [firstBurst s l p .a]
    (updKerb l .a (Kerb.sounds 0 (firstBurst s l p .a)) (prepared l p s)))

theorem begunA_eq (l : LegId) {p : Pattern} (hp : p ≠ .silent) (s : State) :
    loadPhase l .a (periodOf p) 0 (sendBurst l .a 0 (prepared l p s)) = begunA l p s := by
  have hk := kerbOf_prepared l p s .a
  rw [loadPhase_eq, sendBurst_eq (by rw [hk, Kerb.take_pattern]; exact hp) (by rw [hk, Kerb.take_beep, cut_beep]), toneWord_prepared]
  rfl

theorem kerbOf_begunA_b (l : LegId) (p : Pattern) (s : State) : kerbOf (begunA l p s) l .b = kerbOf (prepared l p s) l .b := by
  simp [begunA, kerbOf_updKerb]

theorem toneWord_begunA_b (l : LegId) (p : Pattern) (s : State) : toneWord (begunA l p s) l .b = firstBurst s l p .b := by
  rw [← toneWord_prepared]
  exact toneWord_congr (kerbOf_begunA_b l p s) (by simp [begunA]) (by simp [begunA]) (by simp [begunA]) (by simp [begunA])

theorem changePattern_eq {l : LegId} {p : Pattern} {s : State} (hp : p ≠ .silent) (ha : (s.kerbs.get l).a.pattern ≠ p) :
    changePattern l p s =
      if (conf s).koff = 0 then
        updKerb l .b (Kerb.loaded (periodOf p) 0) (sendWords l [firstBurst s l p .b]
          (updKerb l .b (Kerb.sounds 0 (firstBurst s l p .b)) (begunA l p s)))
      else updKerb l .b (Kerb.loaded ((conf s).koff * (periodOf p / 8)) 0) (begunA l p s) := by
  have hk := (kerbOf_begunA_b l p s).trans (kerbOf_prepared l p s .b)
  have hconf : conf (begunA l p s) = conf s := (show conf (begunA l p s) = conf (prepared l p s) by simp [begunA]).trans
    (prepared_reads l l p s .a).1
  unfold changePattern
  rw [if_neg ha]
  change (if (conf (loadPhase l .a (periodOf p) 0 (sendBurst l .a 0 (prepared l p s)))).koff = 0 then
      loadPhase l .b (periodOf p) 0 (sendBurst l .b 0 (loadPhase l .a (periodOf p) 0 (sendBurst l .a 0 (prepared l p s))))
    else loadPhase l .b ((conf (loadPhase l .a (periodOf p) 0 (sendBurst l .a 0 (prepared l p s)))).koff * (periodOf p / 8)) 0
      (loadPhase l .a (periodOf p) 0 (sendBurst l .a 0 (prepared l p s)))) = _
  rw [begunA_eq l hp, hconf, loadPhase_eq,
    sendBurst_eq (by rw [hk, Kerb.take_pattern]; exact hp) (by rw [hk, Kerb.take_beep, cut_beep]), toneWord_begunA_b]
  rfl

/-- The records of the leg's kerbs once its pattern has changed. -/
theorem kerbOf_changePattern {l : LegId} {p : Pattern} {s : State} (hp : p ≠ .silent) (ha : (s.kerbs.get l).a.pattern ≠ p) :
    kerbOf (changePattern l p s) l .a = Kerb.loaded (periodOf p) 0 (Kerb.sounds 0 (firstBurst s l p .a)
      (Kerb.take p (envelopeStart s l .a) (conf s).envStep (kerbOf s l .a).cut)) ∧
    kerbOf (changePattern l p s) l .b =
      if (conf s).koff = 0 then Kerb.loaded (periodOf p) 0 (Kerb.sounds 0 (firstBurst s l p .b)
        (Kerb.take p (envelopeStart s l .b) (conf s).envStep (kerbOf s l .b).cut))
      else Kerb.loaded ((conf s).koff * (periodOf p / 8)) 0
        (Kerb.take p (envelopeStart s l .b) (conf s).envStep (kerbOf s l .b).cut) := by
  rw [changePattern_eq hp ha, ← kerbOf_prepared, ← kerbOf_prepared]
  split <;> simp [begunA, kerbOf_updKerb]

theorem words_changePattern {l : LegId} {p : Pattern} {s : State} (hp : p ≠ .silent) (ha : (s.kerbs.get l).a.pattern ≠ p) :
    ((changePattern l p s).links.get l).words = (s.links.get l).words ++ cutWords s l .a ++ cutWords s l .b ++ [firstBurst s l p .a] ++
      (if (conf s).koff = 0 then [firstBurst s l p .b] else []) := by
  rw [changePattern_eq hp ha]
  split <;> simp [begunA, words_prepared]

theorem kerbs_updKerb_other (l : LegId) (k : Side) (f : Kerb → Kerb) (s : State) :
    (updKerb l k f s).kerbs.get (otherLeg l) = s.kerbs.get (otherLeg l) := by simp

/-- A change of pattern leaves the other leg's kerbs and link alone. -/
theorem changePattern_other (l : LegId) {p : Pattern} (hp : p ≠ .silent) (s : State) :
    (changePattern l p s).kerbs.get (otherLeg l) = s.kerbs.get (otherLeg l) ∧
      (changePattern l p s).links.get (otherLeg l) = s.links.get (otherLeg l) := by
  by_cases ha : (s.kerbs.get l).a.pattern = p
  · rw [changePattern, if_pos ha]; exact ⟨rfl, rfl⟩
  · rw [changePattern_eq hp ha]
    split <;> simp [begunA, prepared_eq]

/-- What both kerbs have after a change of pattern, whenever their bursts go out. -/
theorem changePattern_kerb {l : LegId} {p : Pattern} {s : State} (hp : p ≠ .silent) (ha : (s.kerbs.get l).a.pattern ≠ p) (k : Side) :
    let r := kerbOf (changePattern l p s) l k
    let b := Kerb.take p (envelopeStart s l k) (conf s).envStep (kerbOf s l k).cut
    r.pattern = p ∧ r.envelope = b.envelope ∧ r.step = b.step ∧ r.beep = .none ∧ r.late = 0 := by
  obtain ⟨hka, hkb⟩ := kerbOf_changePattern hp ha
  dsimp only
  cases k with
  | a => rw [hka]; simp [Kerb.loaded, Kerb.sounds, cut_beep]
  | b => rw [hkb]; split <;> simp [Kerb.loaded, Kerb.sounds, cut_beep]

theorem changePattern_pattern {l : LegId} {p : Pattern} {s : State} (hp : p ≠ .silent) (ha : (s.kerbs.get l).a.pattern ≠ p) (k : Side) :
    (kerbOf (changePattern l p s) l k).pattern = p := (changePattern_kerb hp ha k).1

theorem stopLevel_eq (s : State) : stopLevel s = (s.cfg.map StationConfig.floor).getD 0 := by
  unfold stopLevel; cases s.cfg <;> rfl

theorem periodOf_eq {p : Pattern} (h : p ≠ .silent) :
    periodOf p = 8 * (if p = .locator then 1000 else if p = .walk then 125 else 500) := by
  cases p <;> first | rfl | exact absurd rfl h

/-! ### Beeps (R125) -/

theorem triggerBeep_dropped {l : LegId} {k : Side} {s : State} (h : (kerbOf s l k).pattern ≠ .locator) (kind : Kind) :
    triggerBeep l k kind s = s := if_neg h

/-- The word of a beep. -/
def beepWord (s : State) (l : LegId) (k : Side) (kind : Kind) : BurstWord :=
  { kerb := k, tone := .beep, band := (legConf s l).band, level := kerbLevel s l k, length := beepLength kind }

theorem triggerBeep_starts {l : LegId} {k : Side} {s : State} (h : (kerbOf s l k).pattern = .locator) (kind : Kind) :
    triggerBeep l k kind s = updKerb l k (fun r => { r with beep := beepOf kind, beepLeft := .load (ms (beepLength kind)) })
      (sendWords l [beepWord s l k kind] (updKerb l k (Kerb.sounds 0 (beepWord s l k kind)) s)) := if_pos h

/-- Settles O38: the kerbs' records and words as `kerbOf_changePattern` and `words_changePattern` have them. -/
theorem patternChangesAndBeeps : Obligations.PatternChangesAndBeeps := by
  unfold Obligations.PatternChangesAndBeeps
  intro l p s hp
  constructor
  · intro ha t stop cut start burst period
    obtain ⟨hka, hkb⟩ := kerbOf_changePattern hp ha
    have hperiod : periodOf p = period := periodOf_eq hp
    have hcut (k : Side) : cut k = cutWords s l k := by simp only [cut, stop, cutWords, BurstWord.stop, stopLevel_eq]
    have hburst (k : Side) : burst k = [firstBurst s l p k] := by
      simp only [burst, start, firstBurst, envelopeStart, toneBand, kerbOf] <;> rfl
    refine ⟨changePattern_pattern hp ha, ?_, ?_, ?_, fun hw k => ?_, fun hw k => ?_, fun k => ?_, ?_, changePattern_other l hp s |>.1,
      changePattern_other l hp s |>.2, changePattern_touches l p s⟩
    · rw [hka, hperiod]; rfl
    · rw [hkb, hperiod]; split <;> rfl
    · rw [words_changePattern hp ha, hcut, hcut, hburst, hburst]
    · obtain ⟨-, henv, hstep, -, -⟩ := changePattern_kerb hp ha k
      obtain ⟨htake, hload⟩ := Kerb.take_walk hw (envelopeStart s l k) (conf s).envStep (kerbOf s l k).cut
      exact ⟨henv.trans htake, hstep.trans hload⟩
    · obtain ⟨-, henv, hstep, -, -⟩ := changePattern_kerb hp ha k
      obtain ⟨htake, hload⟩ := Kerb.take_other hw (envelopeStart s l k) (conf s).envStep (kerbOf s l k).cut
      exact ⟨(henv.trans htake).trans (Kerb.cut_envelope _), congrArg Countdown.running (hstep.trans hload)⟩
    · obtain ⟨-, -, -, hbeep, hlate⟩ := changePattern_kerb hp ha k
      exact ⟨hbeep, hlate⟩
    · rw [hka]; rfl
  · intro k kind
    refine ⟨fun h => triggerBeep_dropped h kind, fun h => ?_⟩
    intro t len
    have ht : t = _ := triggerBeep_starts h kind
    refine ⟨?_, ?_, ?_, ?_, triggerBeep_touches l k kind s⟩
    · rw [ht, kerbOf_updKerb_self]; cases kind <;> rfl
    · rw [ht, kerbOf_updKerb_self]; cases kind <;> rfl
    · rw [ht]; cases kind <;> simp [Kerb.sounds, beepWord, ms, beepLength, len]
    · rw [ht]; cases kind <;> simp [beepWord, beepLength, len]

/-! ### Levels in their order (R136 to R138, R123) -/

theorem capped_mono (s : State) {v w : Nat} (h : v ≤ w) : capped s v ≤ capped s w := by
  simp only [capped]; split <;> split <;> omega

theorem capped_le (s : State) (v : Nat) : capped s v ≤ v := by
  simp only [capped]; split <;> split <;> omega

theorem le_capped {s : State} {v n : Nat} (hv : n ≤ v) (hnight : n ≤ (conf s).nightcap) (hiso : n ≤ (conf s).isocap) : n ≤ capped s v := by
  simp only [capped]; split <;> split <;> omega

theorem capped_le_nightcap {s : State} (h : quietActive s = true) (v : Nat) : capped s v ≤ (conf s).nightcap := by
  simp only [capped, h, if_true]; split <;> omega

theorem capped_le_isocap {s : State} (h : s.mode = .isolated) (v : Nat) : capped s v ≤ (conf s).isocap := by
  simp only [capped, h, if_true]; omega

/-- The raw level is brought between floor and ceiling before it is capped (R137). -/
theorem kerbLevel_eq {s : State} (h : (conf s).floor ≤ (conf s).ceiling) (l : LegId) (k : Side) :
    ∃ v, kerbLevel s l k = capped s v ∧ (conf s).floor ≤ v ∧ v ≤ (conf s).ceiling :=
  ⟨_, rfl, by omega, by omega⟩

/-- Settles O37: a value between floor and ceiling, under the caps in force, lies between floor and Cap. -/
theorem levelsStayInOrder : Obligations.LevelsStayInOrder := by
  unfold Obligations.LevelsStayInOrder
  intro l k s hrange
  obtain ⟨-, -, -, -, -, -, -, -, -, -, hfc, -, ⟨hnight, -⟩, ⟨hiso, -⟩, -⟩ := hrange
  obtain ⟨v, hv, hfloor, hceiling⟩ := kerbLevel_eq hfc l k
  have hlow : (conf s).floor ≤ kerbLevel s l k := by rw [hv]; exact le_capped hfloor hnight hiso
  have hcap : kerbLevel s l k ≤ combinedCap s := by rw [hv]; exact capped_mono s hceiling
  refine ⟨hlow, hcap, capped_le s _, ?_, ?_, ?_, ?_, ?_, ?_, fun hq => capped_le_nightcap hq _, fun hm => capped_le_isocap hm _⟩
  · exact Nat.le_max_left ..
  · exact Nat.max_le.mpr ⟨hlow, Nat.sub_le ..⟩
  · exact Nat.le_max_left ..
  · exact Nat.max_le.mpr ⟨hcap, Nat.min_le_right ..⟩
  · exact Nat.le_min.mpr ⟨hcap, Nat.le_add_right ..⟩
  · exact Nat.min_le_left ..

/-! ### The ambient average (R134) -/

/-- One step of the average goes an eighth of the way to 16 × s, rounded down. -/
theorem smooth_bounds (a v : Nat) :
    min a (16 * v) ≤ smooth (some a) v ∧ smooth (some a) v ≤ max a (16 * v) ∧ (16 * v < a → smooth (some a) v < a) ∧
      (a ≤ 16 * v → 16 * v ≤ a + 7 → smooth (some a) v = a) := by
  simp only [smooth]; omega

/-- Settles O36: each command by its occurrence, the average by `smooth_bounds`. -/
theorem ambientWordsAndQuietInput : Obligations.AmbientWordsAndQuietInput := by
  unfold Obligations.AmbientWordsAndQuietInput
  intro l k v s hr
  refine ⟨fun hs hv => ?_, fun h => ?_, fun high h => ?_, fun a hv ha => ?_⟩
  · have ho : occurs (.ambientWord l k v) s = true := by simp [occurs, hs, hv]
    intro average r
    rw [exec_event hr rfl rfl ho]
    rfl
  · have ho : occurs (.ambientWord l k v) s = false := by
      rcases h with h | h
      · simp [occurs, h]
      · simp [occurs, Nat.not_le.mpr h]
    rw [exec_eq hr rfl, outcomeOf, ho]; rfl
  · have ho : occurs (.quietInputChange high) s = true := by simpa [occurs] using h
    rw [exec_event hr rfl rfl ho]; rfl
  · obtain ⟨h1, h2, h3, h4⟩ := smooth_bounds a v.toNat
    exact ⟨h1, h2, by omega, h3, h4⟩

/-! ### The counts of a kerb in real time (R115, R116, R121) -/

theorem kerbOf_elapse (n : Nat) (s : State) (l : LegId) (k : Side) : kerbOf (elapse n s) l k = elapseKerb n (kerbOf s l k) := by
  simp [elapse, kerbOf]

/-- What is left of a kerb's burst phase, less what has passed since its burst fell due. -/
def Kerb.left (r : Kerb) : Int := (r.phase.count : Int) - r.late

theorem left_elapseKerb {r : Kerb} (h : r.phase.running = true) (n : Nat) : (elapseKerb n r).left = r.left - n := by
  simp only [elapseKerb, h, if_true, Kerb.left]; omega

theorem burstFirst_iff (s : State) (l : LegId) (k : Side) :
    burstFirst s l k = true ↔ (kerbOf s l (otherSide k)).phase.running = false ∨ (kerbOf s l k).left < (kerbOf s l (otherSide k)).left ∨
      (k = .a ∧ (kerbOf s l k).left = (kerbOf s l (otherSide k)).left) := by
  simp only [burstFirst, Bool.or_eq_true, Bool.not_eq_true', Kerb.left]
  refine or_congr Iff.rfl ?_
  cases k with
  | a => simp only [decide_eq_true_eq, true_and]; omega
  | b => simp only [decide_eq_true_eq, reduceCtorEq, false_and, or_false]; omega

theorem burstReady_iff (s : State) (l : LegId) (k : Side) :
    burstReady s l k = true ↔ (kerbOf s l k).phase.running = true ∧ (kerbOf s l k).pattern ≠ .silent ∧ burstFirst s l k = true := by
  simp [burstReady, and_assoc]

/-- A burst taken when it falls due: the time left of its phase has passed, its word goes out unless a beep is in progress, and the
phase is loaded from the instant at which it fell due (R116, R121). -/
theorem burstNow_eq {s : State} {l : LegId} {k : Side} (hrun : (kerbOf s l k).phase.running = true) (n : Nat)
    (hn : (kerbOf s l k).phase.count = n) :
    burstNow l k s = updKerb l k (Kerb.loaded (periodOf (kerbOf s l k).pattern) (kerbOf s l k).late)
      (sendBurst l k (kerbOf s l k).late (elapse n s)) := by
  have hlate : (kerbOf (elapse n s) l k).late = (kerbOf s l k).late := by
    rw [kerbOf_elapse]; simp [elapseKerb, hrun, hn]
  have hpat : (kerbOf (elapse n s) l k).pattern = (kerbOf s l k).pattern := by rw [kerbOf_elapse]; rfl
  unfold burstNow
  rw [hn]
  dsimp only
  rw [hlate, hpat, loadPhase_eq]

theorem kerbOf_sendBurst_other (l : LegId) (k : Side) (late : Nat) (s : State) :
    kerbOf (sendBurst l k late s) l (otherSide k) = kerbOf s l (otherSide k) := by
  unfold sendBurst
  split
  · rfl
  · split
    · simp [soundWord_eq]
    · rfl

/-- The word of a burst that falls due, read before the rest of the phase has passed. -/
theorem toneWord_elapse (n : Nat) (s : State) (l : LegId) (k : Side) : toneWord (elapse n s) l k = toneWord s l k := by
  have hk := kerbOf_elapse n s l k
  have hwalk : walkLevel (elapse n s) l k = walkLevel s l k := by
    change max (kerbLevel s l k) (min (kerbOf (elapse n s) l k).envelope _) = _
    rw [hk]; rfl
  have hband : toneBand (elapse n s) l k = toneBand s l k := toneBand_congr rfl (by rw [hk]; rfl)
  have hpat : (kerbOf (elapse n s) l k).pattern = (kerbOf s l k).pattern := by rw [hk]; rfl
  unfold toneWord
  simp only [hpat, hwalk, hband]
  rfl

/-- What a burst that falls due leaves: during a beep the phase loaded alone, otherwise the word sent with it (R121, R126). -/
theorem kerbOf_burstNow {s : State} {l : LegId} {k : Side} (hrun : (kerbOf s l k).phase.running = true)
    (hpat : (kerbOf s l k).pattern ≠ .silent) :
    let r := kerbOf s l k
    let e := elapseKerb r.phase.count r
    let w := toneWord s l k
    kerbOf (burstNow l k s) l k =
      Kerb.loaded (periodOf r.pattern) r.late (if r.beep = .none then e.sounds r.late w else e) ∧
    (r.beep = .none → ((burstNow l k s).links.get l).words.getLast? = some w) := by
  intro r e w
  have hk := kerbOf_elapse r.phase.count s l k
  rw [burstNow_eq hrun r.phase.count rfl, kerbOf_updKerb_self, links_updKerb]
  by_cases hb : r.beep = .none
  · have hsend := sendBurst_eq (s := elapse r.phase.count s) (l := l) (k := k) (by rw [hk]; exact hpat) (by rw [hk]; exact hb) r.late
    rw [hsend, toneWord_elapse, kerbOf_sendWords, kerbOf_updKerb_self, hk, if_pos hb]
    exact ⟨rfl, fun _ => by simp [w]⟩
  · rw [sendBurst_beeping (by rw [hk]; exact hb), hk, if_neg hb]
    exact ⟨rfl, fun h => absurd h hb⟩

theorem kerbOf_burstNow_other {s : State} {l : LegId} {k : Side} (hrun : (kerbOf s l k).phase.running = true) :
    kerbOf (burstNow l k s) l (otherSide k) = elapseKerb (kerbOf s l k).phase.count (kerbOf s l (otherSide k)) := by
  rw [burstNow_eq hrun _ rfl, kerbOf_updKerb_otherSide, kerbOf_sendBurst_other, kerbOf_elapse]

theorem soundParts_within (c : Instr) (l : LegId) (k : Side) (h : c = .burstDue l k ∨ c = .soundingExpiry l k ∨ c = .beepEnd l k) :
    partsWithin (settledParts ++ commandParts c) [.clock, .kerbs, .links, .hold, .lamps, .sinceTick] = true := by
  rcases h with rfl | rfl | rfl <;> rfl

/-- Settles O35: a burst falling due by `kerbOf_burstNow`; the other two commands let the rest of their count pass. -/
theorem kerbTimesRunOut : Obligations.KerbTimesRunOut := by
  unfold Obligations.KerbTimesRunOut
  intro l k s hr r o period left first word
  have hfirst : burstFirst s l k = true ↔ first := burstFirst_iff s l k
  refine ⟨fun hrun hpat hf => ?_, fun h => ?_, fun h => ?_, fun h => ?_⟩
  · have ho : occurs (.burstDue l k) s = true := (burstReady_iff s l k).mpr ⟨hrun, hpat, hfirst.mpr hf⟩
    have hexec := exec_event (c := .burstDue l k) hr rfl rfl ho
    obtain ⟨hk, hword⟩ := kerbOf_burstNow (s := later s) (l := l) (k := k) hrun hpat
    have hother := kerbOf_burstNow_other (s := later s) (l := l) (k := k) hrun
    have hlinks (u : State) : (settle u).links = u.links := settle_same .links (by decide)
    have hw : toneWord (later s) l k = word := by
      simp only [toneWord, toneBand, kerbOf_later, word, r] <;> rfl
    have hperiod : periodOf r.pattern = period := periodOf_eq hpat
    refine ⟨_, hexec, ?_⟩
    have hloaded : kerbOf (burstNow l k (later s)) l k = Kerb.loaded period r.late
        (if r.beep = .none then (elapseKerb r.phase.count r).sounds r.late word else elapseKerb r.phase.count r) := by
      rw [hk, ← hperiod, ← hw]; rfl
    simp only [kerbOf_settle, hlinks, effect, hloaded, hother]
    refine ⟨?_, ?_, ?_, rfl, rfl, fun horun => ?_, fun hb => ?_, fun hb => ⟨(hword hb).trans (congrArg some hw), ?_⟩, exec_changes hexec rfl⟩
    · split <;> rfl
    · split <;> rfl
    · split <;> rfl
    · have hleft : (elapseKerb r.phase.count o).left = o.left - r.phase.count := left_elapseKerb horun _
      change ((period - r.late : Nat) : Int) - (r.late - period : Nat) - (elapseKerb r.phase.count o).left =
        (r.phase.count : Int) - r.late - o.left + period
      rw [hleft]; omega
    · rw [if_neg hb]; exact ⟨rfl, rfl⟩
    · simp only [if_pos hb]; exact ⟨rfl, rfl⟩
  · have ho : occurs (.burstDue l k) s = false := by
      rw [← Bool.not_eq_true]
      intro ho
      obtain ⟨hrun, hpat, hf⟩ := (burstReady_iff s l k).mp ho
      rcases h with h | h | h
      · simp [r, hrun] at h
      · exact hpat h
      · exact h (hfirst.mp hf)
    rw [exec_eq hr rfl, outcomeOf, ho]; rfl
  · have ho : occurs (.soundingExpiry l k) s = true := decide_eq_true h
    have hexec := exec_event (c := .soundingExpiry l k) hr rfl rfl ho
    have hk : kerbOf (soundingDone l k (later s)) l k = elapseKerb r.sounding r := kerbOf_elapse r.sounding (later s) l k
    refine ⟨_, hexec, ?_, ?_, exec_changes hexec rfl⟩
    · rw [kerbOf_settle]; exact (congrArg Kerb.sounding hk).trans (Nat.sub_self _)
    · rw [kerbOf_settle]; exact (congrArg Kerb.pattern hk).trans rfl
  · have ho : occurs (.beepEnd l k) s = true := h
    have hexec := exec_event (c := .beepEnd l k) hr rfl rfl ho
    have hk : kerbOf (beepDone l k (later s)) l k = { elapseKerb r.beepLeft.count r with beep := .none, beepLeft := .stopped } := by
      rw [beepDone, kerbOf_updKerb_self, kerbOf_elapse]; rfl
    refine ⟨_, hexec, ?_, ?_, ?_, exec_changes hexec rfl⟩
    · rw [kerbOf_settle]; exact congrArg Kerb.beep hk
    · rw [kerbOf_settle]; exact congrArg Kerb.beepLeft hk
    · rw [kerbOf_settle]; exact (congrArg Kerb.pattern hk).trans rfl

end Sys2Proof.Machine
end

section
/-! Placement (chapter 5): the exclusion scan ends at the earliest clear start, and what a placement gives. -/

namespace Sys2Proof.Machine

/-! ### The exclusion scan (R86) -/

/-- One entry moves S to its end and guard where it collides (R86). -/
def scanStep (guard len t : Nat) (x : Excl) : Nat := if collides guard len t x then x.endIn + guard else t

theorem scanPass_cons (guard len : Nat) (x : Excl) (xs : List Excl) (t : Nat) :
    scanPass guard len (x :: xs) t = scanPass guard len xs (scanStep guard len t x) := rfl

theorem collides_iff (guard len t : Nat) (x : Excl) :
    collides guard len t x = true ↔ x.startIn < t + len + guard ∧ t < x.endIn + guard := by
  simp [collides]

theorem le_scanStep (guard len t : Nat) (x : Excl) : t ≤ scanStep guard len t x := by
  unfold scanStep
  split
  · next h => exact ((collides_iff guard len t x).mp h).2.le
  · exact Nat.le_refl t

theorem le_scanPass (guard len : Nat) (xs : List Excl) (t : Nat) : t ≤ scanPass guard len xs t := by
  induction xs generalizing t with
  | nil => exact Nat.le_refl t
  | cons x xs ih => exact (le_scanStep guard len t x).trans (ih _)

/-- A clear start at or after S is not passed over. -/
theorem scanStep_le {guard len t other : Nat} {x : Excl} (ht : t ≤ other) (hx : collides guard len other x = false) :
    scanStep guard len t x ≤ other := by
  unfold scanStep
  split
  · next h =>
    rw [collides_iff] at h
    rw [← Bool.not_eq_true, collides_iff] at hx
    omega
  · exact ht

theorem scanPass_le {guard len : Nat} {xs : List Excl} {t other : Nat} (ht : t ≤ other)
    (hx : ∀ x ∈ xs, collides guard len other x = false) : scanPass guard len xs t ≤ other := by
  induction xs generalizing t with
  | nil => exact ht
  | cons x xs ih =>
    exact ih (scanStep_le ht (hx x List.mem_cons_self)) fun y hy => hx y (List.mem_cons_of_mem x hy)

/-- A pass that moves nothing has found S clear. -/
theorem clear_of_scanPass_eq {guard len : Nat} {xs : List Excl} {t : Nat} (h : scanPass guard len xs t = t) :
    ∀ x ∈ xs, collides guard len t x = false := by
  induction xs with
  | nil => exact fun _ hx => absurd hx List.not_mem_nil
  | cons x xs ih =>
    have hstep : scanStep guard len t x = t :=
      Nat.le_antisymm ((le_scanPass guard len xs _).trans_eq h) (le_scanStep guard len t x)
    rw [scanPass_cons, hstep] at h
    have hclear : collides guard len t x = false := by
      rw [← Bool.not_eq_true]
      intro hc
      have hmove : scanStep guard len t x = x.endIn + guard := if_pos hc
      have := ((collides_iff guard len t x).mp hc).2
      omega
    exact fun y hy => (List.mem_cons.mp hy).elim (fun e => e ▸ hclear) (ih h y)

/-- A pass that moves S has passed the end of an entry. -/
theorem exists_passed {guard len : Nat} {xs : List Excl} {t : Nat} (h : scanPass guard len xs t ≠ t) :
    ∃ x ∈ xs, t < x.endIn + guard ∧ x.endIn + guard ≤ scanPass guard len xs t := by
  induction xs generalizing t with
  | nil => exact absurd rfl h
  | cons x xs ih =>
    by_cases hc : collides guard len t x = true
    · have hmove : scanStep guard len t x = x.endIn + guard := if_pos hc
      refine ⟨x, List.mem_cons_self, ((collides_iff guard len t x).mp hc).2, ?_⟩
      rw [scanPass_cons, hmove]
      exact le_scanPass guard len xs _
    · have hstay : scanStep guard len t x = t := if_neg hc
      rw [scanPass_cons, hstay] at h ⊢
      obtain ⟨y, hy, hend⟩ := ih h
      exact ⟨y, List.mem_cons_of_mem x hy, hend⟩

/-- The entries that can still move S. -/
def ahead (guard t : Nat) (xs : List Excl) : List Excl := xs.filter fun x => decide (t < x.endIn + guard)

theorem ahead_scanPass {guard len : Nat} {xs : List Excl} {t : Nat} (h : scanPass guard len xs t ≠ t) :
    (ahead guard (scanPass guard len xs t) xs).length < (ahead guard t xs).length := by
  have hle := le_scanPass guard len xs t
  have hsub : ahead guard (scanPass guard len xs t) xs = ahead guard (scanPass guard len xs t) (ahead guard t xs) := by
    rw [ahead, ahead, ahead, List.filter_filter]
    refine List.filter_congr fun x _ => ?_
    rw [Bool.eq_iff_iff]; simp only [Bool.and_eq_true, decide_eq_true_eq]; omega
  obtain ⟨x, hx, hbefore, hafter⟩ := exists_passed h
  rw [hsub]
  refine List.length_filter_lt_length_iff_exists.mpr ⟨x, List.mem_filter.mpr ⟨hx, decide_eq_true hbefore⟩, ?_⟩
  simp only [decide_eq_true_eq]; omega

/-- With more passes than entries ahead the scan ends at the earliest clear start. -/
theorem scan_earliest (guard len : Nat) (xs : List Excl) (n : Nat) :
    ∀ t, (ahead guard t xs).length < n →
      t ≤ scan guard len xs n t ∧ (∀ x ∈ xs, collides guard len (scan guard len xs n t) x = false) ∧
        ∀ other, t ≤ other → (∀ x ∈ xs, collides guard len other x = false) → scan guard len xs n t ≤ other := by
  induction n with
  | zero => exact fun t h => absurd h (Nat.not_lt_zero _)
  | succ n ih =>
    intro t h
    by_cases hfix : scanPass guard len xs t = t
    · have hscan : scan guard len xs (n + 1) t = t := if_pos hfix
      rw [hscan]
      exact ⟨Nat.le_refl t, clear_of_scanPass_eq hfix, fun _ ho _ => ho⟩
    · have hscan : scan guard len xs (n + 1) t = scan guard len xs n (scanPass guard len xs t) := if_neg hfix
      have hless := ahead_scanPass hfix
      obtain ⟨hle, hclear, hleast⟩ := ih (scanPass guard len xs t) (by omega)
      rw [hscan]
      exact ⟨(le_scanPass guard len xs t).trans hle, hclear, fun other ho hx => hleast other (scanPass_le ho hx) hx⟩

/-- Settles O18: an entry moves S at most once, so one pass more than there are entries is enough. -/
theorem scanFindsEarliestClearStart : Obligations.ScanFindsEarliestClearStart := by
  unfold Obligations.ScanFindsEarliestClearStart
  exact fun guard len start xs => scan_earliest guard len xs _ start (Nat.lt_succ_of_le (List.length_filter_le ..))

/-! ### The exclusion list, the candidates and the bands (R84, R85, R89) -/

theorem mem_insertExcl (x y : Excl) (xs : List Excl) : y ∈ insertExcl x xs ↔ y = x ∨ y ∈ xs := by
  induction xs with
  | nil => simp [insertExcl]
  | cons z zs ih =>
    unfold insertExcl
    split
    · exact List.mem_cons
    · simp only [List.mem_cons, ih]; tauto

theorem mem_sortExcl (y : Excl) (xs : List Excl) : y ∈ sortExcl xs ↔ y ∈ xs := by
  induction xs with
  | nil => exact Iff.rfl
  | cons x xs ih => exact (mem_insertExcl x y (sortExcl xs)).trans ((or_congr Iff.rfl ih).trans List.mem_cons.symm)

theorem exclOf_eq_some {key : Key} {x : Slot} {e : Excl} :
    exclOf key x = some e ↔ x.aid = true ∧ 0 < x.endIn ∧ e = { startIn := x.startIn, endIn := x.endIn, band := x.band, key := key } := by
  unfold exclOf
  split
  · next h => simp only [Bool.and_eq_true, decide_eq_true_eq] at h; simp [h, eq_comm]
  · next h =>
    simp only [Bool.and_eq_true, decide_eq_true_eq] at h
    exact iff_of_false nofun fun ⟨ha, he, _⟩ => h ⟨ha, he⟩

theorem ownExcl_eq_some {s : State} {l : LegId} {e : Excl} :
    ownExcl s l = some e ↔ ∃ y, slotOf s (otherLeg l) = some y ∧ y.aid = true ∧ 0 < y.endIn ∧
      e = { startIn := y.startIn, endIn := y.endIn, band := y.band, key := ownKey s (otherLeg l) y } := by
  simp only [ownExcl, Option.bind_eq_some_iff, exclOf_eq_some]

theorem mem_foreignExcl {s : State} {e : Excl} :
    e ∈ foreignExcl s ↔ ∃ n ∈ s.table, acoustic s n.position n.radius = true ∧ ∃ y, n.slot = some y ∧ y.aid = true ∧ 0 < y.endIn ∧
      e = { startIn := y.startIn, endIn := y.endIn, band := y.band, key := foreignKey n.station n.leg y } := by
  simp only [foreignExcl, List.mem_filterMap, Option.ite_none_right_eq_some, Option.bind_eq_some_iff, exclOf_eq_some]

theorem mem_exclusionList {s : State} {l : LegId} {e : Excl} :
    e ∈ exclusionList s l ↔ e ∈ foreignExcl s ∨ ownExcl s l = some e := by
  rw [exclusionList, mem_sortExcl, List.mem_append, Option.mem_toList]

theorem mem_couplingStarts {s : State} {l : LegId} {t : Nat} :
    t ∈ couplingStarts s l ↔
      (∃ n ∈ s.table, distance n.position (conf s).position ≤ (conf s).coupling ∧ ∃ x, n.slot = some x ∧ x.startIn = t) ∨
      (∃ x, slotOf s (otherLeg l) = some x ∧ x.startIn = t) := by
  have hc (p : Nat) : couples s p = true ↔ distance p (conf s).position ≤ (conf s).coupling := decide_eq_true_iff
  simp only [couplingStarts, List.mem_append, List.mem_filterMap, Option.mem_toList, Option.map_eq_some_iff, Option.ite_none_right_eq_some,
    hc]

/-- The smallest candidate of the window, or the window's lower end (R84). -/
theorem couple_spec (lo hi : Nat) (starts : List Nat) (h : lo ≤ hi) :
    lo ≤ couple lo hi starts ∧ couple lo hi starts ≤ hi ∧
      (∀ t ∈ starts, lo ≤ t → t ≤ hi → couple lo hi starts ∈ starts ∧ couple lo hi starts ≤ t) ∧
      ((∀ t ∈ starts, ¬(lo ≤ t ∧ t ≤ hi)) → couple lo hi starts = lo) := by
  have hmem (t : Nat) : t ∈ starts.filter (fun t => decide (lo ≤ t) && decide (t ≤ hi)) ↔ t ∈ starts ∧ lo ≤ t ∧ t ≤ hi := by simp
  unfold couple
  cases hmin : (starts.filter fun t => decide (lo ≤ t) && decide (t ≤ hi)).min? with
  | none =>
    rw [List.min?_eq_none_iff] at hmin
    have hnone (t : Nat) (ht : t ∈ starts) : ¬(lo ≤ t ∧ t ≤ hi) := fun hw => by
      have := (hmem t).mpr ⟨ht, hw⟩
      rw [hmin] at this
      exact List.not_mem_nil this
    exact ⟨Nat.le_refl lo, h, fun t ht h1 h2 => absurd ⟨h1, h2⟩ (hnone t ht), fun _ => rfl⟩
  | some m =>
    obtain ⟨hm, hleast⟩ := List.min?_eq_some_iff.mp hmin
    obtain ⟨hin, hlo, hhi⟩ := (hmem m).mp hm
    exact ⟨hlo, hhi, fun t ht h1 h2 => ⟨hin, hleast t ((hmem t).mpr ⟨ht, h1, h2⟩)⟩, fun hno => absurd ⟨hlo, hhi⟩ (hno m hin)⟩

theorem lowestBand_eq_some {used : List Nat} {b : Nat} :
    lowestBand used = some b ↔ b < 6 ∧ b ∉ used ∧ ∀ j < b, j ∈ used := by
  simp only [lowestBand, List.find?_range_eq_some, List.mem_range, Bool.not_eq_true', Bool.not_eq_false', List.contains_iff_mem]
  simp only [← Bool.not_eq_true, List.contains_iff_mem]
  tauto

theorem lowestBand_eq_none {used : List Nat} : lowestBand used = none ↔ ∀ b < 6, b ∈ used := by
  simp [lowestBand]

/-! ### The result (R81 to R90) -/

theorem chosenStart_plain {s : State} {l : LegId} {c : Call} (h : c.kind = .plain) :
    chosenStart s l c =
      couple (earliestStart s l) (min (earliestStart s l + (conf s).join) (latestStart s l c.waited)) (couplingStarts s l) := by
  rw [chosenStart, h]

theorem chosenStart_aid {s : State} {l : LegId} {c : Call} (h : c.kind = .aid) :
    chosenStart s l c = scan (conf s).guard (slotLength (legConf s l) .aid) (exclusionList s l) ((exclusionList s l).length + 1)
      (earliestStart s l) := by
  rw [chosenStart, h]

theorem earliest_le_latest (s : State) (l : LegId) (waited : Nat) : earliestStart s l ≤ latestStart s l waited := Nat.le_max_left ..

/-- The start of a plain call: never past Smax, and the smallest candidate of its window. -/
theorem chosenStart_plain_spec {s : State} {l : LegId} {c : Call} (h : c.kind = .plain) :
    let lo := earliestStart s l
    let hi := min (lo + (conf s).join) (latestStart s l c.waited)
    lo ≤ chosenStart s l c ∧ chosenStart s l c ≤ hi ∧
      (∀ t ∈ couplingStarts s l, lo ≤ t → t ≤ hi → chosenStart s l c ∈ couplingStarts s l ∧ chosenStart s l c ≤ t) ∧
      ((∀ t ∈ couplingStarts s l, ¬(lo ≤ t ∧ t ≤ hi)) → chosenStart s l c = lo) := by
  intro lo hi
  rw [chosenStart_plain h]
  exact couple_spec lo hi _ (Nat.le_min.mpr ⟨Nat.le_add_right .., earliest_le_latest s l c.waited⟩)

/-- The start of an aid call: the earliest clear one. -/
theorem chosenStart_aid_spec {s : State} {l : LegId} {c : Call} (h : c.kind = .aid) :
    let clear := fun start => ∀ x ∈ exclusionList s l, collides (conf s).guard (slotLength (legConf s l) c.kind) start x = false
    earliestStart s l ≤ chosenStart s l c ∧ clear (chosenStart s l c) ∧
      ∀ start, earliestStart s l ≤ start → clear start → chosenStart s l c ≤ start := by
  intro clear
  have hs := scanFindsEarliestClearStart (conf s).guard (slotLength (legConf s l) .aid) (earliestStart s l) (exclusionList s l)
  simp only [clear, h]
  rw [chosenStart_aid h]
  exact hs

theorem earliest_le_chosenStart (s : State) (l : LegId) (c : Call) : earliestStart s l ≤ chosenStart s l c := by
  cases h : c.kind with
  | plain => exact (chosenStart_plain_spec h).1
  | aid => exact (chosenStart_aid_spec h).1

theorem place_startIn (s : State) (l : LegId) (c : Call) :
    (place s l c).startIn = if placedUrgent s l c then earliestStart s l else chosenStart s l c := rfl

theorem earliest_le_place (s : State) (l : LegId) (c : Call) : earliestStart s l ≤ (place s l c).startIn := by
  rw [place_startIn]
  split
  · exact Nat.le_refl _
  · exact earliest_le_chosenStart s l c

theorem placedUrgent_iff (s : State) (l : LegId) (c : Call) :
    placedUrgent s l c = true ↔ (legConf s l).maxWait ≤ c.waited ∨ latestStart s l c.waited < chosenStart s l c := by
  simp [placedUrgent]

/-- An aid call is urgent by its scan exactly where no start up to Smax is clear (R86). -/
theorem placedUrgent_spec (s : State) (l : LegId) (c : Call) :
    placedUrgent s l c = true ↔ (legConf s l).maxWait ≤ c.waited ∨
      (c.kind = .aid ∧ ∀ start, earliestStart s l ≤ start → start ≤ latestStart s l c.waited →
        ¬∀ x ∈ exclusionList s l, collides (conf s).guard (slotLength (legConf s l) c.kind) start x = false) := by
  rw [placedUrgent_iff]
  refine or_congr Iff.rfl ?_
  cases hk : c.kind with
  | plain =>
    have hle := (chosenStart_plain_spec (s := s) (l := l) hk).2.1
    exact iff_of_false (by omega) (by simp)
  | aid =>
    obtain ⟨hlow, hclear, hleast⟩ := chosenStart_aid_spec (s := s) (l := l) hk
    rw [hk] at hclear hleast
    refine ⟨fun hlate => ⟨rfl, fun start h1 h2 hc => ?_⟩, fun ⟨_, hno⟩ => ?_⟩
    · have := hleast start h1 hc
      omega
    · by_contra hlate
      exact hno _ hlow (by omega) hclear

/-- The bands of the list's entries that overlap the slot (R89). -/
def overlappedBands (s : State) (l : LegId) (start len : Nat) : List Nat :=
  ((exclusionList s l).filter fun x => decide (x.startIn < start + len) && decide (start < x.endIn)).map Excl.band

theorem mem_overlappedBands {s : State} {l : LegId} {start len band : Nat} :
    band ∈ overlappedBands s l start len ↔ ∃ x ∈ exclusionList s l, x.startIn < start + len ∧ start < x.endIn ∧ x.band = band := by
  simp [overlappedBands, and_assoc]

/-- The list's entry of the own other leg overlaps the slot and has the preferred band (R89). -/
def otherHasPreferred (s : State) (l : LegId) (start len : Nat) : Bool :=
  (ownExcl s l).any fun x => decide (x.startIn < start + len) && decide (start < x.endIn) && decide (x.band = (legConf s l).band)

theorem aidBand_eq (s : State) (l : LegId) (start len : Nat) :
    aidBand s l start len =
      if (legConf s l).band ∉ overlappedBands s l start len then (legConf s l).band
      else (lowestBand (overlappedBands s l start len)).getD
        (if otherHasPreferred s l start len then (lowestBand [(legConf s l).band]).getD (legConf s l).band else (legConf s l).band) := by
  unfold aidBand otherHasPreferred
  extract_lets xs used own other
  have hused : overlappedBands s l start len = used := rfl
  have hown : (legConf s l).band = own := rfl
  have hfree : (!used.contains own) = true ↔ own ∉ used := by simp
  have hother : (ownExcl s l).any (fun x => decide (x.startIn < start + len) && decide (start < x.endIn) && decide (x.band = own)) =
      other := by
    unfold other
    cases ownExcl s l <;> rfl
  rw [hused, hown, hother]
  by_cases h : own ∈ used
  · rw [if_neg (mt hfree.mp (not_not.mpr h)), if_neg (not_not.mpr h)]
    cases lowestBand used <;> rfl
  · rw [if_pos (hfree.mpr h), if_pos h]

theorem aidBand_preferred {s : State} {l : LegId} {start len : Nat} (h : (legConf s l).band ∉ overlappedBands s l start len) :
    aidBand s l start len = (legConf s l).band := by rw [aidBand_eq, if_pos h]

theorem aidBand_lowest {s : State} {l : LegId} {start len b : Nat} (h : (legConf s l).band ∈ overlappedBands s l start len)
    (hb : lowestBand (overlappedBands s l start len) = some b) : aidBand s l start len = b := by
  rw [aidBand_eq, if_neg (not_not.mpr h), hb, Option.getD_some]

theorem otherHasPreferred_iff (s : State) (l : LegId) (start len : Nat) :
    otherHasPreferred s l start len = true ↔ ∃ y, slotOf s (otherLeg l) = some y ∧ y.aid = true ∧ y.startIn < start + len ∧
      start < y.endIn ∧ y.band = (legConf s l).band := by
  unfold otherHasPreferred
  rw [Option.any_eq_true]
  constructor
  · rintro ⟨x, hx, hp⟩
    obtain ⟨y, hy, ha, -, rfl⟩ := ownExcl_eq_some.mp hx
    simp only [Bool.and_eq_true, decide_eq_true_eq] at hp
    exact ⟨y, hy, ha, hp.1.1, hp.1.2, hp.2⟩
  · rintro ⟨y, hy, ha, h1, h2, h3⟩
    exact ⟨_, ownExcl_eq_some.mpr ⟨y, hy, ha, Nat.zero_lt_of_lt h2, rfl⟩, by simp [h1, h2, h3]⟩

theorem lowestBand_other (own : Nat) : (lowestBand [own]).getD own = if own = 0 then 1 else 0 := by
  have h : lowestBand [own] = some (if own = 0 then 1 else 0) := by
    rw [lowestBand_eq_some]; split <;> simp <;> omega
  rw [h, Option.getD_some]

theorem aidBand_full {s : State} {l : LegId} {start len : Nat} (h : (legConf s l).band ∈ overlappedBands s l start len)
    (hb : lowestBand (overlappedBands s l start len) = none) :
    aidBand s l start len =
      if otherHasPreferred s l start len then (if (legConf s l).band = 0 then 1 else 0) else (legConf s l).band := by
  rw [aidBand_eq, if_neg (not_not.mpr h), hb, Option.getD_none, lowestBand_other]

theorem place_plain (s : State) (l : LegId) {c : Call} (h : c.kind = .plain) : (place s l c).band = (legConf s l).band := by
  simp only [place, h]

theorem place_aid (s : State) (l : LegId) {c : Call} (h : c.kind = .aid) :
    (place s l c).band = aidBand s l (place s l c).startIn (slotLength (legConf s l) c.kind) := by
  simp only [place, h]

/-- Settles O19: the start by `chosenStart_plain_spec` and `chosenStart_aid_spec`, the band by the three cases of R89. -/
theorem placementResult : Obligations.PlacementResult := by
  unfold Obligations.PlacementResult
  intro s l c b s0 latest len pref clear candidate inWindow used
  have hend : b.endIn = b.startIn + len := rfl
  have hurgent : b.urgent = placedUrgent s l c := rfl
  have hcand (t : Nat) : candidate t ↔ t ∈ couplingStarts s l := mem_couplingStarts.symm
  have hused (band : Nat) : used band ↔ band ∈ overlappedBands s l b.startIn len := mem_overlappedBands.symm
  refine ⟨rfl, fun x => ?_, rfl, by simp [b, place], rfl, ?_, fun hu => ?_, fun hu => ?_, fun hk => ?_, fun hk => ?_⟩
  · rw [mem_exclusionList, mem_foreignExcl, ownExcl_eq_some]
  · rw [hurgent]; exact placedUrgent_spec s l c
  · rw [hurgent] at hu
    exact (place_startIn s l c).trans (if_pos hu)
  · rw [hurgent] at hu
    have hstart : b.startIn = chosenStart s l c := (place_startIn s l c).trans (if_neg (by simp [hu]))
    have hlate : ¬latestStart s l c.waited < chosenStart s l c := fun h => by
      have := (placedUrgent_iff s l c).mpr (.inr h)
      rw [hu] at this; cases this
    rw [hstart]
    refine ⟨earliest_le_chosenStart s l c, Nat.not_lt.mp hlate, fun hk => ?_, fun hk => ?_⟩
    · obtain ⟨hlo, hhi, hleast, hnone⟩ := chosenStart_plain_spec (s := s) (l := l) hk
      refine ⟨fun t ht hw => ?_, fun hno => hnone fun t ht => hno t ((hcand t).mpr ht)⟩
      obtain ⟨hin, hle⟩ := hleast t ((hcand t).mp ht) hw.1 hw.2
      exact ⟨(hcand _).mpr hin, ⟨hlo, hhi⟩, hle⟩
    · obtain ⟨-, hclear, hleast⟩ := chosenStart_aid_spec (s := s) (l := l) hk
      exact ⟨hclear, hleast⟩
  · exact place_plain s l hk
  · rw [show b.band = aidBand s l b.startIn len from place_aid s l hk]
    refine ⟨fun h => aidBand_preferred fun hm => h ((hused _).mpr hm), fun h band h6 hfree hlow => ?_, fun h hall => ?_⟩
    · exact aidBand_lowest ((hused _).mp h) (lowestBand_eq_some.mpr
        ⟨h6, fun hm => hfree ((hused _).mpr hm), fun j hj => (hused j).mp (hlow j hj)⟩)
    · rw [aidBand_full ((hused _).mp h) (lowestBand_eq_none.mpr fun j hj => (hused j).mp (hall j hj))]
      exact ⟨fun ho => if_pos ((otherHasPreferred_iff ..).mpr ho), fun ho => if_neg fun hm => ho ((otherHasPreferred_iff ..).mp hm)⟩

end Sys2Proof.Machine
end

section
/-! Buttons, the decisecond tick and the countdowns of a leg (R21 to R25, R37, R122, R135). -/

namespace Sys2Proof.Machine

/-! ### The Button Front End (R21 to R25) -/

theorem sampleButton_released {s : State} {l : LegId} {k : Side} (h : (buttonOf s l k).input = .released) (high : Bool) :
    sampleButton l k high s =
      if high then
        if 3 ≤ (buttonOf s l k).pressCount then declarePress l k s else updButton l k (fun b => { b with pressCount := b.pressCount + 1 }) s
      else updButton l k (fun b => { b with pressCount := 0 }) s := by
  simp only [sampleButton, h]

theorem sampleButton_down {s : State} {l : LegId} {k : Side} (h : (buttonOf s l k).input ≠ .released) (high : Bool) :
    sampleButton l k high s =
      if high then updButton l k (fun b => { b with releaseCount := 0 }) s
      else if 3 ≤ (buttonOf s l k).releaseCount then declareRelease l k s
      else updButton l k (fun b => { b with releaseCount := b.releaseCount + 1 }) s := by
  unfold sampleButton
  cases hi : (buttonOf s l k).input with
  | released => exact absurd hi h
  | held | stuck => simp only [hi]

theorem exec_buttonSample {s : State} (hr : s.resetHeld = false) {l : LegId} (hs : served s l = true) (k : Side) (high : Bool) :
    exec (.buttonSample l k high) s = .next (settle (sampleButton l k high (later s))) := exec_event hr rfl rfl hs

theorem releaseReady_of {s : State} {l : LegId} {k : Side} (hs : served s l = true) (hi : (buttonOf s l k).input ≠ .released)
    (hn : (buttonOf s l k).releaseCount = 3) : releaseReady s l k = true := by simp [releaseReady, hs, hi, hn]

theorem pressReady_of {s : State} {l : LegId} {k : Side} (hs : served s l = true) (hi : (buttonOf s l k).input = .released)
    (hn : (buttonOf s l k).pressCount = 3) : pressReady s l k = true := by simp [pressReady, hs, hi, hn]

/-- Settles O9: each sample by the input's state and its count. -/
theorem buttonSamplesCount : Obligations.ButtonSamplesCount := by
  unfold Obligations.ButtonSamplesCount
  intro l k s hr hs
  refine ⟨fun hi => ?_, fun hi => ?_⟩
  · have hsample (high : Bool) := (exec_buttonSample hr hs k high).trans (congrArg (fun t => Host.Outcome.next (settle t))
      (sampleButton_released (s := later s) hi high))
    rw [hsample, hsample, buttonOf_later, if_pos rfl]
    refine ⟨rfl, fun hn => ?_, fun hn => ⟨?_, exec_event (c := .pressDeclared l k) hr rfl rfl (pressReady_of hs hi hn)⟩⟩
    · rw [if_neg (Nat.not_le.mpr hn)]; rfl
    · rw [if_pos (Nat.le_of_eq hn.symm)]; rfl
  · have hsample (high : Bool) := (exec_buttonSample hr hs k high).trans (congrArg (fun t => Host.Outcome.next (settle t))
      (sampleButton_down (s := later s) hi high))
    rw [hsample, hsample, buttonOf_later, if_pos rfl, if_neg Bool.false_ne_true]
    refine ⟨rfl, fun hn => ?_⟩
    rw [if_neg (Nat.not_le.mpr hn)]; rfl

/-- A release with neither an aid classification nor a stuck mark of the same instant (R23). -/
theorem declareRelease_plain {s : State} {l : LegId} {k : Side} (ha : aidReached s l k = false) (hs : stuckReached s l k = false) :
    declareRelease l k s =
      if (buttonOf s l k).input = .held ∧ (buttonOf s l k).classified = false then press l k .plain (withButton l k Button.atStart s)
      else withButton l k Button.atStart s := by
  unfold declareRelease
  simp only [ha, hs, Bool.false_eq_true, if_false, Bool.and_eq_true, decide_eq_true_eq, Bool.not_eq_true']
  rfl

theorem aidReached_iff (s : State) (l : LegId) (k : Side) :
    aidReached s l k = true ↔ served s l = true ∧ (buttonOf s l k).input = .held ∧ (buttonOf s l k).classified = false ∧
      (conf s).aidHold ≤ (buttonOf s l k).heldTime := by simp [aidReached, and_assoc]

theorem stuckReached_iff (s : State) (l : LegId) (k : Side) :
    stuckReached s l k = true ↔ served s l = true ∧ (buttonOf s l k).input = .held ∧ 600 ≤ (buttonOf s l k).heldTime := by
  simp [stuckReached, and_assoc]

/-- Settles O10: a release by `declareRelease_plain`, the other two marks by their conditions. -/
theorem releaseAidAndStuck : Obligations.ReleaseAidAndStuck := by
  unfold Obligations.ReleaseAidAndStuck
  intro l k s hr hs b released
  have hready (hn : b.releaseCount = 3) (hi : b.input ≠ .released) :
      exec (.releaseDeclared l k) s = .next (settle (declareRelease l k (later s))) :=
    exec_event hr rfl rfl (releaseReady_of hs hi hn)
  have haid (h : b.input ≠ .held ∨ b.classified = true ∨ b.heldTime < (conf s).aidHold) : aidReached (later s) l k = false := by
    rw [← Bool.not_eq_true, aidReached_iff]
    rintro ⟨-, hi, hc, ht⟩
    rcases h with h | h | h
    · exact h hi
    · exact Bool.false_ne_true (hc.symm.trans h)
    · exact Nat.not_le.mpr h ht
  have hstuck (h : b.input ≠ .held ∨ b.heldTime < 600) : stuckReached (later s) l k = false := by
    rw [← Bool.not_eq_true, stuckReached_iff]
    rintro ⟨-, hi, ht⟩
    rcases h with h | h
    · exact h hi
    · exact Nat.not_le.mpr h ht
  refine ⟨fun hn => ⟨fun hi => ?_, fun h => ?_, fun hi hc h1 h2 => ?_⟩, fun hi hc ht => ?_, fun hi ht => ?_⟩
  · rw [hready hn hi, exec_buttonSample hr hs, sampleButton_down (s := later s) hi, if_neg Bool.false_ne_true, buttonOf_later,
      if_pos (Nat.le_of_eq hn.symm)]
  · have hne : b.input ≠ .released := by rcases h with h | ⟨h, -⟩ <;> rw [h] <;> decide
    have hnot : ¬(b.input = .held ∧ b.classified = false) := by
      rintro ⟨hi, hc⟩
      rcases h with h | ⟨-, h, -⟩
      · exact absurd (hi.symm.trans h) (by decide)
      · exact Bool.false_ne_true (hc.symm.trans h)
    have ha := haid (h.imp (fun h => by rw [h]; decide) fun h => .inl h.2.1)
    have hst := hstuck (h.imp (fun h => by rw [h]; decide) fun h => h.2.2)
    rw [hready hn hne, declareRelease_plain ha hst, buttonOf_later, if_neg hnot]; rfl
  · rw [hready hn (by rw [hi]; decide), declareRelease_plain (haid (.inr (.inr h1))) (hstuck (.inr h2)), buttonOf_later, if_pos ⟨hi, hc⟩]
    rfl
  · exact exec_expiry (c := .aidClassification l k) hr rfl ((aidReached_iff s l k).mpr ⟨hs, hi, hc, Nat.le_of_eq ht.symm⟩)
  · exact exec_expiry (c := .stuck l k) hr rfl ((stuckReached_iff s l k).mpr ⟨hs, hi, Nat.le_of_eq ht.symm⟩)

/-! ### Countdowns that reload or stop -/

/-- Settles O12: each is the expiry of a running countdown at 0. -/
theorem countdownsReloadOrStop : Obligations.CountdownsReloadOrStop := by
  unfold Obligations.CountdownsReloadOrStop
  intro l k s hr
  exact ⟨fun h => exec_expiry (c := .blinkExpiry l) hr rfl ((Countdown.due_iff _).mpr h),
    fun h => exec_expiry (c := .flashCountdownExpiry l) hr rfl ((Countdown.due_iff _).mpr h),
    fun h => exec_expiry (c := .minGreenExpiry l) hr rfl ((Countdown.due_iff _).mpr h),
    fun h => exec_expiry (c := .envelopeStep l k) hr rfl ((Countdown.due_iff _).mpr h),
    fun h => exec_expiry (c := .stalenessExpiry l k) hr rfl ((Countdown.due_iff _).mpr h)⟩

/-! ### The decisecond tick -/

theorem buttonOf_tick (s : State) (l : LegId) (k : Side) : buttonOf (tick s) l k = tickButton (buttonOf s l k) := by
  simp [buttonOf, tick, stepCounts, elapseToTick, elapse]

theorem kerbOf_tick (s : State) (l : LegId) (k : Side) :
    kerbOf (tick s) l k = tickKerb (elapseKerb (decisecond - s.sinceTick) (kerbOf s l k)) := by
  simp [kerbOf, tick, stepCounts, elapseToTick, elapse]

theorem ambientOf_tick (s : State) (l : LegId) (k : Side) : ambientOf (tick s) l k = tickAmbient (ambientOf s l k) := by
  simp [ambientOf, tick, stepCounts, elapseToTick, elapse]

theorem tickButton_eq (b : Button) :
    tickButton b = { b with heldTime := if b.input = .held ∧ b.heldTime < 600 then b.heldTime + 1 else b.heldTime } := by
  unfold tickButton; split <;> rfl

/-- Settles O50: `stepCounts` block by block, after the rest of the decisecond has passed. -/
theorem tickStepsEveryCount : Obligations.TickStepsEveryCount := by
  unfold Obligations.TickStepsEveryCount
  intro s hr
  have hexec : exec .decisecondTick s = .next (settle (tick (later s))) := exec_event hr rfl rfl rfl
  refine ⟨_, _, hexec, rfl, ?_⟩
  intro step stepSlot rest pass
  refine ⟨rfl, rfl, fun l => ?_, fun l k => ?_, fun l => ?_, fun l => ?_, rfl, rfl, rfl, fun l i => ?_, fun l k => ?_, fun l k => ?_,
    fun l => ?_, ?_, ?_⟩
  · exact Legs.get_map ..
  · rw [buttonOf_tick, tickButton_eq]; rfl
  · exact Legs.get_map ..
  · refine (Legs.get_map ..).trans ?_
    have hdeferred (ds : List Deferred) : ds.map tickDeferred = ds.map fun d =>
        match d with
        | .frame c => .frame { c with slot := stepSlot c.slot }
        | .upgrade => .upgrade := List.map_congr_left fun d _ => by cases d <;> rfl
    rw [tickSlotRec, hdeferred]; rfl
  · rw [lampRec_tick]; rfl
  · rw [ambientOf_tick]; rfl
  · rw [kerbOf_tick]; rfl
  · exact Legs.get_map ..
  · change s.sinceTick + (decisecond - s.sinceTick) - decisecond = s.sinceTick - 800
    rw [decisecond, ms]; omega
  · exact (ChangesOnly.refl _ s).trans (.after tick_touches (by decide) (later_touches.widen rfl s))

end Sys2Proof.Machine
end

section
/-! The service cycle (R6 to R11), the ends of slots and contests (R76, R98) and the end of LISTEN (R161). -/

namespace Sys2Proof.Machine

/-! ### Reads after an event has settled -/

@[simp] theorem settle_legs (s : State) : (settle s).legs = s.legs := settle_same .legs (by decide)
@[simp] theorem settle_calls (s : State) : (settle s).calls = s.calls := settle_same .calls (by decide)
@[simp] theorem settle_slots (s : State) : (settle s).slots = s.slots := settle_same .slots (by decide)
@[simp] theorem settle_kerbs (s : State) : (settle s).kerbs = s.kerbs := settle_same .kerbs (by decide)
@[simp] theorem settle_links (s : State) : (settle s).links = s.links := settle_same .links (by decide)
@[simp] theorem settle_table (s : State) : (settle s).table = s.table := settle_same .table (by decide)
@[simp] theorem settle_heard (s : State) : (settle s).heard = s.heard := settle_same .heard (by decide)
@[simp] theorem settle_mode (s : State) : (settle s).mode = s.mode := settle_same .mode (by decide)
@[simp] theorem settle_cause (s : State) : (settle s).cause = s.cause := settle_same .cause (by decide)
@[simp] theorem settle_isolation (s : State) : (settle s).isolation = s.isolation := settle_same .isolation (by decide)
@[simp] theorem settle_join (s : State) : (settle s).join = s.join := settle_same .join (by decide)
@[simp] theorem settle_ambient (s : State) : (settle s).ambient = s.ambient := settle_same .ambient (by decide)
@[simp] theorem callOf_settle (s : State) (l : LegId) : callOf (settle s) l = callOf s l := by rw [callOf, settle_calls, callOf]
@[simp] theorem slotOf_settle (s : State) (l : LegId) : slotOf (settle s) l = slotOf s l := by rw [slotOf, settle_slots, slotOf]

/-- What an expiry may change: the parts of its effect, and what settles; the instant stays. -/
theorem expired_changes {c : Instr} (s : State) {ps : List Part}
    (hs : partsWithin ([.hold, .lamps] ++ (settledByEffect c ++ commandParts c)) ps = true) :
    ChangesOnly ps s (settle (effect c s)) :=
  (ChangesOnly.after settle_touches (by simp) ((effect_touches c s).mono (by simp_all))).mono (mem_of_partsWithin hs)

/-! ### Interval expiries -/

theorem intervalDone_of {s : State} {l : LegId} {st : LegState} (hst : legState s l = st)
    (hi : (s.legs.get l).interval = { running := true, count := 0 }) : intervalDone s l st = true := by
  simp [intervalDone, hst, hi, Countdown.due]

theorem startIsNear_iff {s : State} {l : LegId} {x : Slot} (h : slotOf s l = some x) :
    startIsNear s l = true ↔ x.startIn ≤ (legConf s l).amber + (legConf s l).rin := by
  simp [startIsNear, h]

/-- Settles O13: both expiries change the leg's record alone. -/
theorem amberEntryAndExpiry : Obligations.AmberEntryAndExpiry := by
  unfold Obligations.AmberEntryAndExpiry
  intro l s hr
  refine ⟨fun x hst hx hn => ?_, fun hst hi => ⟨fun hc => ?_, fun hc => ?_⟩⟩
  · exact exec_expiry (c := .startNear l) hr rfl (by simp [occurs, hst, (startIsNear_iff hx).mpr hn])
  · rw [exec_expiry (c := .amberExpiry l) hr rfl (intervalDone_of hst hi)]
    exact congrArg (fun t => Host.Outcome.next (settle t)) (if_neg (by simp [hc]))
  · rw [exec_expiry (c := .amberExpiry l) hr rfl (intervalDone_of hst hi)]
    exact congrArg (fun t => Host.Outcome.next (settle t)) (if_pos hc)

/-! ### The queue of a leg -/

theorem enqueueLeg_line {s : State} {k : LegReq} (h : acceptsLeg s k = true) (l : LegId) :
    enqueueLeg l k s = { s with line := { s.line with queue := { s.line.queue with
      legs := s.line.queue.legs.set l (some { kind := k, stamp := s.clock, sending := false }) } } } := if_pos h

theorem enqueueLeg_refused {s : State} {k : LegReq} (h : acceptsLeg s k = false) (l : LegId) : enqueueLeg l k s = s :=
  if_neg (by simp [h])

theorem enqueueLeg_get {s : State} {k : LegReq} (h : acceptsLeg s k = true) (l : LegId) :
    (enqueueLeg l k s).line.queue.legs.get l = some { kind := k, stamp := s.clock, sending := false } := by
  rw [enqueueLeg_line h]; exact Legs.get_set_self ..

theorem withdraw_queue {s : State} {l : LegId} (hx : (slotOf s l).isSome = true) (ha : acceptsAny s = true) :
    (withdraw l s).line.queue.legs.get l = some { kind := .cede, stamp := s.clock, sending := false } := by
  rw [withdraw, if_pos hx]
  exact enqueueLeg_get (s := removeSlot l s) (k := .cede) ha l

theorem withdraw_slots (l : LegId) (s : State) :
    slotOf (withdraw l s) l = none ∧ (withdraw l s).slots.get (otherLeg l) = s.slots.get (otherLeg l) := by
  have hs : (enqueueLeg l .cede (removeSlot l s)).slots = (removeSlot l s).slots := enqueueLeg_touches l .cede _ .slots (by decide)
  unfold withdraw
  split
  · rw [slotOf, hs]; simp [removeSlot, SlotRec.removeSlot]
  · next h => exact ⟨by simpa using h, rfl⟩

/-! ### A beep is cut at a plain walk (R127) -/

theorem cutBeep_eq (l : LegId) (k : Side) (s : State) :
    cutBeep l k s = if (kerbOf s l k).beep ≠ .none then stopKerb l k s else s := rfl

theorem cutBeep_pattern (l m : LegId) (k j : Side) (s : State) : (kerbOf (cutBeep l k s) m j).pattern = (kerbOf s m j).pattern := by
  rw [cutBeep_eq]
  split
  · rw [stopKerb_eq, kerbOf_sendWords, kerbOf_updKerb]
    split
    · next h => rw [h.1, h.2]; rfl
    · rfl
  · rfl

theorem cutBeep_other (l : LegId) (k : Side) (s : State) : (cutBeep l k s).kerbs.get (otherLeg l) = s.kerbs.get (otherLeg l) := by
  rw [cutBeep_eq]
  split
  · rw [stopKerb_eq, kerbs_sendWords, kerbs_updKerb_other]
  · rfl

/-! ### ALL_RED_IN ends (R9) -/

/-- The walk length (R9). -/
def walkLengthOf (s : State) (l : LegId) : Nat := if slotIsAid s l then (legConf s l).walk + (legConf s l).ext else (legConf s l).walk

/-- The leg, its call and its slot at the start of a walk, the kerbs left as they are (R9). -/
def walkBegun (l : LegId) (s : State) : State :=
  { s with
    legs := s.legs.upd l (fun r => { r with
      state := .walk, interval := .load (walkLengthOf s l), walkElapsed := 0, walkLength := walkLengthOf s l, walkAid := slotIsAid s l })
    calls := s.calls.upd l (fun r => { r with call := none, blink := r.blink.freeze })
    slots := s.slots.upd l (fun r => SlotRec.untell { r with slot := r.slot.map fun x =>
      { x with stage := .running, startIn := 0, endIn := walkLengthOf s l + (legConf s l).clear } }) }

theorem startWalk_eq (l : LegId) (s : State) :
    startWalk l s =
      if slotIsAid s l then changePattern l .walk (walkBegun l s) else cutBeep l .b (cutBeep l .a (walkBegun l s)) := by
  have hslots : (walkStartReported l (walkLengthOf s l) (removeCall l (updLeg l (fun r => { r with
      state := .walk, interval := .load (walkLengthOf s l), walkElapsed := 0, walkLength := walkLengthOf s l, walkAid := slotIsAid s l })
      s))) = walkBegun l s := by
    simp only [walkStartReported, onSlot, updSlot, removeCall, updCall, updLeg, walkBegun, Legs.upd, Legs.get_set_self, Legs.set_set]
    rfl
  unfold startWalk
  exact congrArg (fun u => if slotIsAid s l then changePattern l .walk u else cutBeep l .b (cutBeep l .a u)) hslots

theorem startWalk_touches_kerbs (l : LegId) (s : State) : ChangesOnly [.kerbs, .links] (walkBegun l s) (startWalk l s) := by
  rw [startWalk_eq]
  exact .ite (changePattern_touches l .walk _) (.after (cutBeep_touches l .b) (by decide) (cutBeep_touches l .a _))

/-- The kerbs at the start of a walk: an aid walk takes WALK, a plain one stays (R9, R119). -/
theorem startWalk_pattern {l : LegId} {s : State} (h : ∀ k, (kerbOf s l k).pattern = .locator) (k : Side) :
    (kerbOf (startWalk l s) l k).pattern = if slotIsAid s l then .walk else .locator := by
  rw [startWalk_eq]
  have ha : ((walkBegun l s).kerbs.get l).a.pattern ≠ .walk := by
    rw [show ((walkBegun l s).kerbs.get l).a.pattern = _ from h .a]; decide
  split
  · exact changePattern_pattern (by decide) ha k
  · rw [cutBeep_pattern, cutBeep_pattern]; exact h k

theorem startWalk_other (l : LegId) (s : State) : (startWalk l s).kerbs.get (otherLeg l) = s.kerbs.get (otherLeg l) := by
  rw [startWalk_eq]
  split
  · exact (changePattern_other l (by decide) _).1
  · rw [cutBeep_other, cutBeep_other]; rfl

theorem enterAllRedOut_leg (l : LegId) (s : State) :
    (enterAllRedOut l s).legs.get l = { s.legs.get l with state := .allRedOut, interval := .load (legConf s l).rout,
                                                          flash := (s.legs.get l).flash.freeze } := Legs.get_upd_self ..

theorem walkLengthOf_eq (s : State) (l : LegId) :
    walkLengthOf s l = (legConf s l).walk + (if (slotOf s l).any Slot.aid then (legConf s l).ext else 0) := by
  unfold walkLengthOf slotIsAid; split <;> simp

/-- ALL_RED_IN expiry leaves the other leg's records alone. -/
theorem allRedInDone_other (l : LegId) (s : State) :
    let t := allRedInDone l s
    let o := otherLeg l
    t.legs.get o = s.legs.get o ∧ t.calls.get o = s.calls.get o ∧ t.slots.get o = s.slots.get o ∧ t.kerbs.get o = s.kerbs.get o := by
  intro t o
  by_cases hw : mayWalk s = true
  · have ht : t = startWalk l s := if_pos hw
    have hbegun := startWalk_touches_kerbs l s
    rw [ht, hbegun .legs (by decide), hbegun .calls (by decide), hbegun .slots (by decide)]
    exact ⟨Legs.get_upd_other .., Legs.get_upd_other .., Legs.get_upd_other .., startWalk_other l s⟩
  · have ht : t = skipWalk l s := if_neg hw
    have hskip := withdraw_touches l (enterAllRedOut l s)
    rw [ht, skipWalk, hskip .legs (by decide), hskip .calls (by decide), hskip .kerbs (by decide)]
    exact ⟨Legs.get_upd_other .., rfl, (withdraw_slots l _).2, rfl⟩

/-- Settles O14: a walk by `startWalk_eq`, a skip by `withdraw`; the other leg's records are those of another index. -/
theorem allRedInExpiryWalksOrSkips : Obligations.AllRedInExpiryWalksOrSkips := by
  unfold Obligations.AllRedInExpiryWalksOrSkips
  intro l s hr hst hi hk aid len
  have hexec := exec_expiry (c := .allRedInExpiry l) hr rfl (intervalDone_of hst hi)
  have hlen : walkLengthOf s l = len := walkLengthOf_eq s l
  have hbegun := startWalk_touches_kerbs l s
  have hlegs : (startWalk l s).legs = (walkBegun l s).legs := hbegun .legs (by decide)
  have hcalls : (startWalk l s).calls = (walkBegun l s).calls := hbegun .calls (by decide)
  have hslots : (startWalk l s).slots = (walkBegun l s).slots := hbegun .slots (by decide)
  have hskip := withdraw_touches l (enterAllRedOut l s)
  refine ⟨_, hexec, fun hm hh => ?_, fun hno => ?_, ?_⟩
  · have hdone : allRedInDone l s = startWalk l s := if_pos ((mayWalk_iff s).mpr ⟨hm, hh⟩)
    simp only [effect, hdone, settle_legs, callOf_settle, slotOf_settle, kerbOf_settle, settle_line]
    refine ⟨?_, ?_, ?_, startWalk_pattern hk, hbegun .line (by decide)⟩
    · rw [hlegs, ← hlen]; exact Legs.get_upd_self ..
    · rw [callOf, hcalls]; exact congrArg CallRec.call (Legs.get_upd_self ..)
    · rw [slotOf, hslots, ← hlen]; exact congrArg SlotRec.slot (Legs.get_upd_self ..)
  · have hdone : allRedInDone l s = skipWalk l s := if_neg fun h => hno ((mayWalk_iff s).mp h)
    simp only [effect, hdone, settle_legs, callOf_settle, slotOf_settle, settle_kerbs, settle_line]
    refine ⟨?_, ?_, (withdraw_slots l _).1, hskip .kerbs (by decide), fun hx ha => ?_⟩
    · rw [skipWalk, hskip .legs (by decide)]; exact enterAllRedOut_leg l s
    · rw [skipWalk, callOf, hskip .calls (by decide)]; rfl
    · exact withdraw_queue (s := enterAllRedOut l s) hx ha
  · simp only [settle_legs, settle_calls, settle_slots, settle_kerbs]
    obtain ⟨h1, h2, h3, h4⟩ := allRedInDone_other l s
    exact ⟨h1, h2, h3, h4, expired_changes s rfl⟩

/-! ### WALK, CLEARANCE and ALL_RED_OUT end (R10, R11) -/

/-- The leg at the start of its clearance, the kerbs left as they are (R10). -/
def clearing (l : LegId) (s : State) : State :=
  withLeg l { s.legs.get l with
    state := .clearance, interval := .load (if (s.legs.get l).clearanceCut then (legConf s l).kp else (legConf s l).clear),
    clearanceCut := false, flashOn := true, flash := .load 5 } s

theorem enterClearance_eq (l : LegId) (s : State) :
    enterClearance l s = if (s.legs.get l).walkAid then changePattern l .clearance (clearing l s) else clearing l s := rfl

theorem enterClearance_touches_kerbs (l : LegId) (s : State) : ChangesOnly [.kerbs, .links] (clearing l s) (enterClearance l s) := by
  rw [enterClearance_eq]
  exact .ite (changePattern_touches l .clearance _) (.refl _ _)

theorem enterClearance_other (l : LegId) (s : State) : (enterClearance l s).kerbs.get (otherLeg l) = s.kerbs.get (otherLeg l) := by
  rw [enterClearance_eq]
  split
  · exact (changePattern_other l (by decide) _).1
  · rfl

/-- The kerbs of a leg on one pattern take another, or have it already. -/
theorem changePattern_patterns {l : LegId} {p q : Pattern} {s : State} (hq : q ≠ .silent) (hk : ∀ k, (kerbOf s l k).pattern = p) (k : Side) :
    (kerbOf (changePattern l q s) l k).pattern = q := by
  by_cases ha : (s.kerbs.get l).a.pattern = q
  · rw [changePattern, if_pos ha, hk k, ← hk .a]; exact ha
  · exact changePattern_pattern hq ha k

/-- Settles O15: the leg's record is set, and the pattern of its kerbs changed. -/
theorem walkAndClearanceExpiry : Obligations.WalkAndClearanceExpiry := by
  unfold Obligations.WalkAndClearanceExpiry
  intro l p s hr hi hk
  refine ⟨fun hst => ⟨_, exec_expiry (c := .walkExpiry l) hr rfl (intervalDone_of hst hi), ?_⟩,
    fun hst => ⟨_, exec_expiry (c := .clearanceExpiry l) hr rfl (intervalDone_of hst hi), ?_⟩⟩
  · simp only [effect, settle_legs, settle_kerbs, kerbOf_settle]
    have hlegs : (enterClearance l s).legs = (clearing l s).legs := enterClearance_touches_kerbs l s .legs (by decide)
    refine ⟨?_, fun k => ?_, ?_, enterClearance_other l s, expired_changes (c := .walkExpiry l) s rfl⟩
    · rw [hlegs]; exact Legs.get_set_self ..
    · rw [enterClearance_eq]
      split
      · exact changePattern_patterns (q := .clearance) (s := clearing l s) (by decide) (p := p) hk k
      · exact hk k
    · rw [hlegs]; exact Legs.get_set_other ..
  · simp only [effect, settle_legs, settle_kerbs, settle_slots, kerbOf_settle, slotOf_settle]
    have htouch := changePattern_touches l .locator (enterAllRedOut l s)
    refine ⟨?_, fun k => ?_, ?_, ?_, ?_, ?_, expired_changes (c := .clearanceExpiry l) s rfl⟩
    · rw [clearanceDone, removeSlot, updSlot_legs, htouch .legs (by decide)]; exact enterAllRedOut_leg l s
    · exact changePattern_patterns (q := .locator) (s := enterAllRedOut l s) (by decide) (p := p) hk k
    · rw [slotOf, clearanceDone, removeSlot, updSlot_slots, Legs.get_upd_self]; rfl
    · rw [clearanceDone, removeSlot, updSlot_legs, htouch .legs (by decide)]; exact Legs.get_upd_other ..
    · exact (changePattern_other l (p := .locator) (by decide) (enterAllRedOut l s)).1
    · rw [clearanceDone, removeSlot, updSlot_slots, Legs.get_upd_other, htouch .slots (by decide)]; rfl

/-! ### Placement at once in ISOLATED (R79, R94) -/

/-- A placement starts no sooner than A + Rin and the contest time from now, so that the leg committed by it is not yet near its start. -/
theorem not_near_of_placed {s t : State} {l : LegId} {c : Call} {g : Stage} (hx : slotOf t l = some (slotOfBid (place s l c) g))
    (hc : legConf t l = legConf s l) : startIsNear t l = false := by
  rw [← Bool.not_eq_true, startIsNear_iff hx, hc]
  have hle := earliest_le_place s l c
  have hmin : 5 + (legConf s l).amber + (legConf s l).rin ≤ earliestStart s l := by
    simp only [earliestStart, contestTime]; omega
  change ¬(place s l c).startIn ≤ _
  omega

theorem startIsNear_withLeg (l m : LegId) (r : LegRec) (s : State) : startIsNear (withLeg l r s) m = startIsNear s m := rfl

/-- A leg that takes a commit before its start is near (R6). -/
theorem takeCommit_far {s : State} {l : LegId} (h : legState s l = .claimed ∨ (legState s l = .called ∧ s.mode = .isolated))
    (hn : startIsNear s l = false) : takeCommit l s = withLeg l { s.legs.get l with state := .committed } s := by
  have hnear : startIsNear (updLeg l (fun r => { r with state := .committed }) s) l ≠ true := by
    rw [show startIsNear (updLeg l (fun r => { r with state := .committed }) s) l = startIsNear s l from rfl, hn]; decide
  rw [takeCommit, if_pos h, if_neg hnear]; rfl

/-- A leg that takes a commit with its start near goes on to AMBER in the same event (R6, R7). -/
theorem takeCommit_near {s : State} {l : LegId} (h : legState s l = .claimed ∨ (legState s l = .called ∧ s.mode = .isolated))
    (hn : startIsNear s l = true) :
    takeCommit l s = withLeg l { s.legs.get l with state := .amber, minGreen := .stopped, interval := .load (legConf s l).amber } s := by
  have hnear : startIsNear (updLeg l (fun r => { r with state := .committed }) s) l = true := hn
  rw [takeCommit, if_pos h, if_pos hnear]
  simp only [amberEntry, updLeg, Legs.upd, Legs.get_set_self, Legs.set_set, withLeg]
  rfl

/-- A leg placed in ISOLATED, its slot set and the flag raised, before it takes the commit. -/
def placed (l : LegId) (c : Call) (s : State) : State :=
  { s with
    slots := s.slots.set l { s.slots.get l with slot := some (slotOfBid (place s l c) .committed), contest := .stopped, challengers := [] }
    port := if (place s l c).urgent then { s.port with flags := s.port.flags ||| flagBit .urgent } else s.port }

/-- In ISOLATED a leg in CALLED is placed and committed, with URGENT where the placement is urgent (R94). -/
theorem placeIsolated_eq {s : State} {l : LegId} {c : Call} (hm : s.mode = .isolated) (hst : legState s l = .called)
    (hc : callOf s l = some c) : placeIsolated l s = withLeg l { s.legs.get l with state := .committed } (placed l c s) := by
  have hflag : setFlagIf (place s l c).urgent .urgent (updSlot l (fun r => { r with
      slot := some (slotOfBid (place s l c) .committed), contest := .stopped, challengers := [] }) s) = placed l c s := by
    unfold setFlagIf placed
    split <;> rfl
  unfold placeIsolated
  rw [hc]
  dsimp only
  rw [if_pos hst, hflag]
  refine takeCommit_far (.inr ⟨hst, hm⟩) (not_near_of_placed (s := s) (c := c) (g := .committed) ?_ rfl)
  simp [slotOf, placed]

/-! ### ALL_RED_OUT ends (R11) -/

/-- The record of a leg that leaves ALL_RED_OUT for the green state g (R11). -/
def greenLeg (s : State) (l : LegId) (g : LegState) : LegRec :=
  { s.legs.get l with state := g, interval := .stopped, walkCancelled := false, minGreen := .load (legConf s l).gmin }

theorem allRedOutDone_eq {s : State} {l : LegId} {g : LegState} (h : greenState s l = g) :
    allRedOutDone l s = if g = .called then reportEligible l (withLeg l (greenLeg s l g) s) else withLeg l (greenLeg s l g) s := by
  subst h; rfl

theorem reportEligible_isolated {s : State} (h : s.mode = .isolated) (l : LegId) : reportEligible l s = placeIsolated l s := if_pos h

theorem reportEligible_queues {s : State} (h : s.mode ≠ .isolated) (l : LegId) : reportEligible l s = enqueueLeg l .bid s := if_neg h

/-- Settles O16: the green state by R11, and the slot that a leg in CALLED asks for. -/
theorem allRedOutExpiryChoosesGreen : Obligations.AllRedOutExpiryChoosesGreen := by
  unfold Obligations.AllRedOutExpiryChoosesGreen
  intro l s hr hst hi green
  have hexec {g : LegState} (h : greenState s l = g) := (exec_expiry (c := .allRedOutExpiry l) hr rfl (intervalDone_of hst hi)).trans
    (congrArg (fun t => Host.Outcome.next (settle t)) (allRedOutDone_eq h))
  refine ⟨fun hh => hexec (if_pos hh), fun hh hc => hexec (g := .rest) (by simp [greenState, hh, hc]), fun c hh hc => ?_⟩
  have hcalled := (hexec (g := .called) (by simp [greenState, hh, hc])).trans
    (congrArg (fun t => Host.Outcome.next (settle t)) (if_pos rfl))
  rw [hcalled]
  refine ⟨fun hm => ?_, fun hm => ?_⟩
  · rw [reportEligible_queues (s := withLeg l (greenLeg s l .called) s) hm]; rfl
  · have hstate : legState (withLeg l (greenLeg s l .called) s) l = .called := by simp [legState, withLeg, greenLeg]
    rw [reportEligible_isolated (s := withLeg l (greenLeg s l .called) s) hm,
      placeIsolated_eq (s := withLeg l (greenLeg s l .called) s) (c := c) hm hstate hc]
    refine ⟨_, rfl, ?_, ?_, ?_, settle_line _⟩
    · rw [legState_settle]; simp [legState, withLeg]
    · rw [slotOf_settle]; simp [slotOf, withLeg, placed]; rfl
    · rw [settle_legs]; simp [withLeg, greenLeg]; rfl

/-! ### Slots end, contests are won (R76, R96, R98) -/

/-- The slot's record once its contest is won (R98). -/
def SlotRec.won (r : SlotRec) : SlotRec :=
  { r with
    slot := r.slot.map fun x => { x with stage := .committed }
    contest := .stopped
    challengers := r.challengers.map fun c => { c with told := false } }

/-- The slot is committed, and its KEEP queued where it has challengers; the leg has not taken the commit yet. -/
def wonSlot (l : LegId) (s : State) : State :=
  let w := { s with slots := s.slots.set l (s.slots.get l).won }
  if (s.slots.get l).challengers = [] then w else enqueueLeg l .keep w

theorem contestWon_eq (l : LegId) (s : State) : contestWon l s = takeCommit l (wonSlot l s) := by
  unfold contestWon wonSlot
  cases hc : (s.slots.get l).challengers with
  | nil => simp [onSlot, updSlot, Legs.upd, SlotRec.won, hc]
  | cons c cs => simp [onSlot, updSlot, Legs.upd, SlotRec.won, SlotRec.untell, hc]

theorem wonSlot_touches (l : LegId) : Touches [.slots, .line] (wonSlot l) := by
  intro s
  have h : ChangesOnly [.slots, .line] s { s with slots := s.slots.set l (s.slots.get l).won } :=
    (setSlots_touches (fun x => x.set l (x.get l).won)).mono (by decide) s
  exact .ite h (h.after (enqueueLeg_touches l .keep) (by decide))

theorem wonSlot_slots (l : LegId) (s : State) : (wonSlot l s).slots = s.slots.set l (s.slots.get l).won := by
  unfold wonSlot
  split
  · rfl
  · exact enqueueLeg_touches l .keep _ .slots (by decide)

/-- A leg in CLAIMED that takes a commit (R6, R7). -/
def committedLeg (s : State) (l : LegId) : LegRec :=
  if startIsNear s l then { s.legs.get l with state := .amber, minGreen := .stopped, interval := .load (legConf s l).amber }
  else { s.legs.get l with state := .committed }

theorem takeCommit_claimed {s : State} {l : LegId} (h : legState s l = .claimed) : takeCommit l s = withLeg l (committedLeg s l) s := by
  unfold committedLeg
  cases hn : startIsNear s l with
  | true => exact takeCommit_near (.inl h) hn
  | false => exact takeCommit_far (.inl h) hn

/-- Settles O17: the slot's record is set; a won contest commits slot and leg. -/
theorem slotEndAndContestExpiry : Obligations.SlotEndAndContestExpiry := by
  unfold Obligations.SlotEndAndContestExpiry
  intro l x s hr hx
  refine ⟨fun he => ?_, fun hst hc => ?_⟩
  · have ho : occurs (.slotEndInExpiry l) s = true := by simp [occurs, slotOver, hx, he]
    exact exec_expiry hr rfl ho
  · have ho : occurs (.contestExpiry l) s = true := by simp [occurs, hst, hc, Countdown.due]
    have htouch := wonSlot_touches l s
    have hlegs : (wonSlot l s).legs = s.legs := htouch .legs (by decide)
    have hcommit : contestWon l s = withLeg l (committedLeg (wonSlot l s) l) (wonSlot l s) := by
      rw [contestWon_eq]; exact takeCommit_claimed (by rw [legState, hlegs]; exact hst)
    have hslot : slotOf (wonSlot l s) l = some { x with stage := .committed } := by
      rw [slotOf, wonSlot_slots, Legs.get_set_self]
      exact (congrArg (Option.map _) hx).trans rfl
    have hnear : startIsNear (wonSlot l s) l = true ↔ x.startIn ≤ (legConf s l).amber + (legConf s l).rin := by
      rw [startIsNear_iff hslot, legConf_congr (htouch .cfg (by decide))]
    refine ⟨_, exec_expiry (c := .contestExpiry l) hr rfl ho, ?_, ?_, ?_, ?_, fun hno => ?_, fun hsome ha => ?_, ?_, ?_,
      expired_changes (c := .contestExpiry l) s rfl⟩ <;>
      simp only [effect, settle_legs, settle_slots, settle_line, slotOf_settle, legState_settle, hcommit]
    · exact hslot
    · exact (congrArg (fun p : Legs SlotRec => (p.get l).contest) (wonSlot_slots l s)).trans (congrArg SlotRec.contest (Legs.get_set_self ..))
    · rw [legState, withLeg, Legs.get_set_self, committedLeg]
      by_cases h : x.startIn ≤ (legConf s l).amber + (legConf s l).rin
      · rw [if_pos h, if_pos (hnear.mpr h)]
      · rw [if_neg h, if_neg (mt hnear.mp h)]
    · exact (congrArg (fun p : Legs SlotRec => (p.get l).challengers) (wonSlot_slots l s)).trans
        (congrArg SlotRec.challengers (Legs.get_set_self ..))
    · rw [show (withLeg l (committedLeg (wonSlot l s) l) (wonSlot l s)).line = (wonSlot l s).line from rfl, wonSlot, if_pos hno]
    · rw [show (withLeg l (committedLeg (wonSlot l s) l) (wonSlot l s)).line = (wonSlot l s).line from rfl, wonSlot, if_neg hsome]
      exact enqueueLeg_get (s := { s with slots := s.slots.set l (s.slots.get l).won }) (k := .keep) ha l
    · rw [withLeg, Legs.get_set_other, hlegs]
    · rw [show (withLeg l (committedLeg (wonSlot l s) l) (wonSlot l s)).slots = (wonSlot l s).slots from rfl, wonSlot_slots,
        Legs.get_set_other]

/-! ### An operation on each leg in use -/

theorem forLegs_both (f : LegId → State → State) (s : State) :
    forLegs bothLegs f s =
      let t := if inUse s .leg0 then f .leg0 s else s
      if inUse t .leg1 then f .leg1 t else t := rfl

/-- What an operation on each leg in use leaves of each leg: a read of a leg that the operation on the other leg leaves alone is as one
operation leaves it, or as it was where the leg is not in use. The configuration is among the parts left alone. -/
theorem forLegs_each {α : Type} {ps : List Part} {f : LegId → State → State} {s : State} (get : State → LegId → α) {R : LegId → α → α → Prop}
    (hf : ∀ l, Touches ps (f l)) (hcfg : Part.cfg ∉ ps)
    (hself : ∀ l t, ChangesOnly ps s t → R l (get t l) (get (f l t) l))
    (hother : ∀ l t, ChangesOnly ps s t → get (f l t) (otherLeg l) = get t (otherLeg l)) (l : LegId) :
    (inUse s l = true → R l (get s l) (get (forLegs bothLegs f s) l)) ∧ (inUse s l = false → get (forLegs bothLegs f s) l = get s l) := by
  rw [forLegs_both]
  extract_lets t
  have ht : ChangesOnly ps s t := .ite (hf .leg0 s) (.refl _ s)
  have huse (m : LegId) : inUse t m = inUse s m := inUse_congr (ht .cfg hcfg) m
  have ht0 : (inUse s .leg0 = true → R .leg0 (get s .leg0) (get t .leg0)) ∧ (inUse s .leg0 = false → get t .leg0 = get s .leg0) :=
    ⟨fun h => by rw [show t = f .leg0 s from if_pos h]; exact hself .leg0 s (.refl _ s),
      fun h => by rw [show t = s from if_neg (by simp [h])]⟩
  have ht1 : get t .leg1 = get s .leg1 := by
    unfold t; split
    · exact hother .leg0 s (.refl _ s)
    · rfl
  rw [huse]
  cases l with
  | leg0 =>
    split
    · rw [show get (f .leg1 t) .leg0 = get t .leg0 from hother .leg1 t ht]; exact ht0
    · exact ht0
  | leg1 =>
    refine ⟨fun h => ?_, fun h => ?_⟩
    · rw [if_pos h, ← ht1]; exact hself .leg1 t ht
    · rw [if_neg (by simp [h])]; exact ht1

/-! ### LISTEN ends (R161) -/

/-- A leg in CALLED queues its BID at the end of LISTEN (R161). -/
def bidIfCalled (l : LegId) (s : State) : State := if legState s l = .called then enqueueLeg l .bid s else s

theorem bidIfCalled_touches (l : LegId) : Touches [.line] (bidIfCalled l) := fun s => .ite (enqueueLeg_touches l .bid s) (.refl _ s)

theorem joinDone_eq (s : State) : joinDone s = forLegs bothLegs bidIfCalled { s with mode := .run, join := .stopped } := rfl

/-- The line is the one given but for the requests of the legs. -/
def LineButLegs (n : Line) (s : State) : Prop := s.line = { n with queue := { n.queue with legs := s.line.queue.legs } }

theorem enqueueLeg_lineButLegs (n : Line) (l : LegId) (k : LegReq) : Keeps (LineButLegs n) (enqueueLeg l k) := by
  intro s h
  unfold enqueueLeg
  split
  · simp only [LineButLegs] at h
    simp only [LineButLegs, updQueue, updLine]
    rw [h]
  · exact h

/-- Settles O8: each leg in use in CALLED queues its BID; the mode lets the queue accept it. -/
theorem joinExpiryEntersRun : Obligations.JoinExpiryEntersRun := by
  unfold Obligations.JoinExpiryEntersRun
  intro s hr hj hc
  have hdone := forLegs_each (s := { s with mode := .run, join := .stopped }) (fun t l => t.line.queue.legs.get l)
    (R := fun l x y => y = if legState s l = .called then some { kind := .bid, stamp := s.clock, sending := false } else x)
    bidIfCalled_touches (by decide)
    (fun l t ht => by
      have hst : legState t l = legState s l := by rw [legState, ht .legs (by decide), legState]
      have ha : acceptsLeg t .bid = true := by
        simp [acceptsLeg, show t.cfg = s.cfg from ht .cfg (by decide), show t.mode = .run from ht .mode (by decide), hc]
      have hclock : t.clock = s.clock := ht .clock (by decide)
      unfold bidIfCalled
      rw [hst]
      split
      · rw [enqueueLeg_get ha, hclock]
      · rfl)
    (fun l t _ => by
      unfold bidIfCalled enqueueLeg
      split
      · split
        · exact Legs.get_set_other ..
        · rfl
      · rfl)
  have hline : LineButLegs s.line (joinDone s) :=
    forLegs_keeps (fun l => .ite (enqueueLeg_lineButLegs s.line l .bid) fun _ h => h) bothLegs { s with mode := .run, join := .stopped } rfl
  refine ⟨_, exec_expiry (c := .joinExpiry) hr rfl ((Countdown.due_iff _).mpr hj), ?_, ?_, fun l => ?_, ?_,
    expired_changes (c := .joinExpiry) s rfl⟩ <;> simp only [effect, settle_mode, settle_join, settle_line]
  · exact forLegs_touches bidIfCalled_touches bothLegs _ .mode (by decide)
  · exact forLegs_touches bidIfCalled_touches bothLegs _ .join (by decide)
  · obtain ⟨hin, hout⟩ := hdone l
    cases hu : inUse s l with
    | true => exact (hin hu).trans (by simp)
    | false => exact (hout hu).trans (by simp)
  · exact hline

end Sys2Proof.Machine
end

section
/-! The Street Line's events (chapter 3): the repeated frames, the bit monitor, the frames lost and discarded, the line watch, a
duplicate station number, and the isolation that the last two bring about (R162, R165). -/

namespace Sys2Proof.Machine

/-! ### Flags once set stay set -/

theorem setFlag_keeps (f g : Flag) : Keeps (fun s => flagSet s f = true) (setFlag g) := by
  intro s h
  dsimp only [flagSet] at h ⊢
  rw [setFlag, updPort_port, BitVec.getLsbD_or, h, Bool.true_or]

theorem setFlagIf_keeps (f g : Flag) (c : Bool) : Keeps (fun s => flagSet s f = true) (setFlagIf c g) := by
  cases c with
  | true => exact setFlag_keeps f g
  | false => exact fun s h => h

theorem flagSet_reads (f : Flag) : ReadsOnly [.port] (fun s => flagSet s f = true) := by
  intro s t h hs
  have hport : t.port = s.port := h .port (by decide)
  dsimp only [flagSet] at hs ⊢
  rw [hport, hs]

theorem placeIsolated_flags (f : Flag) (l : LegId) : Keeps (fun s => flagSet s f = true) (placeIsolated l) := by
  intro s h
  unfold placeIsolated
  split
  · exact h
  · split
    · exact (flagSet_reads f).keeps (takeCommit_touches l) rfl _ (setFlagIf_keeps f .urgent _ _ h)
    · exact h

theorem isolateLeg_flags (f : Flag) (l : LegId) : Keeps (fun s => flagSet s f = true) (isolateLeg l) := by
  intro s h
  unfold isolateLeg
  split
  · exact placeIsolated_flags f l s h
  · split
    · exact (flagSet_reads f).keeps (takeCommit_touches l) rfl _ h
    · exact h

/-- An entry into ISOLATED sets ISOLATED and clears no flag. -/
theorem enterIsolated_flags {f : Flag} {s : State} (i : Isolation) (h : f = .isolated ∨ flagSet s f = true) :
    flagSet (enterIsolated i s) f = true := by
  have hbase : flagSet (isolatedBase i s) f = true := by
    obtain rfl | hf := h
    · exact flagSet_setFlag_self .isolated s
    · exact setFlag_keeps f .isolated s hf
  rw [enterIsolated_eq]
  refine forLegs_keeps (isolateLeg_flags f) _ _ ?_
  split
  · exact hbase
  · exact hbase

theorem flagSet_settle (s : State) (f : Flag) : flagSet (settle s) f = flagSet s f := by rw [flagSet, flagSet, settle_port]

/-! ### A station isolated, or about to be (R162, R165) -/

/-- What holds of a station that has just been isolated: mode and cause, the line and the table emptied, the flag. -/
structure Isolated (i : Isolation) (n : Line) (t : State) : Prop where
  mode : t.mode = .isolated
  cause : t.cause = causeOf i
  join : t.join = .stopped
  line : t.line = { n with tx := none, queue := .empty, collisions := 0, beacon := .stopped,
                           monitor := if n.monitor = .receiving then .waiting else n.monitor }
  table : t.table = []
  heard : t.heard = []
  flag : flagSet t .isolated = true

theorem enterIsolated_isolated (i : Isolation) (s : State) : Isolated i s.line (settle (enterIsolated i s)) := by
  have hc := enterIsolated_changes i s
  constructor
  · rw [settle_mode, hc .mode (by decide)]; rfl
  · rw [settle_cause, hc .cause (by decide)]; rfl
  · rw [settle_join, hc .join (by decide)]; rfl
  · rw [settle_line, hc .line (by decide)]; rfl
  · rw [settle_table, hc .table (by decide)]; rfl
  · rw [settle_heard, hc .heard (by decide)]; rfl
  · rw [flagSet_settle]; exact enterIsolated_flags i (.inl rfl)

theorem reportIsolation_serving {i : Isolation} {s : State} (h : s.mode = .listen ∨ s.mode = .run) :
    reportIsolation i s = enterIsolated i s := by
  unfold reportIsolation
  obtain h | h := h <;> rw [h]

theorem reportIsolation_line_isolated {s : State} (h : s.mode = .isolated) : reportIsolation .line s = s := by
  unfold reportIsolation
  rw [h]
  exact if_neg (fun hc => nomatch hc.1)

/-- The isolation that a report leaves pending in FLASH (R165). -/
theorem reportIsolation_flash {i : Isolation} {s : State} (h : s.mode = .flash) :
    reportIsolation i s = { s with isolation := if s.isolation = none ∨ s.isolation = some .line then some i else s.isolation } := by
  by_cases hi : s.isolation = none ∨ s.isolation = some .line
  · rw [if_pos hi]
    obtain hi | hi := hi <;> simp only [reportIsolation, h, hi]
  · rw [if_neg hi]
    rw [not_or] at hi
    unfold reportIsolation
    split
    case h_4 =>
      split
      · rename_i hn; exact absurd hn hi.1
      · rename_i hl; exact absurd hl hi.2
      · rfl
    all_goals simp_all

/-! ### The repeating countdowns (R52, R149) -/

/-- A BEACON queued where none was, and the countdown loaded with 10 ds. -/
def beaconStarted (s : State) : State :=
  { s with line := { s.line with
      beacon := .load 10, queue := { s.line.queue with beacon := some (s.line.queue.beacon.getD (newEntry s ())) } } }

theorem startBeacon_eq {s : State} (h : acceptsAny s = true) : startBeacon s = beaconStarted s := by
  unfold startBeacon enqueueBeacon beaconStarted
  rw [h, Bool.true_and]
  cases hb : s.line.queue.beacon with
  | none => rfl
  | some e =>
    have hq : s.line.queue = { s.line.queue with beacon := some e } := by rw [← hb]
    rw [if_neg (by simp)]
    show { s with line := { s.line with beacon := .load 10 } } = _
    exact congrArg (fun q => { s with line := { s.line with beacon := .load 10, queue := q } }) hq

/-- A CLEARWAY queued in place of any clearway request, and the countdown loaded with 20 ds. -/
def clearwayStarted (s : State) : State :=
  { s with
    hold := { s.hold with clearway := .load 20 }
    line := { s.line with queue := { s.line.queue with clear := some (newEntry s .clearway) } } }

theorem clearwayDone_eq {s : State} (h : acceptsAny s = true) : clearwayDone s = clearwayStarted s := by
  rw [clearwayDone, enqueueClear, if_pos h]; rfl

theorem startClearway_eq {s : State} (h : acceptsAny s = true) :
    startClearway s = if s.hold.preempt = true ∧ 0 < (conf s).clearwayRange then clearwayStarted s else s := by
  have hiff : sendsClearway s = true ↔ s.hold.preempt = true ∧ 0 < (conf s).clearwayRange := by
    rw [sendsClearway, h, Bool.and_true, Bool.and_eq_true, decide_eq_true_iff]
  unfold startClearway
  split
  · rename_i hs
    rw [if_pos (hiff.mp hs)]
    exact clearwayDone_eq h
  · rename_i hs
    rw [if_neg (fun hc => hs (hiff.mpr hc))]

/-- Settles O24: each countdown is at 0, so that its expiry occurs and queues the frame. -/
theorem repeatCountdownsQueueFrames : Obligations.RepeatCountdownsQueueFrames := by
  unfold Obligations.RepeatCountdownsQueueFrames
  intro s hr ha
  refine ⟨fun hb => ?_, fun hc => ?_⟩
  · rw [exec_expiry (c := .beaconCountdownExpiry) hr rfl (show s.line.beacon.due = true by rw [hb]; rfl)]
    exact congrArg (fun t => Host.Outcome.next (settle t)) (startBeacon_eq ha)
  · rw [exec_expiry (c := .clearwayRepeatExpiry) hr rfl (show s.hold.clearway.due = true by rw [hc]; rfl)]
    exact congrArg (fun t => Host.Outcome.next (settle t)) (clearwayDone_eq ha)

/-! ### Frames discarded with a count (R40, R56, R59) -/

/-- Where frames are taken a frame end is taken with the line idle. -/
theorem atFrameEnd_taken {s : State} (take : State → State) (h : listening s) :
    atFrameEnd take (later s) = take (updLine (fun n => { n with monitor := .idle }) (later s)) := by
  obtain ⟨-, htakes, hm⟩ := h
  have hcond : (takesFrames (later s) && !decide ((later s).line.monitor = .waiting)) = true := by
    rw [takesFrames_later, htakes, Bool.true_and, decide_eq_false (show ¬(later s).line.monitor = .waiting from hm)]; rfl
  rw [atFrameEnd, if_pos hcond]

theorem takeBits_taken {s : State} (bits : List Bool) (h : listening s) {e : FrameFault} (he : decodeFrame bits = .error e) :
    takeBits bits (later s) =
      (if e = .crc then countCrc else countFormat) (updLine (fun n => { n with monitor := .idle }) (later s)) := by
  rw [takeBits, atFrameEnd_taken _ h, he]
  cases e <;> rfl

/-- Settles O26: the frame end is taken, and the failed check advances its counter. -/
theorem badFramesAreCounted : Obligations.BadFramesAreCounted := by
  unfold Obligations.BadFramesAreCounted
  intro s h
  refine ⟨?_, fun bits he => ?_, fun bits e he hne => ?_, fun f hf => ?_⟩
  · rw [exec_event h.1 rfl rfl rfl]
    exact congrArg (fun t => Host.Outcome.next (settle t)) (atFrameEnd_taken countFormat h)
  · rw [exec_event h.1 rfl rfl rfl]
    exact congrArg (fun t => Host.Outcome.next (settle t)) (takeBits_taken bits h he)
  · rw [exec_event h.1 rfl rfl rfl]
    refine congrArg (fun t => Host.Outcome.next (settle t)) ((takeBits_taken bits h he).trans ?_)
    rw [if_neg hne]; rfl
  · rw [exec_event h.1 rfl rfl rfl]
    have htake : takeFrame f (later s) = countFormat (updLine (fun n => { n with monitor := .idle }) (later s)) := by
      rw [takeFrame, atFrameEnd_taken _ h, hf]; rfl
    exact congrArg (fun t => Host.Outcome.next (settle t)) htake

/-! ### A duplicate station number (R44, R57) -/

theorem takeFrame_own {f : Frame} {s : State} (h : listening s) (hok : frameOk f = true) (hown : frameStation f = (conf s).station) :
    takeFrame f (later s) = duplicateFound (updLine (fun n => { n with monitor := .idle }) (later s)) := by
  rw [takeFrame, atFrameEnd_taken _ h, hok, if_pos rfl, takeValid]
  exact if_pos hown

/-- A frame is taken in LISTEN, FLASH or RUN alone (R55). -/
theorem listening_mode {s : State} (h : listening s) : s.mode = .listen ∨ s.mode = .flash ∨ s.mode = .run := by
  obtain ⟨-, htakes, -⟩ := h
  simp only [takesFrames, acceptsAny, Bool.and_eq_true, Bool.or_eq_true, decide_eq_true_eq] at htakes
  obtain ⟨⟨-, (h | h) | h⟩, -⟩ := htakes
  · exact .inl h
  · exact .inr (.inl h)
  · exact .inr (.inr h)

/-- Settles O27: the duplicate check reports an isolation, which LISTEN and RUN enter and FLASH keeps pending. -/
theorem ownNumberHeard : Obligations.OwnNumberHeard := by
  unfold Obligations.OwnNumberHeard
  intro f s h hok hown
  refine ⟨_, exec_event h.1 rfl rfl rfl, ?_⟩
  dsimp only [effect]
  rw [takeFrame_own h hok hown, duplicateFound]
  have hserving (hm : s.mode = .listen ∨ s.mode = .run) := enterIsolated_isolated .duplicate
    (setFlag .duplicate (updLine (fun n => { n with monitor := .idle }) (later s)))
  by_cases hm : s.mode = .flash
  · rw [reportIsolation_flash (by exact hm)]
    refine ⟨(flagSet_settle _ _).trans (flagSet_setFlag_self .duplicate _), by rw [settle_line]; rfl, by rw [settle_line]; rfl,
      by rw [settle_line]; rfl, by rw [settle_line]; rfl, ?_, fun _ => ⟨?_, ?_, ?_, ?_⟩⟩
    · rintro (hl | hl) <;> rw [hm] at hl <;> cases hl
    · rw [settle_mode]; exact hm
    · rw [settle_table]; rfl
    · rw [settle_hold_eq]; rfl
    · rw [settle_isolation]; rfl
  · have hm' : s.mode = .listen ∨ s.mode = .run := by
      obtain h | h | h := listening_mode h
      · exact .inl h
      · exact absurd h hm
      · exact .inr h
    rw [reportIsolation_serving (by exact hm')]
    have hi := hserving hm'
    refine ⟨?_, by rw [hi.line]; rfl, by rw [hi.line]; rfl, by rw [hi.line]; rfl, by rw [hi.line]; rfl,
      fun _ => ⟨hi.mode, hi.cause, hi.table, by rw [hi.line], hi.flag⟩, fun hf => absurd hf hm⟩
    rw [flagSet_settle]
    exact enterIsolated_flags .duplicate (.inr (flagSet_setFlag_self .duplicate _))

/-! ### The line watch (R41, R163) -/

/-- The line watch faulted, the own frame stopped and a reception discarded. -/
def lineDead (s : State) : State :=
  { s with
    slots := s.slots.map (fun r => { r with bid := none, deferred := [] })
    line := { s.line with faulted := true, tx := none, queue := s.line.queue.rest,
                          monitor := if s.line.monitor = .receiving then .waiting else s.line.monitor } }

/-- The line found faulted: so the line, with the flag. -/
def lineCut (s : State) : State := lineDead (setFlag .lineFault s)

theorem lineCut_flag (s : State) : flagSet (lineCut s) .lineFault = true := flagSet_setFlag_self .lineFault s

theorem takeLineFault_eq {s : State} (hcfg : s.cfg.isSome = true) (hf : s.line.faulted = false) :
    takeLineFault s = reportIsolation .line (lineCut s) := by
  have hdead (u : State) : discardReception (stopOwnFrame (updLine (fun n => { n with faulted := true }) u)) = lineDead u := rfl
  rw [takeLineFault, if_pos ⟨hcfg, hf⟩]
  dsimp only
  rw [hdead, lineCut]

/-- A line watch that is faulted, or does not run, takes no line fault. -/
theorem takeLineFault_ignored {s : State} (h : s.line.faulted = true ∨ s.cfg = none) : takeLineFault s = s := by
  unfold takeLineFault
  refine if_neg ?_
  rintro ⟨hcfg, hf⟩
  obtain h | h := h
  · rw [h] at hf; cases hf
  · rw [h] at hcfg; cases hcfg

theorem exec_lineFault {s : State} (hr : s.resetHeld = false) : exec .lineFault s = .next (settle (takeLineFault (later s))) :=
  exec_event hr rfl rfl rfl

theorem exec_lineClear {s : State} (hr : s.resetHeld = false) : exec .lineClear s = .next (settle (takeLineClear (later s))) :=
  exec_event hr rfl rfl rfl

/-- A line fault isolates a station in LISTEN or RUN. -/
theorem takeLineFault_serving {s : State} (hcfg : s.cfg.isSome = true) (hf : s.line.faulted = false)
    (hm : s.mode = .listen ∨ s.mode = .run) :
    Isolated .line (lineCut s).line (settle (takeLineFault s)) ∧ flagSet (settle (takeLineFault s)) .lineFault = true := by
  rw [takeLineFault_eq hcfg hf, reportIsolation_serving (by exact hm), flagSet_settle]
  exact ⟨enterIsolated_isolated _ _, enterIsolated_flags .line (.inr (lineCut_flag s))⟩

/-- LISTEN with its countdowns and the BEACON, the clearway not looked at yet. -/
def listenBegun (s : State) : State := beaconStarted { s with mode := .listen, cause := .none, join := .load 30 }

theorem acceptsAny_listen {s : State} (hcfg : s.cfg.isSome = true) (hm : s.mode = .listen) : acceptsAny s = true := by
  rw [acceptsAny, hcfg, hm]; rfl

theorem enterListen_eq {s : State} (hcfg : s.cfg.isSome = true) :
    enterListen s =
      if s.hold.preempt = true ∧ 0 < (conf s).clearwayRange then clearwayStarted (listenBegun s) else listenBegun s := by
  have hstart : acceptsAny { s with mode := .listen, cause := .none, join := .load 30 } = true := acceptsAny_listen hcfg rfl
  rw [enterListen, startBeacon_eq hstart]
  exact startClearway_eq (s := listenBegun s) (acceptsAny_listen hcfg rfl)

theorem enterListen_line {s : State} (hcfg : s.cfg.isSome = true) :
    (enterListen s).line = { s.line with
      beacon := .load 10
      queue := { s.line.queue with
        beacon := some (s.line.queue.beacon.getD (newEntry s ()))
        clear := if s.hold.preempt = true ∧ 0 < (conf s).clearwayRange then some (newEntry s .clearway) else s.line.queue.clear } } := by
  rw [enterListen_eq hcfg]
  by_cases hp : s.hold.preempt = true ∧ 0 < (conf s).clearwayRange
  · rw [if_pos hp, if_pos hp]; rfl
  · rw [if_neg hp, if_neg hp]; rfl

theorem enterListen_hold {s : State} (hcfg : s.cfg.isSome = true) :
    (enterListen s).hold = if s.hold.preempt = true ∧ 0 < (conf s).clearwayRange then { s.hold with clearway := .load 20 } else s.hold := by
  rw [enterListen_eq hcfg]
  by_cases hp : s.hold.preempt = true ∧ 0 < (conf s).clearwayRange
  · rw [if_pos hp, if_pos hp]; rfl
  · rw [if_neg hp, if_neg hp]; rfl

/-- The line watch back to normal. -/
def lineRestored (s : State) : State := { s with line := { s.line with faulted := false, monitor := .idle } }

theorem takeLineClear_listen {s : State} (hf : s.line.faulted = true) (hm : s.mode = .isolated) (hc : s.cause = .line) :
    takeLineClear s = enterListen (lineRestored s) := by
  rw [takeLineClear, if_pos hf]
  exact if_pos ⟨hm, hc⟩

theorem takeLineClear_stays {s : State} (hf : s.line.faulted = true) (hm : ¬(s.mode = .isolated ∧ s.cause = .line)) :
    takeLineClear s =
      { lineRestored s with isolation := if s.mode = .flash ∧ s.isolation = some .line then none else s.isolation } := by
  rw [takeLineClear, if_pos hf]
  refine (if_neg hm).trans ?_
  by_cases hfl : s.mode = .flash ∧ s.isolation = some .line
  · rw [if_pos hfl]; exact if_pos hfl
  · rw [if_neg hfl]; exact if_neg hfl

/-- Settles O25, by the station mode in which the line watch finds the fault, and by the isolation that a line clear ends. -/
theorem lineWatch : Obligations.LineWatch := by
  unfold Obligations.LineWatch
  intro s hr
  refine ⟨fun hcfg hf hm => ?_, fun hcfg hf hm => ?_, fun hcfg hf hm => ?_, fun hf => ?_, fun hf hm hc hcfg => ?_, fun hf hm => ?_⟩
  · obtain ⟨hi, hflag⟩ := takeLineFault_serving (s := later s) hcfg hf hm
    exact ⟨_, exec_lineFault hr, hi.mode, hi.cause, by rw [hi.join]; rfl, by rw [hi.line]; rfl, by rw [hi.line], by rw [hi.line],
      by rw [hi.line]; rfl, hi.table, hi.heard, hflag, hi.flag⟩
  · rw [exec_lineFault hr, takeLineFault_eq (by exact hcfg) (by exact hf), reportIsolation_flash (by exact hm)]
    refine congrArg (fun o => Host.Outcome.next (settle { lineCut (later s) with isolation := o })) 
      (?_ : (if s.isolation = none ∨ s.isolation = some .line then some .line else s.isolation) =
        if s.isolation = none then some .line else s.isolation)
    by_cases hn : s.isolation = none
    · rw [if_pos hn, if_pos (.inl hn)]
    · rw [if_neg hn]
      by_cases hl : s.isolation = some .line
      · rw [if_pos (.inr hl), hl]
      · exact if_neg (not_or.mpr ⟨hn, hl⟩)
  · rw [exec_lineFault hr, takeLineFault_eq (by exact hcfg) (by exact hf), reportIsolation_line_isolated (by exact hm)]; rfl
  · rw [exec_lineFault hr, takeLineFault_ignored (.inl (by exact hf))]
  · have hl := enterListen_line (s := lineRestored (later s)) hcfg
    have hch := enterListen_changes (lineRestored (later s))
    refine ⟨_, exec_lineClear hr, ?_⟩
    rw [takeLineClear_listen (by exact hf) (by exact hm) (by exact hc), settle_line, settle_mode, settle_cause, settle_join, hl]
    exact ⟨rfl, hch .mode (by decide), hch .cause (by decide), hch .join (by decide), rfl, rfl⟩
  · rw [exec_lineClear hr, takeLineClear_stays (by exact hf) (by exact hm)]; rfl

/-! ### A dominant stretch (R39) -/

theorem exec_startPulse {recessive : Nat} {dominant : Dominant} {s : State} (hr : s.resetHeld = false) {m : Monitor}
    (hm : monitorAfter recessive dominant.length s.line.monitor = m) :
    exec (.startPulse recessive dominant) s = .next (settle
      (if 1000 ≤ dominant.watched then takeLineFault (later { s with line := { s.line with monitor := m } })
       else later { s with line := { s.line with monitor := m } })) := by
  subst hm
  exact exec_event hr rfl rfl rfl

theorem monitorAfter_waiting {recessive length : Nat} {m : Monitor} (hrec : 500 ≤ recessive) (h : length < 150 ∨ 400 ≤ length) :
    monitorAfter recessive length m = .waiting := by
  rw [monitorAfter, if_neg (by omega), if_neg (by omega)]

/-- Settles O31: the length gives the monitor, and 1 ms since the watch began gives the line fault of O25. -/
theorem startPulseIsJudged : Obligations.StartPulseIsJudged := by
  unfold Obligations.StartPulseIsJudged
  intro recessive dominant s hr hrec length heard judged
  have hlength : dominant.length = dominant.before + dominant.watched := rfl
  have hshort (h : length < 150) : monitorAfter recessive dominant.length s.line.monitor = .waiting :=
    monitorAfter_waiting hrec (.inl h)
  have hlong (h : 400 ≤ length) : monitorAfter recessive dominant.length s.line.monitor = .waiting :=
    monitorAfter_waiting hrec (.inr h)
  have hfault (hw : 1000 ≤ dominant.watched) :
      judged = .next (settle (takeLineFault (later (heard .waiting)))) := by
    rw [show judged = _ from exec_startPulse hr (hlong (by omega)), if_pos hw]
  refine ⟨fun h => ?_, fun h1 h2 => ?_, fun h hw => ?_, fun hw => ?_, fun hw hi => ?_, fun hw hf hcfg hm => ?_⟩
  · rw [show judged = _ from exec_startPulse hr (hshort h), if_neg (by omega)]
  · have hstart : monitorAfter recessive dominant.length s.line.monitor = .receiving := by
      rw [monitorAfter, if_neg (by omega), if_pos (by omega)]
    rw [show judged = _ from exec_startPulse hr hstart, if_neg (by omega)]
  · rw [show judged = _ from exec_startPulse hr (hlong h), if_neg (by omega)]
  · rw [hfault hw]; exact (exec_lineFault (s := heard .waiting) hr).symm
  · rw [hfault hw, takeLineFault_ignored (s := later (heard .waiting)) hi]
  · obtain ⟨hi, -⟩ := takeLineFault_serving (s := later (heard .waiting)) hcfg hf hm
    exact ⟨_, hfault hw, hi.mode, hi.cause, by rw [hi.line]; rfl⟩

/-! ### Own frames lost (R43, R44, R54, R93) -/

/-- The own frame lost to a collision: stopped, its request kept, both counts on. -/
def collided (s : State) : State :=
  { s with
    slots := s.slots.map (fun r => { r with bid := none, deferred := [] })
    line := { s.line with tx := none, queue := s.line.queue.rest, monitor := .waiting, collision := min 65535 (s.line.collision + 1),
                          collisions := min 3 (s.line.collisions + 1) } }

theorem collide_eq (s : State) : collide s = if s.line.collisions < 2 then collided s else duplicateFound (collided s) := by
  have hthird : (collided s).line.collisions = 3 ↔ ¬s.line.collisions < 2 := by
    show min 3 (s.line.collisions + 1) = 3 ↔ _
    omega
  show (if (collided s).line.collisions = 3 then duplicateFound (collided s) else collided s) = _
  by_cases h : s.line.collisions < 2
  · rw [if_pos h, if_neg (fun h3 => hthird.mp h3 h)]
  · rw [if_neg h, if_pos (hthird.mpr h)]

theorem exec_collisionError {s : State} (hr : s.resetHeld = false) (htx : s.line.tx.isSome = true) :
    exec .collisionError s = .next (settle (collide (later s))) := exec_event hr rfl rfl htx

/-- Settles O22: the collision that makes three is a duplicate number, which LISTEN and RUN are isolated by and FLASH keeps pending. -/
theorem lostFramesKeepTheirRequest : Obligations.LostFramesKeepTheirRequest := by
  unfold Obligations.LostFramesKeepTheirRequest
  intro s hr htx
  have hthird (h : 2 ≤ s.line.collisions) : collide (later s) = reportIsolation .duplicate (setFlag .duplicate (collided (later s))) := by
    rw [collide_eq, if_neg (show ¬(later s).line.collisions < 2 from Nat.not_lt.mpr h), duplicateFound]
  refine ⟨exec_event hr rfl rfl htx, fun h => ?_, fun h hm => ?_, fun h hm => ?_⟩
  · rw [exec_collisionError hr htx, collide_eq, if_pos (show (later s).line.collisions < 2 from h)]
    have hcount : min 3 (s.line.collisions + 1) = s.line.collisions + 1 := by omega
    exact congrArg (fun n => Host.Outcome.next (settle { collided (later s) with line := { (collided (later s)).line with collisions := n } })) hcount
  · have hi := enterIsolated_isolated .duplicate (setFlag .duplicate (collided (later s)))
    refine ⟨_, exec_collisionError hr htx, ?_⟩
    rw [hthird h, reportIsolation_serving (by exact hm)]
    refine ⟨hi.mode, hi.cause, by rw [hi.line]; rfl, by rw [hi.line], by rw [hi.line], by rw [hi.line], hi.table, ?_, hi.flag⟩
    rw [flagSet_settle]
    exact enterIsolated_flags .duplicate (.inr (flagSet_setFlag_self .duplicate _))
  · rw [exec_collisionError hr htx, hthird h, reportIsolation_flash (by exact hm)]
    have hcount : min 3 (s.line.collisions + 1) = 3 := by omega
    exact congrArg (fun n => Host.Outcome.next (settle { setFlag .duplicate (collided (later s)) with
      line := { (collided (later s)).line with collisions := n }
      isolation := if s.isolation = none ∨ s.isolation = some .line then some .duplicate else s.isolation })) hcount

end Sys2Proof.Machine
end

section
/-! The entries into FLASH (R164, R18, R114, R128): by a lamp conflict or failure (R168, R169), and by a configuration fault (R160); and
the configuration that is loaded (R161). -/

namespace Sys2Proof.Machine

/-! ### Kerbs silenced (R128) -/

/-- A kerb record that FLASH has silenced. -/
def Kerb.silenced (r : Kerb) : Kerb := { r.stopped with pattern := .silent, phase := .stopped, late := 0, step := .stopped }

theorem silenceKerb_eq (l : LegId) (k : Side) (s : State) :
    silenceKerb l k s = updKerb l k (fun r => { r with pattern := .silent, phase := .stopped, late := 0, step := .stopped })
      (sendWords l [.stop k (stopLevel s)] (updKerb l k Kerb.stopped s)) := rfl

theorem kerbOf_silenceLeg (l : LegId) (k : Side) (s : State) : kerbOf (silenceLeg l s) l k = (kerbOf s l k).silenced := by
  cases k <;> simp [silenceLeg, silenceKerb_eq, kerbOf_updKerb, Kerb.silenced]

theorem words_silenceLeg (l : LegId) (s : State) :
    ((silenceLeg l s).links.get l).words =
      (s.links.get l).words ++ [BurstWord.stop .a (stopLevel s), BurstWord.stop .b (stopLevel s)] := by
  simp [silenceLeg, silenceKerb_eq]

theorem silenceLeg_other (l : LegId) (s : State) :
    (silenceLeg l s).kerbs.get (otherLeg l) = s.kerbs.get (otherLeg l) ∧
      (silenceLeg l s).links.get (otherLeg l) = s.links.get (otherLeg l) := by
  simp [silenceLeg, silenceKerb_eq]

/-- What a leg's link and kerbs are before and after they are silenced. -/
def Silenced (level : Nat) (k : Kerbs Kerb × Link) (k' : Kerbs Kerb × Link) : Prop :=
  k'.2.words = k.2.words ++ [BurstWord.stop .a level, BurstWord.stop .b level] ∧ ∀ j, k'.1.get j = (k.1.get j).silenced

theorem silenceLegs (s : State) (l : LegId) :
    (inUse s l = true → Silenced (stopLevel s) (s.kerbs.get l, s.links.get l)
      ((forLegs bothLegs silenceLeg s).kerbs.get l, (forLegs bothLegs silenceLeg s).links.get l)) ∧
    (inUse s l = false →
      ((forLegs bothLegs silenceLeg s).kerbs.get l, (forLegs bothLegs silenceLeg s).links.get l) = (s.kerbs.get l, s.links.get l)) := by
  refine forLegs_each (fun t m => (t.kerbs.get m, t.links.get m)) (R := fun _ => Silenced (stopLevel s)) silenceLeg_touches (by decide)
    (fun m t ht => ?_) (fun m t _ => ?_) l
  · have hlevel : stopLevel t = stopLevel s := by rw [stopLevel_eq, stopLevel_eq, ht .cfg (by decide)]
    exact ⟨(words_silenceLeg m t).trans (by rw [hlevel]), fun j => kerbOf_silenceLeg m j t⟩
  · exact Prod.ext (silenceLeg_other m t).1 (silenceLeg_other m t).2

/-! ### What every entry into FLASH does to the blocks (R18, R114, R128) -/

/-- The legs, calls and slots of FLASH entry, the kerbs not silenced yet. -/
def flashRecords (s : State) : State :=
  let u := removeCall .leg1 (removeCall .leg0 (forLegs bothLegs flashLeg s))
  { u with slots := u.slots.map SlotRec.flash }

theorem flashBlocks_eq (s : State) : flashBlocks s = forLegs bothLegs silenceLeg (flashRecords s) := rfl

theorem flashRecords_touches : Touches [.legs, .calls, .slots] flashRecords := by
  have hslots : Touches [.slots] (fun u => { u with slots := u.slots.map SlotRec.flash }) := by
    intro s p hp; cases p <;> first | rfl | exact absurd (by decide) hp
  have hcalls : Touches [.calls] (fun s => removeCall .leg1 (removeCall .leg0 s)) :=
    (removeCall_touches .leg0).seq (removeCall_touches .leg1) rfl rfl
  exact (((forLegs_touches flashLeg_touches bothLegs).seq (ps := [.legs, .calls]) hcalls rfl rfl).seq hslots rfl rfl)

theorem flashBlocks_kerbs (s : State) (l : LegId) :
    (inUse s l = true → ((flashBlocks s).links.get l).words =
        (s.links.get l).words ++ [BurstWord.stop .a (stopLevel s), BurstWord.stop .b (stopLevel s)] ∧
      ∀ k, kerbOf (flashBlocks s) l k = (kerbOf s l k).silenced) ∧
    (inUse s l = false → (flashBlocks s).kerbs.get l = s.kerbs.get l ∧ (flashBlocks s).links.get l = s.links.get l) := by
  have hu := flashRecords_touches s
  have h := silenceLegs (flashRecords s) l
  rw [← flashBlocks_eq, inUse_congr (hu .cfg (by decide)), hu .kerbs (by decide), hu .links (by decide), stopLevel_eq, hu .cfg (by decide),
    ← stopLevel_eq] at h
  exact ⟨h.1, fun hn => Prod.ext_iff.mp (h.2 hn)⟩

theorem flashBlocks_calls (s : State) (l : LegId) : callOf (flashBlocks s) l = none := by
  have h : (flashBlocks s).calls = (flashRecords s).calls :=
    forLegs_touches silenceLeg_touches bothLegs (flashRecords s) .calls (by decide)
  rw [callOf, h]
  cases l <;> rfl

theorem flashBlocks_slotGone (s : State) (l : LegId) :
    slotOf (flashBlocks s) l = none ∧ ((flashBlocks s).slots.get l).contest.running = false ∧
      ((flashBlocks s).slots.get l).challengers = [] := by
  rw [slotOf, flashBlocks_slots]
  exact ⟨rfl, rfl, rfl⟩

/-! ### FLASH entered (R164) -/

theorem flashFrom_enters {s : State} (c : Cause) (h : s.mode = .listen ∨ s.mode = .run ∨ s.mode = .isolated) :
    flashFrom c s = enterFlash c s := by
  refine if_neg ?_
  rintro (hm | hm) <;> rw [hm] at h <;> simp at h

theorem flashFrom_stays {s : State} (c : Cause) (h : s.mode = .start ∨ s.mode = .flash) : flashFrom c s = s := if_pos h

/-- After the blocks only the BEACON and the clearway are left to see to. -/
theorem enterFlash_blocks (c : Cause) (s : State) : ChangesOnly [.line, .hold] (flashBlocks (flashMode c s)) (enterFlash c s) := by
  have h : ChangesOnly [.line, .hold] (flashBlocks (flashMode c s)) (startBeacon (flashBlocks (flashMode c s))) :=
    (startBeacon_touches _).mono (by decide)
  rw [enterFlash_eq]
  exact .ite (.after startClearway_touches (by decide) h) h

/-- What holds of a station that has just entered FLASH by cause c. -/
structure Flashed (c : Cause) (s t : State) : Prop where
  mode : t.mode = .flash
  cause : t.cause = c
  isolation : t.isolation = isolationKept s
  join : t.join = .stopped
  port : t.port = s.port
  cfg : t.cfg = s.cfg
  leg : ∀ l, t.legs.get l = if inUse s l then (s.legs.get l).flashed else s.legs.get l
  call : ∀ l, callOf t l = none
  slot : ∀ l, slotOf t l = none ∧ (t.slots.get l).contest.running = false ∧ (t.slots.get l).challengers = []
  kerbs : ∀ l, inUse s l = true → (t.links.get l).words =
      (s.links.get l).words ++ [BurstWord.stop .a (stopLevel s), BurstWord.stop .b (stopLevel s)] ∧
    ∀ k, kerbOf t l k = (kerbOf s l k).silenced
  others : ∀ l, inUse s l = false → t.kerbs.get l = s.kerbs.get l ∧ t.links.get l = s.links.get l

theorem enterFlash_flashed (c : Cause) (s : State) : Flashed c s (enterFlash c s) := by
  have hb := enterFlash_blocks c s
  have hc := enterFlash_changes c s
  have hlegs : (enterFlash c s).legs = _ := hb .legs (by decide)
  have hcalls : (enterFlash c s).calls = _ := hb .calls (by decide)
  have hslots : (enterFlash c s).slots = _ := hb .slots (by decide)
  have hkerbs : (enterFlash c s).kerbs = _ := hb .kerbs (by decide)
  have hlinks : (enterFlash c s).links = _ := hb .links (by decide)
  refine ⟨hc .mode (by decide), hc .cause (by decide), hc .isolation (by decide), hc .join (by decide), hc .port (by decide),
    hc .cfg (by decide), fun l => ?_, fun l => ?_, fun l => ?_, fun l hu => ?_, fun l hu => ?_⟩
  · rw [hlegs]; exact flashBlocks_legs _ l
  · rw [callOf, hcalls]; exact flashBlocks_calls _ l
  · rw [slotOf, hslots]; exact flashBlocks_slotGone _ l
  · simp only [kerbOf, hkerbs, hlinks]; exact (flashBlocks_kerbs (flashMode c s) l).1 hu
  · rw [hkerbs, hlinks]; exact (flashBlocks_kerbs (flashMode c s) l).2 hu

theorem Flashed.settle {c : Cause} {s t : State} (h : Flashed c s t) : Flashed c s (settle t) := by
  obtain ⟨mode, cause, isolation, join, port, cfg, leg, call, slot, kerbs, others⟩ := h
  constructor
  case kerbs => intro l hu; simp only [kerbOf_settle, settle_links]; exact kerbs l hu
  case slot => intro l; simp only [slotOf_settle, settle_slots]; exact slot l
  all_goals
    simp only [settle_mode, settle_cause, settle_isolation, settle_join, settle_port, settle_cfg, settle_legs, callOf_settle,
      settle_kerbs, settle_links]
    assumption

/-! ### Lamp readbacks and mismatches (R167 to R169) -/

theorem exec_readback {l : LegId} {i : LampId} {on : Bool} {s : State} (hr : s.resetHeld = false) :
    exec (.lampReadbackChange l i on) s = .next (settle (checkConflict l (s.lamps.get l) (setReadback l i on (later s)))) :=
  exec_event hr rfl rfl rfl

/-- A leg's lamps with a readback changed. -/
def readbackSet (s : State) (l : LegId) (i : LampId) (on : Bool) : Lamps LampRec :=
  (s.lamps.get l).set i { lampRec s l i with readback := on }

theorem setReadback_lamps (l : LegId) (i : LampId) (on : Bool) (s : State) :
    setReadback l i on s = { s with lamps := s.lamps.set l (readbackSet s l i on) } := rfl

theorem checkConflict_none {l : LegId} {i : LampId} {on : Bool} {s : State}
    (h : s.mode = .start ∨ conflictSensed (readbackSet s l i on) = false ∨ conflictSensed (s.lamps.get l) = true) :
    checkConflict l (s.lamps.get l) (setReadback l i on s) = setReadback l i on s := by
  refine if_neg ?_
  rw [setReadback_lamps, Legs.get_set_self]
  obtain h | h | h := h <;> simp [h]

theorem checkConflict_new {l : LegId} {i : LampId} {on : Bool} {s : State} (hnew : conflictSensed (readbackSet s l i on) = true)
    (hold : conflictSensed (s.lamps.get l) = false) (hm : s.mode ≠ .start) :
    checkConflict l (s.lamps.get l) (setReadback l i on s) = flashFrom .conflict (setFlag .conflict (setReadback l i on s)) := by
  refine if_pos ?_
  rw [setReadback_lamps, Legs.get_set_self]
  simp [hnew, hold, hm]

theorem flashFrom_readback (c : Cause) (s : State) (l : LegId) (i : LampId) :
    (lampRec (settle (flashFrom c s)) l i).readback = (lampRec s l i).readback := by
  have hlamps : (flashFrom c s).lamps = s.lamps := flashFrom_touches c s .lamps (by decide)
  rw [lampRec_settle]
  split
  · rw [lampRec, hlamps, lampRec]
  · rw [proveLamp_readback, lampRec, hlamps, lampRec]

/-- A conflict or failure takes a station in service to FLASH, one in FLASH stays; flags stay set. -/
theorem flashFrom_outcome (c : Cause) {s : State} (hm : s.mode ≠ .start) (f : Flag) (hf : flagSet s f = true) :
    (settle (flashFrom c s)).mode = .flash ∧ flagSet (settle (flashFrom c s)) f = true ∧
      (settle (flashFrom c s)).cause = (if s.mode = .flash then s.cause else c) := by
  rw [flagSet_settle, settle_mode, settle_cause]
  by_cases hfl : s.mode = .flash
  · rw [flashFrom_stays c (.inr hfl), if_pos hfl]; exact ⟨hfl, hf, rfl⟩
  · have hx := enterFlash_flashed c s
    have henter : flashFrom c s = enterFlash c s := if_neg (not_or.mpr ⟨hm, hfl⟩)
    rw [henter, if_neg hfl, flagSet, hx.port]
    exact ⟨hx.mode, hf, hx.cause⟩

/-- The lamp marked failed and the flag set (R168). -/
def lampFailed (l : LegId) (i : LampId) (s : State) : State :=
  setFlag .lampFail (updLamp l i (fun r => { r with failed := true, mismatch := .stopped }) s)

theorem mismatchDone_eq (l : LegId) (i : LampId) (s : State) :
    mismatchDone l i s = if i = .red ∧ lampOn s l i = true then flashFrom .lamp (lampFailed l i s) else lampFailed l i s := by
  unfold mismatchDone lampFailed
  simp only [Bool.and_eq_true, decide_eq_true_eq]

/-- Settles O40: a change of readback is the level, with a conflict by what `checkConflict` finds; a mismatch marks the lamp. -/
theorem lampReadbacksAndMismatches : Obligations.LampReadbacksAndMismatches := by
  unfold Obligations.LampReadbacksAndMismatches
  intro l i s hr
  refine ⟨fun on => ⟨fun h => ?_, fun hnew hold hm => ⟨_, exec_readback hr, ?_⟩⟩, fun hd => ?_⟩
  · exact (exec_readback hr).trans (congrArg (fun t => Host.Outcome.next (settle t)) (checkConflict_none (s := later s) h))
  · have hcheck := checkConflict_new (s := later s) hnew hold hm
    rw [show (later s).lamps = s.lamps from rfl] at hcheck
    rw [hcheck]
    obtain ⟨hmode, hflag, hcause⟩ := flashFrom_outcome .conflict (s := setFlag .conflict (setReadback l i on (later s))) hm .conflict
      (flagSet_setFlag_self .conflict _)
    refine ⟨hmode, hflag, ?_, hcause⟩
    rw [flashFrom_readback]
    show (((s.lamps.set l (readbackSet s l i on)).get l).get i).readback = on
    rw [Legs.get_set_self, readbackSet, Lamps.get_set_self]
  · have hexec : exec (.mismatchExpiry l i) s = .next (settle (mismatchDone l i s)) :=
      exec_expiry hr rfl (show (lampRec s l i).mismatch.due = true by rw [hd]; rfl)
    refine ⟨fun hi => ?_, fun hi hon hm => ⟨_, hexec, ?_⟩⟩
    · have hno : ¬(i = .red ∧ lampOn s l i = true) := fun h => hi.elim (fun hi => hi h.1) (fun hi => by rw [hi] at h; cases h.2)
      rw [hexec, mismatchDone_eq, if_neg hno]
      rfl
    · rw [mismatchDone_eq, if_pos ⟨hi, hon⟩, flashFrom_enters .lamp (by exact hm)]
      have hx := (enterFlash_flashed .lamp (lampFailed l i s)).settle
      refine ⟨hx.mode, hx.cause, ?_, fun m hu => ⟨?_, hx.call m, (hx.slot m).1⟩⟩
      · rw [flagSet, hx.port]; exact flagSet_setFlag_self .lampFail _
      · rw [legState, hx.leg, if_pos (show inUse (lampFailed l i s) m = true from hu)]; rfl

end Sys2Proof.Machine
end

section
/-! The configuration read (R158 to R161): LISTEN with the configuration loaded, or FLASH with cause CONFIG. -/

namespace Sys2Proof.Machine

/-! ### Legs released to ALL_RED_OUT (R18, R19, R161) -/

/-- A silent leg's kerbs before and after its release, its ambient records beside them: the kerbs on LOCATOR. -/
def Located (p p' : Kerbs Kerb) : Prop := (∀ k, (p.get k).pattern = .silent) → ∀ k, (p'.get k).pattern = .locator

theorem releaseLeg_kerbs (l : LegId) (s : State) : Located (s.kerbs.get l) ((releaseLeg l s).kerbs.get l) := by
  intro h
  have hkerbs : (enterAllRedOut l s).kerbs = s.kerbs := enterAllRedOut_touches l s .kerbs (by decide)
  exact changePattern_patterns (p := .silent) (s := enterAllRedOut l s) (by decide) (fun k => by rw [kerbOf, hkerbs]; exact h k)

theorem releaseLeg_otherKerbs (l : LegId) (s : State) :
    (releaseLeg l s).kerbs.get (otherLeg l) = s.kerbs.get (otherLeg l) := by
  have hkerbs : (enterAllRedOut l s).kerbs = s.kerbs := enterAllRedOut_touches l s .kerbs (by decide)
  rw [releaseLeg, (changePattern_other l (by decide) _).1, hkerbs]

theorem releasedLegs_kerbs (s : State) (l : LegId) :
    (inUse s l = true → Located (s.kerbs.get l) ((releasedLegs s).kerbs.get l) ∧
      ∀ k, ambientOf (releasedLegs s) l k = { ambientOf s l k with staleness := .load 20 }) ∧
    (inUse s l = false → (releasedLegs s).kerbs.get l = s.kerbs.get l ∧ (releasedLegs s).ambient.get l = s.ambient.get l) := by
  have htouch (m : LegId) : Touches [.legs, .kerbs, .links, .ambient] (fun u => track m (releaseLeg m u)) :=
    (releaseLeg_touches m).seq (track_touches m) rfl rfl
  have hkerbs (m : LegId) (t : State) : (track m (releaseLeg m t)).kerbs = (releaseLeg m t).kerbs := track_touches m _ .kerbs (by decide)
  have hambient (m : LegId) (t : State) : (releaseLeg m t).ambient = t.ambient := releaseLeg_touches m t .ambient (by decide)
  have hlast : (releasedLegs s).kerbs = (forLegs bothLegs (fun m u => track m (releaseLeg m u)) s).kerbs ∧
      (releasedLegs s).ambient = (forLegs bothLegs (fun m u => track m (releaseLeg m u)) s).ambient := by
    unfold releasedLegs; extract_lets t
    exact ⟨by split <;> rfl, by split <;> rfl⟩
  simp only [ambientOf, hlast]
  have h := forLegs_each (f := fun m u => track m (releaseLeg m u)) (s := s) (fun t m => (t.kerbs.get m, t.ambient.get m))
    (R := fun _ a b => Located a.1 b.1 ∧ ∀ k, b.2.get k = { a.2.get k with staleness := .load 20 })
    htouch (by decide)
    (fun m t _ => ⟨by rw [hkerbs]; exact releaseLeg_kerbs m t, fun k => by
      rw [track, updAmbient, updAmbient, hambient]
      cases k <;> simp [Kerbs.get_upd]⟩)
    (fun m t _ => Prod.ext (by rw [hkerbs]; exact releaseLeg_otherKerbs m t) (by
      rw [track, updAmbient, updAmbient, hambient]; simp)) l
  exact ⟨h.1, fun hn => Prod.ext_iff.mp (h.2 hn)⟩

/-! ### A passing image (R160, R161) -/

theorem exec_configurationRead {bytes : List Byte} {s : State} (hr : s.resetHeld = false) (hread : s.reading = true) :
    exec (.configurationRead bytes) s = .next (settle (configRead bytes (later s))) := exec_event hr rfl rfl hread

/-- The state in which a passing configuration read enters LISTEN. -/
def configSet (bytes : List Byte) (s : State) : State :=
  setFlagIf (imageClamped bytes) .cfgClamped { s with reading := false, cfg := some (loadImage bytes) }

theorem configSet_touches (bytes : List Byte) : Touches [.reading, .cfg, .port] (configSet bytes) := by
  have hset : Touches [.reading, .cfg] (fun s => { s with reading := false, cfg := some (loadImage bytes) }) := by
    intro s p hp; cases p <;> first | rfl | exact absurd (by decide) hp
  exact hset.seq (setFlagIf_touches (imageClamped bytes) .cfgClamped) rfl rfl

theorem configSet_flags (bytes : List Byte) (s : State) :
    (configSet bytes s).port.flags = if imageClamped bytes then s.port.flags ||| flagBit .cfgClamped else s.port.flags := by
  unfold configSet setFlagIf; split <;> rfl

theorem configSet_cfg (bytes : List Byte) (s : State) : (configSet bytes s).cfg = some (loadImage bytes) :=
  setFlagIf_touches _ _ { s with reading := false, cfg := some (loadImage bytes) } .cfg (by decide)

theorem configRead_passing {bytes : List Byte} {s : State} (h : imageFault bytes = .none)
    (hn : ∀ l, conflictSensed (s.lamps.get l) = false) :
    configRead bytes s = releasedLegs (enterListen (configSet bytes s)) := by
  have hload : configRead bytes s = configLoaded bytes s := by unfold configRead; rw [h]
  have hl : (releasedLegs (enterListen (configSet bytes s))).lamps = s.lamps :=
    (releasedLegs_touches _ .lamps (by decide)).trans (((configListening_changes bytes s).1) .lamps (by decide))
  rw [hload, configLoaded_eq]
  refine if_neg ?_
  change ¬((conflictSensed (releasedLegs (enterListen (configSet bytes s))).lamps.leg0 ||
    conflictSensed (releasedLegs (enterListen (configSet bytes s))).lamps.leg1) = true)
  rw [hl]
  simpa using ⟨hn .leg0, hn .leg1⟩

/-- What a passing configuration read has set when LISTEN is entered. -/
structure ListenLoaded (bytes : List Byte) (s u : State) : Prop where
  changes : ChangesOnly [.reading, .cfg, .mode, .cause, .join, .port, .line, .hold] s u
  mode : u.mode = .listen
  cause : u.cause = .none
  reading : u.reading = false
  join : u.join = .load 30
  cfg : u.cfg = some (loadImage bytes)
  flags : u.port.flags = if imageClamped bytes then s.port.flags ||| flagBit .cfgClamped else s.port.flags
  line : u.line = { s.line with
    beacon := .load 10
    queue := { s.line.queue with
      beacon := some (s.line.queue.beacon.getD (newEntry s ()))
      clear := if s.hold.preempt = true ∧ 0 < (loadImage bytes).clearwayRange then some (newEntry s .clearway)
        else s.line.queue.clear } }
  hold : u.hold = if s.hold.preempt = true ∧ 0 < (loadImage bytes).clearwayRange then { s.hold with clearway := .load 20 } else s.hold

theorem listenLoaded (bytes : List Byte) (s : State) : ListenLoaded bytes s (enterListen (configSet bytes s)) := by
  have hset := configSet_touches bytes s
  have hcfg := configSet_cfg bytes s
  have hsome : (configSet bytes s).cfg.isSome = true := by rw [hcfg]; rfl
  obtain ⟨hsu, hmode, hucfg, -⟩ := configListening_changes bytes s
  have hlisten := enterListen_changes (configSet bytes s)
  have hline := enterListen_line hsome
  have hhold := enterListen_hold hsome
  have hconf : conf (configSet bytes s) = loadImage bytes := by rw [conf, hcfg]; rfl
  have hpreempt : (configSet bytes s).hold = s.hold := hset .hold (by decide)
  have hclock : (configSet bytes s).clock = s.clock := hset .clock (by decide)
  rw [hset .line (by decide), hpreempt, hconf, newEntry, newEntry, hclock] at hline
  rw [hpreempt, hconf] at hhold
  exact ⟨hsu, hmode, hlisten .cause (by decide),
    (hlisten .reading (by decide)).trans (setFlagIf_touches _ _ { s with reading := false, cfg := some (loadImage bytes) } .reading (by decide)),
    hlisten .join (by decide), hucfg,
    (congrArg Port.flags (hlisten .port (by decide))).trans (configSet_flags bytes s), hline, hhold⟩

/-- Settles O5: the configuration is set, LISTEN entered and each leg in use released. -/
theorem configurationReadLoads : Obligations.ConfigurationReadLoads := by
  unfold Obligations.ConfigurationReadLoads
  intro bytes s hr hread hok hn hstart hsilent
  refine ⟨_, exec_configurationRead hr hread, ?_⟩
  rw [configRead_passing hok (by exact hn)]
  have hload := listenLoaded bytes (later s)
  revert hload
  generalize enterListen (configSet bytes (later s)) = u
  intro hload
  have hrel := releasedLegs_touches u
  have hall : ChangesOnly [.clock, .hold, .lamps, .reading, .cfg, .mode, .cause, .join, .line, .legs, .kerbs, .links, .ambient, .port] s
      (settle (releasedLegs u)) :=
    .after settle_touches (by decide) (.after releasedLegs_touches (by decide)
      (((later_touches s).mono (by decide)).trans (hload.changes.mono (by decide))))
  have hlegs : u.legs = s.legs := hload.changes .legs (by decide)
  have hkerbs : u.kerbs = s.kerbs := hload.changes .kerbs (by decide)
  have hambient : u.ambient = s.ambient := hload.changes .ambient (by decide)
  have huse (l : LegId) : inUse (settle (releasedLegs u)) l = inUse u l :=
    inUse_congr ((settle_cfg _).trans (hrel .cfg (by decide))) l
  have hleg (l : LegId) : legConf (settle (releasedLegs u)) l = legConf u l :=
    legConf_congr ((settle_cfg _).trans (hrel .cfg (by decide))) l
  have hline : (settle (releasedLegs u)).line = u.line := (settle_line _).trans (hrel .line (by decide))
  have hhold : (releasedLegs u).hold = u.hold := hrel .hold (by decide)
  have hsettle := settle_hold_eq (releasedLegs u)
  have hport : (settle (releasedLegs u)).port = u.port := (settle_port _).trans (hrel .port (by decide))
  rw [hhold] at hsettle
  refine ⟨?_, ?_, ?_, ?_, ?_, ?_, ?_, ?_, fun hp hrange => ?_, fun hp => ?_, ?_, ?_, ?_, fun l hu => ?_, fun hu => ?_, ?_, hall⟩
  case refine_1 => rw [settle_cfg, hrel .cfg (by decide)]; exact hload.cfg
  case refine_2 => rw [settle_mode, hrel .mode (by decide)]; exact hload.mode
  case refine_3 => rw [settle_cause, hrel .cause (by decide)]; exact hload.cause
  case refine_4 =>
    rw [settle_same .reading (by decide), hrel .reading (by decide)]; exact hload.reading
  case refine_5 => rw [settle_join, hrel .join (by decide)]; exact hload.join
  case refine_6 => rw [hline, hload.line]; rfl
  case refine_7 => rw [hline, hload.line]; rfl
  case refine_8 => rw [hline, hload.line]; rfl
  case refine_9 =>
    have hw : (later s).hold.preempt = true ∧ 0 < (loadImage bytes).clearwayRange := ⟨hp, hrange⟩
    rw [hline, hsettle, hload.line, hload.hold, if_pos hw, if_pos hw]
    exact ⟨rfl, rfl⟩
  case refine_10 =>
    have hw : ¬((later s).hold.preempt = true ∧ 0 < (loadImage bytes).clearwayRange) := by
      rintro ⟨h1, h2⟩
      obtain hp | hp := hp
      · rw [show (later s).hold.preempt = s.hold.preempt from rfl, hp] at h1; cases h1
      · rw [hp] at h2; exact Nat.lt_irrefl 0 h2
    rw [hline, hsettle, hload.line, hload.hold, if_neg hw, if_neg hw]
    exact ⟨rfl, rfl⟩
  case refine_11 => rw [hsettle, hload.hold]; split <;> rfl
  case refine_12 => rw [hsettle, hload.hold]; split <;> rfl
  case refine_13 => rw [hsettle, hload.hold]; split <;> rfl
  case refine_14 =>
    rw [huse] at hu
    obtain ⟨hloc, hamb⟩ := (releasedLegs_kerbs u l).1 hu
    have hsilent' : ∀ k, ((u.kerbs.get l).get k).pattern = .silent := by rw [hkerbs]; exact hsilent l
    refine ⟨?_, fun k => ⟨?_, ?_⟩⟩
    · rw [settle_legs, hleg, releasedLegs_get, if_pos hu, hlegs]; rfl
    · rw [kerbOf_settle]; exact hloc hsilent' k
    · rw [ambientOf, settle_ambient]
      refine (hamb k).trans ?_
      rw [ambientOf, hambient]; rfl
  case refine_15 =>
    rw [huse] at hu
    obtain ⟨hk, ha⟩ := (releasedLegs_kerbs u .leg1).2 hu
    rw [hkerbs] at hk
    rw [hambient] at ha
    have hl := releasedLegs_get u .leg1
    rw [hu, hlegs] at hl
    rw [settle_legs, settle_kerbs, settle_ambient]
    exact ⟨hl, hk, ha⟩
  case refine_16 => rw [hport]; exact hload.flags

/-! ### A failing image (R160, R18, R128) -/

/-- FLASH with cause CONFIG, the fault recorded, before the blocks are told. -/
def configFaulted (c : FaultCheck) (s : State) : State :=
  setFlag .cfgFault { s with reading := false, faultCheck := c, mode := .flash, cause := .config, isolation := none }

theorem configFault_eq (c : FaultCheck) (s : State) :
    configFault c s =
      if conflictSensed s.lamps.leg0 || conflictSensed s.lamps.leg1 then setFlag .conflict (flashBlocks (configFaulted c s))
      else flashBlocks (configFaulted c s) := by
  have hb := flashBlocks_touches (configFaulted c s)
  have hlamps : (flashBlocks (configFaulted c s)).lamps = s.lamps := hb .lamps (by decide)
  have hmode : (flashBlocks (configFaulted c s)).mode = .flash := hb .mode (by decide)
  show conflictAtStart (flashBlocks (configFaulted c s)) = _
  rw [conflictAtStart, hlamps, flashFrom_stays .conflict (by exact .inr hmode)]

theorem configRead_failing {bytes : List Byte} (h : imageFault bytes ≠ .none) (s : State) :
    configRead bytes s = configFault (imageFault bytes) s := by
  unfold configRead
  split
  · rename_i hn; exact absurd hn h
  · rfl

/-- Beside the flag of a conflict a configuration fault leaves what FLASH entry makes of the blocks. -/
theorem configFault_blocks (c : FaultCheck) (s : State) : ChangesOnly [.port] (flashBlocks (configFaulted c s)) (configFault c s) := by
  rw [configFault_eq]
  exact .ite ((setFlag_touches _) _) (.refl _ _)

/-- Settles O6: the blocks are those of FLASH entry with both legs in use, for no configuration is loaded. -/
theorem configurationReadFaults : Obligations.ConfigurationReadFaults := by
  unfold Obligations.ConfigurationReadFaults
  intro bytes s hr hread hcfg hbad
  refine ⟨_, exec_configurationRead hr hread, ?_⟩
  rw [configRead_failing hbad]
  generalize imageFault bytes = c
  have hch := configFault_blocks c (later s)
  have hb := flashBlocks_touches (configFaulted c (later s))
  have huse (l : LegId) : inUse (configFaulted c (later s)) l = true := by
    have hc : (configFaulted c (later s)).cfg = none := hcfg
    rw [inUse, hc]
  have hlevel : stopLevel (configFaulted c (later s)) = 0 := by
    rw [stopLevel_eq, show (configFaulted c (later s)).cfg = none from hcfg]; rfl
  have hslots : (configFault c (later s)).slots = _ := hch .slots (by decide)
  have hcalls : (configFault c (later s)).calls = _ := hch .calls (by decide)
  have hkerbs : (configFault c (later s)).kerbs = _ := hch .kerbs (by decide)
  have hport : (configFault c (later s)).port.flags = s.port.flags ||| flagBit .cfgFault |||
      (if conflictSensed s.lamps.leg0 || conflictSensed s.lamps.leg1 then flagBit .conflict else 0#14) := by
    have hflags : (flashBlocks (configFaulted c (later s))).port.flags = s.port.flags ||| flagBit .cfgFault :=
      congrArg Port.flags (hb .port (by decide))
    rw [configFault_eq, show (later s).lamps = s.lamps from rfl]
    split
    · exact congrArg (· ||| flagBit .conflict) hflags
    · rw [hflags, BitVec.or_zero]
  refine ⟨?_, ?_, ?_, ?_, ?_, ?_, ?_, fun l => ?_, fun l => ⟨?_, ?_, ?_⟩, fun l k => ?_, fun l => ?_, ?_⟩
  case refine_1 => rw [settle_mode, hch .mode (by decide), hb .mode (by decide)]; rfl
  case refine_2 => rw [settle_cause, hch .cause (by decide), hb .cause (by decide)]; rfl
  case refine_3 => rw [settle_same .faultCheck (by decide), hch .faultCheck (by decide), hb .faultCheck (by decide)]; rfl
  case refine_4 => rw [settle_isolation, hch .isolation (by decide), hb .isolation (by decide)]; rfl
  case refine_5 => rw [settle_cfg, hch .cfg (by decide), hb .cfg (by decide)]; exact hcfg
  case refine_6 => rw [settle_same .reading (by decide), hch .reading (by decide), hb .reading (by decide)]; rfl
  case refine_7 => rw [settle_line, hch .line (by decide), hb .line (by decide)]; rfl
  case refine_8 => rw [settle_legs, hch .legs (by decide), flashBlocks_legs, if_pos (huse l)]; rfl
  case refine_9 => rw [callOf_settle, callOf, hcalls]; exact flashBlocks_calls _ l
  case refine_10 => rw [slotOf_settle, slotOf, hslots]; exact (flashBlocks_slotGone _ l).1
  case refine_11 => rw [settle_slots, hslots]; exact (flashBlocks_slotGone _ l).2.1
  case refine_12 =>
    rw [kerbOf_settle, kerbOf, hkerbs]
    have hk := ((flashBlocks_kerbs (configFaulted c (later s)) l).1 (huse l)).2 k
    rw [kerbOf] at hk
    rw [hk]
    exact ⟨rfl, rfl⟩
  case refine_13 =>
    rw [settle_links, hch .links (by decide), ((flashBlocks_kerbs (configFaulted c (later s)) l).1 (huse l)).1, hlevel]; rfl
  case refine_14 => rw [settle_port, hport]

end Sys2Proof.Machine
end

section
/-! The maintenance port (chapter 11): what a read of the reply buffer returns, the checks of a command, the contents of the reading
commands, and the commands that set the quiet mode, the MAINT source or a call. -/

namespace Sys2Proof.Machine

/-! ### The outputs that follow the state (R37, R172, R174) -/

theorem waitLampOn_iff (s : State) (l : LegId) :
    waitLampOn s l = true ↔ s.mode ≠ .start ∧ s.mode ≠ .flash ∧
      ∃ c, callOf s l = some c ∧ (c.kind = .aid → (s.calls.get l).blinkOn = true) := by
  unfold waitLampOn
  by_cases hm : s.mode = .start ∨ s.mode = .flash
  · rw [if_pos hm]
    exact iff_of_false (by decide) (fun h => hm.elim h.1 h.2.1)
  · rw [if_neg hm]
    rw [not_or] at hm
    cases callOf s l with
    | none => exact iff_of_false Bool.false_ne_true (fun ⟨_, _, c, hc, _⟩ => by cases hc)
    | some c =>
      obtain ⟨kind, -, -⟩ := c
      cases kind <;> simp [hm]

theorem readReply_length (s : State) (n : Nat) : (readReply s n).length = n := by
  rw [readReply, List.length_take, List.length_append, List.length_replicate]
  omega

/-- A byte read lies in the reply, or past it where the fill value is read; an empty buffer reads the fill value throughout. -/
theorem readReply_getD {s : State} {n i : Nat} (h : i < n) :
    (readReply s n).getD i 0#8 = (s.port.reply.getD []).getD i 0xFF#8 := by
  have hread (b : List Byte) : ((b ++ List.replicate n fillValue).take n).getD i 0#8 = b.getD i 0xFF#8 := by
    rw [List.getD_eq_getElem?_getD, List.getD_eq_getElem?_getD, List.getElem?_take_of_lt h]
    by_cases hi : i < b.length
    · rw [List.getElem?_append_left hi, List.getElem?_eq_getElem hi]; rfl
    · have hle : b.length ≤ i := Nat.le_of_not_lt hi
      rw [List.getElem?_append_right hle, List.getElem?_eq_none hle, List.getElem?_replicate, if_pos (by omega)]; rfl
  unfold readReply
  cases s.port.reply with
  | some b => exact hread b
  | none =>
    refine (hread [0xFF#8]).trans ?_
    cases i <;> rfl

/-- Settles O47, output by output. -/
theorem waitLampsSrqAndReads : Obligations.WaitLampsSrqAndReads := by
  unfold Obligations.WaitLampsSrqAndReads
  refine fun s => ⟨waitLampOn_iff s, srq_iff s, readReply_length s, fun n i h => ?_, ?_, fun a ha => ?_⟩
  · rw [readReply_getD h]
    cases s.port.reply <;> rfl
  · unfold portAddress
    cases s.resetHeld <;> simp
  · unfold portAddress at ha
    split at ha
    · cases ha
    · cases ha
      have hs := s.port.straps.isLt
      rw [BitVec.toNat_add, BitVec.toNat_setWidth]
      change (44 + s.port.straps.toNat % 128) % 128 = 44 + s.port.straps.toNat
      omega

/-! ### The checks of a command (R173, R175) -/

theorem commandOf_commandCode (c : PortCommand) : commandOf (commandCode c) = some c := by cases c <;> rfl

theorem commandFault_length {c : PortCommand} {ops : List Byte} (h : ops.length ≠ operandCount c) :
    commandFault c ops = some .length := if_pos h

theorem commandFault_range {c : PortCommand} {ops : List Byte} (h : ops.length = operandCount c) (hr : operandsInRange c ops = false) :
    commandFault c ops = some .range := (if_neg (not_not.mpr h)).trans (if_pos hr)

theorem commandFault_none {c : PortCommand} {ops : List Byte} (h : ops.length = operandCount c) (hr : operandsInRange c ops = true) :
    commandFault c ops = none := (if_neg (not_not.mpr h)).trans (if_neg (by rw [hr]; decide))

theorem exec_portInstr {s : State} (hr : s.resetHeld = false) (c : PortCommand) (ops : List Byte) (quiet : Bool) :
    exec (portInstr c ops quiet) s = .next (settle (effect (portInstr c ops quiet) (later s))) := by
  cases c <;> exact exec_event hr rfl rfl rfl

/-- A command's effect is that it is taken; RSTRT first samples the QUIET pin where it passes its checks. -/
theorem effect_portInstr (c : PortCommand) (ops : List Byte) (quiet : Bool) (s : State) :
    effect (portInstr c ops quiet) s =
      takeCommand c ops (if c = .rstrt ∧ (commandFault .rstrt ops).isNone = true then { s with quietPin := quiet } else s) := by
  cases c
  case rstrt =>
    change takeCommand .rstrt ops (if (commandFault .rstrt ops).isNone = true then { s with quietPin := quiet } else s) = _
    simp only [true_and]
  all_goals rfl

/-- A command other than RSTRT is taken on the state as it stands. -/
theorem exec_command {s : State} (hr : s.resetHeld = false) {c : PortCommand} (hc : c ≠ .rstrt) (ops : List Byte) :
    exec (portInstr c ops false) s = .next (settle (takeCommand c ops (later s))) := by
  rw [exec_portInstr hr, effect_portInstr, if_neg fun h => hc h.1]

/-- A command that fails a check has no effect but its reply, RSTRT's pin included. -/
theorem exec_faulted {s : State} (hr : s.resetHeld = false) {c : PortCommand} {ops : List Byte} (quiet : Bool) {st : ReplyStatus}
    (h : commandFault c ops = some st) :
    exec (portInstr c ops quiet) s = .next (settle (withReply [statusCode st, commandCode c, 0x00] (later s))) := by
  have hpin : ¬(c = .rstrt ∧ (commandFault .rstrt ops).isNone = true) := by
    rintro ⟨rfl, hn⟩
    rw [h] at hn; cases hn
  rw [exec_portInstr hr, effect_portInstr, if_neg hpin, takeCommand, h]
  rfl

/-- A byte that names a command is that command, the QUIET pin at the level last told of (log entry 21). -/
theorem exec_namedByte {s : State} (hr : s.resetHeld = false) (c : PortCommand) (ops : List Byte) :
    exec (.unknownCommand (commandCode c) ops) s = exec (portInstr c ops s.quietPin) s := by
  have hnamed : exec (.unknownCommand (commandCode c) ops) s = .next (settle (takeCommand c ops (later s))) := by
    rw [exec_event hr rfl rfl rfl]
    simp only [effect, commandOf_commandCode]
  have hpin (p : Prop) [Decidable p] : (if p then { later s with quietPin := s.quietPin } else later s) = later s := by split <;> rfl
  rw [hnamed, exec_portInstr hr, effect_portInstr, hpin]

/-- Settles O44: each failed check gives its status, and a byte that names a command is that command. -/
theorem rejectedCommandsOnlyReply : Obligations.RejectedCommandsOnlyReply := by
  unfold Obligations.RejectedCommandsOnlyReply
  refine fun s hr => ⟨fun code ops h => ?_, fun c ops quiet h => exec_faulted hr quiet (commandFault_length h),
    fun c ops quiet h hrange => exec_faulted hr quiet (commandFault_range h hrange), exec_namedByte hr⟩
  rw [exec_event hr rfl rfl rfl]
  simp only [effect, h]
  rfl

/-! ### The reading commands (R176 to R178, R190) -/

/-- A reading command that passes its checks puts its content in the buffer and changes nothing else. -/
theorem takeCommand_reads {c : PortCommand} {ops content : List Byte} {s : State} (h : commandFault c ops = none)
    (hrun : runCommand c ops s = (s, .ok, content)) :
    takeCommand c ops s = withReply (0x00 :: commandCode c :: BitVec.ofNat 8 content.length :: content) s := by
  rw [takeCommand_passed h, hrun]; rfl

theorem statContent_length (s : State) : (statContent s).length = 13 := rfl

theorem countWord_length (c : Countdown) : (countWord c).length = 2 := by unfold countWord; split <;> rfl

theorem slotTimes_length (o : Option Slot) : (slotTimes o).length = 4 := by cases o <;> rfl

theorem slotBandRank_length (o : Option Slot) : (slotBandRank o).length = 2 := by cases o <;> rfl

/-- The configuration part of LEG (R177): its mark and the leg block, or eighteen bytes of 0. -/
def configBytes (s : State) (l : LegId) : List Byte :=
  match shownConfig s l with
  | some c => 1 :: legConfigBytes c
  | none => List.replicate 18 0

theorem configBytes_eq (s : State) (l : LegId) :
    configBytes s l = if served s l then 1 :: legConfigBytes (legConf s l) else List.replicate 18 0 := by
  unfold configBytes shownConfig served inUse legConf conf
  cases hc : s.cfg with
  | none => rfl
  | some c =>
    cases l with
    | leg0 => rfl
    | leg1 => cases hl : c.leg1 <;> simp [hl]

theorem configBytes_length (s : State) (l : LegId) : (configBytes s l).length = 18 := by
  rw [configBytes_eq]; split <;> rfl

/-- The content of LEG with the slot's bytes taken together (R177). -/
theorem legContent_eq (s : State) (l : LegId) :
    legContent s l =
      [byteOf (legCode l), byteOf (phaseCode (s.legs.get l).state)] ++
      ((if timedState (s.legs.get l).state then countWord (s.legs.get l).interval else [0xFF, 0xFF]) ++
      (countWord (s.legs.get l).minGreen ++ (wordOf (s.legs.get l).walkElapsed ++ (wordOf (s.legs.get l).walkLength ++
      ([byteOf (callBits (callOf s l) + 8 * (s.legs.get l).walkCancelled.toNat)] ++ (wordOf (waitedOf (callOf s l)) ++
      ([slotByte (slotOf s l)] ++ (slotTimes (slotOf s l) ++ (slotBandRank (slotOf s l) ++
      ([countByte (s.slots.get l).contest] ++
      ([byteOf (patternCode (kerbOf s l .a).pattern + 4 * patternCode (kerbOf s l .b).pattern),
        byteOf ((ambientOf s l .a).stale.toNat + 2 * (ambientOf s l .b).stale.toNat)] ++ configBytes s l))))))))))) := by
  unfold legContent configBytes
  simp only [List.append_assoc]
  rfl

theorem legContent_length (s : State) (l : LegId) : (legContent s l).length = 41 := by
  have htimed : (if timedState (s.legs.get l).state then countWord (s.legs.get l).interval else [0xFF, 0xFF]).length = 2 := by
    split
    · exact countWord_length _
    · rfl
  rw [legContent_eq]
  simp only [List.length_append, htimed, countWord_length, slotTimes_length, slotBandRank_length, configBytes_length, List.length_cons,
    List.length_nil, wordOf]

theorem timedState_iff (st : LegState) :
    timedState st = true ↔ st = .amber ∨ st = .allRedIn ∨ st = .walk ∨ st = .clearance ∨ st = .allRedOut := by
  cases st <;> decide

theorem treadContent_length (s : State) (i : Nat) : (treadContent s i).length = if i < s.table.length then 18 else 2 := by
  unfold treadContent
  by_cases h : i < s.table.length
  · rw [List.getElem?_eq_getElem h, if_pos h]
    simp [wordOf, slotTimes_length, slotBandRank_length]
  · rw [List.getElem?_eq_none (Nat.le_of_not_lt h), if_neg h]; rfl

theorem holdersContent_length (s : State) : (holdersContent s).length = 1 + 2 * s.hold.holders.length := by
  have h : ∀ hs : List Holder, (hs.flatMap (fun h => [byteOf h.station, byteOf h.left])).length = 2 * hs.length := by
    intro hs
    induction hs with
    | nil => rfl
    | cons d ds ih => rw [List.flatMap_cons, List.length_append, ih]; simp; omega
  rw [holdersContent, List.length_cons, h]; omega

/-- The heard countdown as TREAD shows it (R71, R178). -/
theorem heardByte_eq (s : State) (st : Nat) :
    (if s.heard.any (fun h => decide (h.station = st)) then byteOf (heardOf s st) else 0xFF) =
      match s.heard.find? (fun h => decide (h.station = st)) with
      | some h => byteOf h.left
      | none => 0xFF := by
  unfold heardOf
  cases hf : s.heard.find? (fun h => decide (h.station = st)) with
  | none =>
    have hno : ¬ (s.heard.any (fun h => decide (h.station = st)) = true) := by
      rw [List.any_eq_true]
      rintro ⟨x, hx, hst⟩
      exact List.find?_eq_none.mp hf x hx hst
    exact if_neg hno
  | some h =>
    have hyes : s.heard.any (fun h => decide (h.station = st)) = true :=
      List.any_eq_true.mpr ⟨h, List.mem_of_find?_eq_some hf, by have hst := List.find?_some hf; exact hst⟩
    exact if_pos hyes

theorem legOperand_of {b : Byte} : legOperand [b] = if b = 0#8 then .leg0 else .leg1 := by
  have h : operand [b] 0 = 0 ↔ b = 0#8 := BitVec.toNat_eq (x := b) (y := 0#8) |>.symm
  simp only [legOperand, h]

/-- Settles O43: each content is read field by field, the shorthands of the statement being the model's codes. -/
theorem readingCommandsReply : Obligations.ReadingCommandsReply := by
  unfold Obligations.ReadingCommandsReply
  intro byte word count bit sources isolation cause legNumber phase timed pattern stage slotBytes s hr
  have hbit : bit = Bool.toNat := funext fun b => by cases b <;> rfl
  have hcount : count = countWord := rfl
  have hcause : cause = causeCode := funext fun c => by cases c <;> rfl
  have hisolation : isolation = isolationCode := funext fun i => by rcases i with _ | (_ | _ | _) <;> rfl
  have hleg : legNumber = legCode := funext fun l => by cases l <;> rfl
  have hphase : phase = phaseCode := funext fun st => by cases st <;> rfl
  have hpattern : pattern = patternCode := funext fun p => by cases p <;> rfl
  have hslot (o : Option Slot) : slotBytes o = [slotByte o] ++ (slotTimes o ++ slotBandRank o) := by
    cases o with
    | none => rfl
    | some x => obtain ⟨startIn, endIn, aid, band, urgent, rank, g⟩ := x; cases g <;> cases aid <;> cases urgent <;> rfl
  have hbyte : byte = byteOf := rfl
  have hword : word = wordOf := rfl
  have hsources : sources = sourceByte := funext fun s => by
    show byte (bit s.hold.preempt + 2 * bit s.hold.street + 4 * bit s.hold.maint) = _
    rw [hbit]; rfl
  have hone (c : PortCommand) (hc : c ≠ .rstrt) (content : List Byte) (ops : List Byte) (hf : commandFault c ops = none)
      (hrun : runCommand c ops (later s) = (later s, .ok, content)) :
      exec (portInstr c ops false) s =
        .next (settle (withReply (0x00 :: commandCode c :: BitVec.ofNat 8 content.length :: content) (later s))) := by
    rw [exec_command hr hc, takeCommand_reads hf hrun]
  refine ⟨?_, ?_, fun b hb => ?_, fun l => ⟨legContent_length s l, ?_⟩, fun b hb => ?_, fun i => ?_, rfl, rfl, ?_, ?_⟩
  case refine_1 => exact hone .stat (by decide) _ [] rfl rfl
  case refine_2 =>
    rw [hbit, hcause, hisolation, hbyte, hword, hsources]
    unfold statContent flagBytes quietByte
    simp only [List.cons_append, List.nil_append, List.cons.injEq, and_true, true_and, List.append_cancel_left_eq]
    refine ⟨congrArg byteOf ?_, congrArg byteOf ?_, congrArg byteOf ?_, congrArg byteOf ?_, congrArg byteOf (congrArg (· + _) ?_)⟩
    · cases s.mode <;> rfl
    · cases s.faultCheck <;> rfl
    · cases s.cfg <;> rfl
    · cases s.cfg <;> rfl
    · cases s.port.quietMode <;> rfl
  case refine_3 =>
    have hrange : operandsInRange .leg [b] = true := decide_eq_true hb
    have h := hone .leg (by decide) _ [b] (commandFault_none rfl hrange) rfl
    rw [legContent_length] at h
    rw [← legOperand_of]
    exact h
  case refine_4 =>
    rw [hbit, hcount, hleg, hphase, hpattern, hbyte, hword, legContent_eq, configBytes_eq, hslot]
    simp only [List.cons_append, List.nil_append, List.cons.injEq, true_and, List.append_assoc]
    have htail {a b c : List Byte} (h : b = c) : a ++ b = a ++ c := congrArg (a ++ ·) h
    by_cases ht : timedState (s.legs.get l).state = true
    · rw [if_pos ht, if_pos (show timed (s.legs.get l).state from (timedState_iff _).mp ht)]
      cases callOf s l <;> exact htail rfl
    · rw [if_neg ht, if_neg (show ¬timed (s.legs.get l).state from fun h => ht ((timedState_iff _).mpr h))]
      cases callOf s l <;> exact htail rfl
  case refine_5 =>
    have hrange : operandsInRange .tread [b] = true := decide_eq_true hb
    have hlen := treadContent_length (later s) b.toNat
    have h := hone .tread (by decide) _ [b] (commandFault_none rfl hrange) rfl
    rw [show operand [b] 0 = b.toNat from rfl, hlen] at h
    refine h.trans (congrArg (fun n => Host.Outcome.next (settle (withReply (0x00 :: 0x03 :: n :: treadContent (later s) b.toNat) (later s)))) ?_)
    show BitVec.ofNat 8 (if b.toNat < s.table.length then 18 else 2) = _
    split <;> rfl
  case refine_6 =>
    rw [hbyte, hword, hleg, hphase]
    unfold treadContent
    cases s.table[i]? with
    | none => rfl
    | some c =>
      dsimp only
      rw [heardByte_eq, hslot]
      simp only [List.cons_append, List.nil_append, List.append_assoc]
      cases s.heard.find? (fun h => decide (h.station = c.station)) <;> rfl
  case refine_7 =>
    have h := hone .holders (by decide) _ [] rfl rfl
    rw [holdersContent_length] at h
    exact h
  case refine_8 => exact hone .cnts (by decide) _ [] rfl rfl

end Sys2Proof.Machine
end

section
/-! A hold on the legs (R143, R12 to R16): what each leg's record, slot and request are once the Hold Unit has reported that the source
set is no longer empty, or is empty again. -/

namespace Sys2Proof.Machine

/-! ### A leg with its slot and its request -/

/-- What a report of the Hold Unit reads and writes of a leg: its record, its slot's record, its request in the queue. -/
structure LegView where
  leg : LegRec
  slot : SlotRec
  request : Option (Entry LegReq)

def viewOf (s : State) (l : LegId) : LegView := ⟨s.legs.get l, s.slots.get l, s.line.queue.legs.get l⟩

theorem viewOf_congr {ps : List Part} {s t : State} (h : ChangesOnly ps s t) (hd : partsApart ps [.legs, .slots, .line] = true) (l : LegId) :
    viewOf t l = viewOf s l := by
  have hlegs : t.legs = s.legs := h.of_apart hd .legs (by decide)
  have hslots : t.slots = s.slots := h.of_apart hd .slots (by decide)
  have hline : t.line = s.line := h.of_apart hd .line (by decide)
  rw [viewOf, hlegs, hslots, hline, viewOf]

theorem viewOf_settle (s : State) (l : LegId) : viewOf (settle s) l = viewOf s l := viewOf_congr (settle_touches s) rfl l

theorem viewOf_updLeg (l : LegId) (f : LegRec → LegRec) (s : State) :
    viewOf (updLeg l f s) l = { viewOf s l with leg := f (s.legs.get l) } := by simp [viewOf]

theorem viewOf_updLeg_other (l : LegId) (f : LegRec → LegRec) (s : State) : viewOf (updLeg l f s) (otherLeg l) = viewOf s (otherLeg l) := by
  simp [viewOf]

theorem viewOf_withLeg (l : LegId) (r : LegRec) (s : State) :
    viewOf (withLeg l r s) l = { viewOf s l with leg := r } ∧ viewOf (withLeg l r s) (otherLeg l) = viewOf s (otherLeg l) := by
  simp [viewOf, withLeg]

theorem viewOf_updSlot (l : LegId) (f : SlotRec → SlotRec) (s : State) :
    viewOf (updSlot l f s) l = { viewOf s l with slot := f (s.slots.get l) } := by simp [viewOf]

theorem viewOf_updSlot_other (l : LegId) (f : SlotRec → SlotRec) (s : State) :
    viewOf (updSlot l f s) (otherLeg l) = viewOf s (otherLeg l) := by
  simp [viewOf]

/-- The request of a leg once another has reached the queue (R51). -/
def requested (s : State) (k : LegReq) (o : Option (Entry LegReq)) : Option (Entry LegReq) :=
  if acceptsLeg s k then some { kind := k, stamp := s.clock, sending := false } else o

theorem viewOf_enqueueLeg (l : LegId) (k : LegReq) (s : State) :
    viewOf (enqueueLeg l k s) l = { viewOf s l with request := requested s k (viewOf s l).request } := by
  unfold requested
  cases ha : acceptsLeg s k with
  | true => rw [enqueueLeg_line ha]; simp [viewOf]
  | false => rw [enqueueLeg_refused ha]; rfl

theorem viewOf_enqueueLeg_other (l : LegId) (k : LegReq) (s : State) :
    viewOf (enqueueLeg l k s) (otherLeg l) = viewOf s (otherLeg l) := by
  cases ha : acceptsLeg s k with
  | true => rw [enqueueLeg_line ha]; simp [viewOf]
  | false => rw [enqueueLeg_refused ha]

/-- The parts that decide on a request and on a leg's times. -/
def requestParts : List Part := [.cfg, .mode, .clock]

theorem acceptsLeg_congr {s t : State} (hm : t.mode = s.mode) (hc : t.cfg = s.cfg) (k : LegReq) : acceptsLeg t k = acceptsLeg s k := by
  cases k <;> simp only [acceptsLeg, acceptsAny, hm, hc]

theorem requested_congr {ps : List Part} {s t : State} (h : ChangesOnly ps s t) (hd : partsApart ps requestParts = true) :
    requested t = requested s := by
  funext k o
  rw [requested, acceptsLeg_congr (h.of_apart hd .mode (by decide)) (h.of_apart hd .cfg (by decide)) k,
    show t.clock = s.clock from h.of_apart hd .clock (by decide)]
  rfl

/-! ### A hold taken (R12 to R15, R113) -/

/-- A slot withdrawn: where there is one it goes, and a CEDE is queued (R113). -/
def LegView.withdrawn (s : State) (v : LegView) : LegView :=
  if v.slot.slot.isSome then { v with slot := v.slot.removeSlot, request := requested s .cede v.request } else v

theorem viewOf_withdraw (l : LegId) (s : State) : viewOf (withdraw l s) l = (viewOf s l).withdrawn s := by
  have hslot : (viewOf s l).slot.slot = slotOf s l := rfl
  unfold withdraw LegView.withdrawn
  rw [hslot]
  split
  · rw [viewOf_enqueueLeg, removeSlot, viewOf_updSlot]; rfl
  · rfl

theorem viewOf_withdraw_other (l : LegId) (s : State) : viewOf (withdraw l s) (otherLeg l) = viewOf s (otherLeg l) := by
  unfold withdraw
  split
  · rw [viewOf_enqueueLeg_other, removeSlot, viewOf_updSlot_other]
  · rfl

/-- The leg's record and slot with a new record of the leg. -/
def LegView.become (v : LegView) (r : LegRec) : LegView := { v with leg := r }

/-- The leg's slot with a new end. -/
def LegView.ending (v : LegView) (n : Nat) : LegView := { v with slot := { v.slot with slot := v.slot.slot.map (fun x => { x with endIn := n }) } }

/-- The record of a leg in WALK that a hold reaches (R14). -/
def LegRec.walkHeld (c : LegConfig) (r : LegRec) : LegRec :=
  if c.wmin - r.walkElapsed = 0 then
    { r with state := .clearance, interval := .load c.kp, clearanceCut := false, flashOn := true, flash := .load 5 }
  else { r with clearanceCut := true, interval := .load (c.wmin - r.walkElapsed), walkLength := c.wmin }

def LegRec.cancelled (r : LegRec) : LegRec := { r with walkCancelled := true }

def LegRec.timed (n : Nat) (r : LegRec) : LegRec := { r with interval := .load n }

/-- A leg that has taken the report of a new hold (R12 to R15). -/
def LegView.held (s : State) (l : LegId) (v : LegView) : LegView :=
  let c := legConf s l
  let r := v.leg
  match r.state with
  | .rest | .called => v.become { r with state := .held }
  | .claimed | .committed => (v.become { r with state := .held }).withdrawn s
  | .amber => (v.become r.cancelled).withdrawn s
  | .allRedIn => (v.become { r with state := .allRedOut, interval := .load c.rout, flash := r.flash.freeze }).withdrawn s
  | .walk => (v.become (r.walkHeld c)).ending (c.wmin - r.walkElapsed + c.kp)
  | .clearance => if c.kp < r.interval.count then (v.become (r.timed c.kp)).ending c.kp else v
  | .allRedOut | .held | .start | .flash => v

theorem LegView.held_congr {ps : List Part} {s t : State} (h : ChangesOnly ps s t) (hd : partsApart ps requestParts = true) (l : LegId)
    (v : LegView) : v.held t l = v.held s l := by
  have hconf : legConf t l = legConf s l := legConf_congr (h.of_apart hd .cfg (by decide)) l
  have hwithdrawn : LegView.withdrawn t = LegView.withdrawn s := by
    funext w; rw [LegView.withdrawn, requested_congr h hd, LegView.withdrawn]
  unfold LegView.held
  rw [hconf, hwithdrawn]

/-- The leg's record and the length of its slot under a hold in WALK, the flag apart (R14). -/
def walkCut (l : LegId) (s : State) : State :=
  let s' := updLeg l (fun r => { r with clearanceCut := true }) s
  if remainingWalk s l = 0 then enterClearance l s'
  else updLeg l (fun r => { r with interval := .load (remainingWalk s l), walkLength := (legConf s l).wmin }) s'

theorem holdInWalk_eq (l : LegId) (s : State) :
    holdInWalk l s =
      onSlot l (fun x => { x with endIn := remainingWalk s l + (legConf s l).kp }) (setFlagIf
        (decide (remainingWalk s l < (s.legs.get l).interval.count) || decide ((legConf s l).kp < (legConf s l).clear)) .truncated
        (walkCut l s)) := rfl

theorem viewOf_walkCut (l : LegId) (s : State) :
    viewOf (walkCut l s) l = (viewOf s l).become ((s.legs.get l).walkHeld (legConf s l)) ∧
      viewOf (walkCut l s) (otherLeg l) = viewOf s (otherLeg l) := by
  unfold walkCut LegRec.walkHeld; extract_lets s'
  have hrest : remainingWalk s l = (legConf s l).wmin - (s.legs.get l).walkElapsed := rfl
  have hself : viewOf s' l = (viewOf s l).become { s.legs.get l with clearanceCut := true } := viewOf_updLeg l _ s
  have hother : viewOf s' (otherLeg l) = viewOf s (otherLeg l) := viewOf_updLeg_other l _ s
  rw [← hrest]
  by_cases h0 : remainingWalk s l = 0
  · rw [if_pos h0, if_pos h0]
    have hch := enterClearance_touches_kerbs l s'
    rw [viewOf_congr hch rfl, viewOf_congr hch rfl]
    refine ⟨(viewOf_withLeg l _ s').1.trans ?_, (viewOf_withLeg l _ s').2.trans hother⟩
    have hleg : s'.legs.get l = { s.legs.get l with clearanceCut := true } := congrArg LegView.leg hself
    rw [hself, hleg]; rfl
  · rw [if_neg h0, if_neg h0]
    refine ⟨(viewOf_updLeg l _ s').trans ?_, (viewOf_updLeg_other l _ s').trans hother⟩
    have hleg : s'.legs.get l = { s.legs.get l with clearanceCut := true } := congrArg LegView.leg hself
    rw [hself, hleg]; rfl

theorem viewOf_onSlot (l : LegId) (n : Nat) (s : State) :
    viewOf (onSlot l (fun x => { x with endIn := n }) s) l = (viewOf s l).ending n ∧
      viewOf (onSlot l (fun x => { x with endIn := n }) s) (otherLeg l) = viewOf s (otherLeg l) :=
  ⟨viewOf_updSlot l _ s, viewOf_updSlot_other l _ s⟩

theorem viewOf_holdInWalk (l : LegId) (s : State) :
    viewOf (holdInWalk l s) l = ((viewOf s l).become ((s.legs.get l).walkHeld (legConf s l))).ending
        ((legConf s l).wmin - (s.legs.get l).walkElapsed + (legConf s l).kp) ∧
      viewOf (holdInWalk l s) (otherLeg l) = viewOf s (otherLeg l) := by
  obtain ⟨hself, hother⟩ := viewOf_walkCut l s
  rw [holdInWalk_eq, (viewOf_onSlot l _ _).1, (viewOf_onSlot l _ _).2, viewOf_congr (setFlagIf_touches _ _ (walkCut l s)) rfl,
    viewOf_congr (setFlagIf_touches _ _ (walkCut l s)) rfl]
  exact ⟨by rw [hself]; rfl, hother⟩

theorem viewOf_holdInClearance (l : LegId) (s : State) :
    viewOf (holdInClearance l s) l =
        (if (legConf s l).kp < (s.legs.get l).interval.count then
          ((viewOf s l).become ((s.legs.get l).timed (legConf s l).kp)).ending (legConf s l).kp
        else viewOf s l) ∧
      viewOf (holdInClearance l s) (otherLeg l) = viewOf s (otherLeg l) := by
  unfold holdInClearance
  dsimp only
  split
  · rw [(viewOf_onSlot l _ _).1, (viewOf_onSlot l _ _).2, viewOf_congr (setFlag_touches _ _) rfl, viewOf_congr (setFlag_touches _ _) rfl,
      viewOf_updLeg, viewOf_updLeg_other]
    exact ⟨rfl, rfl⟩
  · exact ⟨rfl, rfl⟩

theorem viewOf_holdLeg (l : LegId) (s : State) :
    viewOf (holdLeg l s) l = (viewOf s l).held s l ∧ viewOf (holdLeg l s) (otherLeg l) = viewOf s (otherLeg l) := by
  have hwithdraw (f : LegRec → LegRec) : viewOf (withdraw l (updLeg l f s)) l = ((viewOf s l).become (f (s.legs.get l))).withdrawn s ∧
      viewOf (withdraw l (updLeg l f s)) (otherLeg l) = viewOf s (otherLeg l) := by
    rw [viewOf_withdraw, viewOf_withdraw_other, viewOf_updLeg, viewOf_updLeg_other]
    exact ⟨rfl, rfl⟩
  have hleg : (viewOf s l).leg.state = legState s l := rfl
  unfold holdLeg LegView.held
  dsimp only
  rw [hleg]
  cases legState s l with
  | rest | called => exact ⟨viewOf_updLeg l _ s, viewOf_updLeg_other l _ s⟩
  | claimed | committed | amber | allRedIn => exact hwithdraw _
  | walk => exact viewOf_holdInWalk l s
  | clearance => exact viewOf_holdInClearance l s
  | allRedOut | held | start | flash => exact ⟨rfl, rfl⟩

/-! ### The report reaches each leg in use -/

/-- As `forLegs_each`, with either leg first. -/
theorem forLegs_pair {α : Type} {ps : List Part} {f : LegId → State → State} {s : State} (get : State → LegId → α) {R : LegId → α → α → Prop}
    (hf : ∀ l, Touches ps (f l)) (hcfg : Part.cfg ∉ ps)
    (hself : ∀ l t, ChangesOnly ps s t → R l (get t l) (get (f l t) l))
    (hother : ∀ l t, ChangesOnly ps s t → get (f l t) (otherLeg l) = get t (otherLeg l)) (a l : LegId) :
    (inUse s l = true → R l (get s l) (get (forLegs [a, otherLeg a] f s) l)) ∧
      (inUse s l = false → get (forLegs [a, otherLeg a] f s) l = get s l) := by
  change (inUse s l = true → R l (get s l)
      (get (if inUse (if inUse s a then f a s else s) (otherLeg a) then f (otherLeg a) (if inUse s a then f a s else s)
        else if inUse s a then f a s else s) l)) ∧
    (inUse s l = false → get (if inUse (if inUse s a then f a s else s) (otherLeg a) then f (otherLeg a) (if inUse s a then f a s else s)
        else if inUse s a then f a s else s) l = get s l)
  generalize hft : (if inUse s a then f a s else s) = t
  have ht : ChangesOnly ps s t := hft ▸ .ite (hf a s) (.refl _ s)
  have huse (m : LegId) : inUse t m = inUse s m := inUse_congr (ht .cfg hcfg) m
  have hta : (inUse s a = true → R a (get s a) (get t a)) ∧ (inUse s a = false → get t a = get s a) :=
    ⟨fun h => by rw [← hft, if_pos h]; exact hself a s (.refl _ s), fun h => by rw [← hft, if_neg (by simp [h])]⟩
  have htb : get t (otherLeg a) = get s (otherLeg a) := by
    rw [← hft]; split
    · exact hother a s (.refl _ s)
    · rfl
  have hback : get (f (otherLeg a) t) a = get t a := by
    have h := hother (otherLeg a) t ht
    rwa [otherLeg_otherLeg] at h
  rw [huse]
  obtain rfl | rfl : l = a ∨ l = otherLeg a := by cases l <;> cases a <;> simp [otherLeg]
  · split
    · rw [hback]; exact hta
    · exact hta
  · refine ⟨fun h => ?_, fun h => ?_⟩
    · rw [if_pos h, ← htb]; exact hself (otherLeg a) t ht
    · rw [if_neg (by simp [h])]; exact htb

theorem viewOf_reportHold (s : State) (l : LegId) :
    viewOf (reportHold s) l = if inUse s l then (viewOf s l).held s l else viewOf s l := by
  have h := forLegs_pair (s := s) viewOf (R := fun m v w => w = v.held s m) holdLeg_touches (by decide)
    (fun m t ht => by rw [(viewOf_holdLeg m t).1]; exact LegView.held_congr ht rfl m _) (fun m t _ => (viewOf_holdLeg m t).2) .leg0 l
  cases hu : inUse s l with
  | true => exact h.1 hu
  | false => exact h.2 hu

/-! ### A hold ended (R16, R5) -/

/-- What a leg is once it has taken the report of the end of a hold. -/
structure Unheld (s : State) (l : LegId) (v w : LegView) : Prop where
  other : v.leg.state ≠ .held → w = v
  rest : v.leg.state = .held → callOf s l = none → w = v.become { v.leg with state := .rest }
  called : v.leg.state = .held → (callOf s l).isSome = true → s.mode ≠ .isolated →
    w = { v.become { v.leg with state := .called } with request := requested s .bid v.request }
  placed : v.leg.state = .held → (callOf s l).isSome = true → s.mode = .isolated →
    w.leg = { v.leg with state := .committed } ∧ w.slot.slot.any (fun x => decide (x.stage = .committed)) = true ∧ w.request = v.request

theorem reportEligible_other (l : LegId) (s : State) : viewOf (reportEligible l s) (otherLeg l) = viewOf s (otherLeg l) := by
  by_cases hm : s.mode = .isolated
  · rw [reportEligible_isolated hm]
    cases hc : callOf s l with
    | none => unfold placeIsolated; rw [hc]
    | some c =>
      by_cases hst : legState s l = .called
      · rw [placeIsolated_eq hm hst hc]
        simp [viewOf, withLeg, placed]
      · unfold placeIsolated
        rw [hc]
        dsimp only
        rw [if_neg hst]
  · rw [reportEligible_queues hm, viewOf_enqueueLeg_other]

theorem viewOf_unholdLeg_other (l : LegId) (s : State) : viewOf (unholdLeg l s) (otherLeg l) = viewOf s (otherLeg l) := by
  unfold unholdLeg
  split
  · split
    · rw [reportEligible_other, viewOf_updLeg_other]
    · rw [viewOf_updLeg_other]
  · rfl

theorem unheld_unholdLeg (l : LegId) (s : State) : Unheld s l (viewOf s l) (viewOf (unholdLeg l s) l) := by
  refine ⟨fun (h : legState s l ≠ .held) => ?_, fun (h : legState s l = .held) hc => ?_, fun (h : legState s l = .held) hc hm => ?_,
    fun (h : legState s l = .held) hc hm => ?_⟩
  · rw [unholdLeg, if_neg h]
  · rw [unholdLeg, if_pos h, hc, if_neg (by simp), viewOf_updLeg]; rfl
  · rw [unholdLeg, if_pos h, if_pos hc, reportEligible_queues (by exact hm), viewOf_enqueueLeg, viewOf_updLeg]; rfl
  · obtain ⟨c, hc⟩ := Option.isSome_iff_exists.mp hc
    have hcall : callOf (updLeg l (fun r => { r with state := .called }) s) l = some c := hc
    have hst : legState (updLeg l (fun r => { r with state := .called }) s) l = .called := legState_updLeg_self ..
    rw [unholdLeg, if_pos h, if_pos (by rw [hc]; rfl), reportEligible_isolated (by exact hm), placeIsolated_eq (by exact hm) hst hcall]
    simp [viewOf, withLeg, placed, slotOfBid]

theorem Unheld.congr {ps : List Part} {s t : State} (h : ChangesOnly ps s t) (hd : partsApart ps (.calls :: requestParts) = true)
    {l : LegId} {v w : LegView} (hu : Unheld t l v w) : Unheld s l v w := by
  have hmode : t.mode = s.mode := h.of_apart hd .mode (by decide)
  have hcfg : t.cfg = s.cfg := h.of_apart hd .cfg (by decide)
  have hclock : t.clock = s.clock := h.of_apart hd .clock (by decide)
  have hcalls : t.calls = s.calls := h.of_apart hd .calls (by decide)
  have hreq : requested t = requested s := by
    funext k o; rw [requested, acceptsLeg_congr hmode hcfg, hclock]; rfl
  obtain ⟨hother, hrest, hcalled, hplaced⟩ := hu
  rw [callOf, hcalls] at hrest hcalled hplaced
  rw [hmode] at hcalled hplaced
  rw [hreq] at hcalled
  exact ⟨hother, hrest, hcalled, hplaced⟩

/-- The state in which the legs take the report: the choice is counted where both are placed (R79). -/
def choiceCounted (s : State) : State :=
  if decide (s.mode = .isolated) && returnsCalled s .leg0 && returnsCalled s .leg1 then { s with choices := s.choices + 1 } else s

theorem reportHoldEnded_pair (s : State) : ∃ a, reportHoldEnded s = forLegs [a, otherLeg a] unholdLeg (choiceCounted s) := by
  obtain ⟨a, ha⟩ := placementOrder_pair (decide (s.mode = .isolated) && returnsCalled s .leg0 && returnsCalled s .leg1) s
  exact ⟨a, by rw [← ha]; rfl⟩

theorem choiceCounted_touches : Touches [.choices] choiceCounted := fun s => .ite (choose_touches s) (.refl _ s)

theorem viewOf_reportHoldEnded (s : State) (l : LegId) :
    (inUse s l = true → Unheld s l (viewOf s l) (viewOf (reportHoldEnded s) l)) ∧
      (inUse s l = false → viewOf (reportHoldEnded s) l = viewOf s l) := by
  obtain ⟨a, ha⟩ := reportHoldEnded_pair s
  have hc := choiceCounted_touches s
  have h := forLegs_pair (s := choiceCounted s) viewOf (R := fun m v w => Unheld s m v w) unholdLeg_touches (by decide)
    (fun m t ht => ((unheld_unholdLeg m t).congr ht rfl).congr hc rfl) (fun m t _ => viewOf_unholdLeg_other m t) a l
  rwa [← ha, viewOf_congr hc rfl, inUse_congr (hc .cfg (by decide))] at h

end Sys2Proof.Machine
end

section
/-! The hold sources (chapter 9): HOLD, QUIET and CALL at the port, the last holder's refresh countdown, and the frames that add and remove
holders. -/

namespace Sys2Proof.Machine

/-! ### A change of the sources, as the legs see it (R143) -/

theorem changeSources_started {f : Hold → Hold} {s : State} (hs : held s = false) (ht : held (updHold f s) = true) :
    changeSources f s = reportHold (updHold f s) := by
  simp [changeSources, hs, ht]

theorem updHold_only (f : Hold → Hold) (s : State) : ChangesOnly [.hold] s (updHold f s) := updHold_touches f s

theorem viewOf_changeSources_silent {f : Hold → Hold} {s : State} (h : held (updHold f s) = held s) (l : LegId) :
    viewOf (changeSources f s) l = viewOf s l := by
  rw [changeSources_silent h, viewOf_congr (updHold_only f s) rfl]

theorem viewOf_changeSources_started {f : Hold → Hold} {s : State} (hs : held s = false) (ht : held (updHold f s) = true) (l : LegId) :
    viewOf (changeSources f s) l = if inUse s l then (viewOf s l).held s l else viewOf s l := by
  have hc := updHold_only f s
  rw [changeSources_started hs ht, viewOf_reportHold, viewOf_congr hc rfl, inUse_congr (hc .cfg (by decide)), LegView.held_congr hc rfl]

theorem viewOf_changeSources_ended {f : Hold → Hold} {s : State} (hs : held s = true) (ht : held (updHold f s) = false) (l : LegId) :
    (inUse s l = true → Unheld s l (viewOf s l) (viewOf (changeSources f s) l)) ∧
      (inUse s l = false → viewOf (changeSources f s) l = viewOf s l) := by
  have hc := updHold_only f s
  have h := viewOf_reportHoldEnded (updHold f s) l
  rw [viewOf_congr hc rfl, inUse_congr (hc .cfg (by decide)), ← changeSources_ended hs ht] at h
  exact ⟨fun hu => (h.1 hu).congr hc rfl, h.2⟩

theorem held_changeSources (f : Hold → Hold) (s : State) : held (changeSources f s) = held (updHold f s) := by
  rw [held, changeSources_hold, held, updHold_hold]

/-! ### The flags that a report to the legs sets -/

theorem unholdLeg_flags (f : Flag) (l : LegId) : Keeps (fun s => flagSet s f = true) (unholdLeg l) := by
  intro s h
  unfold unholdLeg
  split
  · split
    · unfold reportEligible
      split
      · exact placeIsolated_flags f l _ h
      · exact (flagSet_reads f).keeps (enqueueLeg_touches l .bid) rfl _ h
    · exact h
  · exact h

theorem reportHoldEnded_flags (f : Flag) : Keeps (fun s => flagSet s f = true) reportHoldEnded := by
  intro s h
  obtain ⟨a, ha⟩ := reportHoldEnded_pair s
  rw [ha]
  exact forLegs_keeps (unholdLeg_flags f) _ _ ((flagSet_reads f).keeps choiceCounted_touches rfl _ h)

/-! ### QUIET, HOLD and CALL (R179, R180) -/

theorem sourceByte_settle (s : State) : sourceByte (settle s) = sourceByte s := by
  rw [sourceByte, settle_hold_eq, sourceByte]

theorem quietByte_settle (s : State) : quietByte (settle s) = quietByte s := by
  have hinput : (settle s).quietInput = s.quietInput := settle_same .quietInput (by decide)
  rw [quietByte, quietActive, settle_port, hinput, quietByte, quietActive]

theorem statusCode_changed {α : Type} [DecidableEq α] (a b : α) : statusCode (changeStatus (decide (a ≠ b))) = if a = b then 0x01 else 0x00 := by
  by_cases h : a = b <;> simp [changeStatus, h, statusCode]

theorem exec_passed {s : State} (hr : s.resetHeld = false) {c : PortCommand} (hc : c ≠ .rstrt) {ops : List Byte}
    (hl : ops.length = operandCount c) (hrange : operandsInRange c ops = true) :
    exec (portInstr c ops false) s = .next (settle (putReply (runCommand c ops (later s)).2.1 (commandCode c) (runCommand c ops (later s)).2.2
      (runCommand c ops (later s)).1)) := by
  rw [exec_command hr hc, takeCommand_passed (commandFault_none hl hrange)]

theorem putReply_port (st : ReplyStatus) (code : Byte) (content : List Byte) (s : State) :
    (putReply st code content s).port = { s.port with reply := some (replyBytes st code content) } := rfl

theorem viewOf_putReply (st : ReplyStatus) (code : Byte) (content : List Byte) (s : State) (l : LegId) :
    viewOf (putReply st code content s) l = viewOf s l := rfl

theorem operand_eq_zero (b : Byte) (bs : List Byte) : operand (b :: bs) 0 = 0 ↔ b = 0#8 := BitVec.toNat_eq (x := b) (y := 0#8) |>.symm

theorem operand_eq_one (b : Byte) (bs : List Byte) : operand (b :: bs) 0 = 1 ↔ b = 1#8 := BitVec.toNat_eq (x := b) (y := 1#8) |>.symm

theorem quietOperand_of (b : Byte) :
    quietOperand [b] = if b = 0#8 then .follow else if b = 1#8 then .forceOn else .forceOff := by
  simp only [quietOperand, operand_eq_zero, operand_eq_one]

/-- The state in which HOLD's reply is put: the MAINT source as its operand says (R180). -/
def maintSet (on : Bool) (s : State) : State := changeSources (fun h => { h with maint := on }) s

theorem exec_hold {s : State} (hr : s.resetHeld = false) {b : Byte} (hb : b.toNat ≤ 1) :
    exec (.hold [b]) s = .next (settle (putReply (changeStatus (s.hold.maint != decide (b = 1#8))) 0x12
      [sourceByte (maintSet (decide (b = 1#8)) (later s))] (maintSet (decide (b = 1#8)) (later s)))) := by
  have hon : decide (operand [b] 0 = 1) = decide (b = 1#8) := decide_eq_decide.mpr (operand_eq_one b [])
  rw [← hon]
  exact exec_passed (c := .hold) hr (by decide) rfl (decide_eq_true hb)

/-- Settles O46: the quiet mode is the port's; MAINT is a change of the sources; CALL is a press. -/
theorem settingCommands : Obligations.SettingCommands := by
  unfold Obligations.SettingCommands
  intro s hr
  refine ⟨fun b hb => ?_, fun b hb => ?_, fun a b ha hb => ?_⟩
  case refine_1 =>
    intro m
    have hm : quietOperand [b] = m := quietOperand_of b
    have hexec := exec_passed (c := .quiet) hr (by decide) (ops := [b]) rfl (decide_eq_true hb)
    refine ⟨_, hexec, ?_, exec_changes (c := .quiet [b]) hexec rfl⟩
    rw [settle_port, quietByte_settle]
    change ({ s.port with quietMode := quietOperand [b], reply := some _ } : Port) = _
    rw [hm]
    refine congrArg (fun r => ({ s.port with quietMode := m, reply := some r } : Port)) ?_
    change [statusCode (changeStatus (decide (s.port.quietMode ≠ quietOperand [b]))), 0x13, 1, _] = _
    rw [statusCode_changed, hm]
    show _ = [_, _, _, quietByte (updPort (fun p => { p with quietMode := quietOperand [b] }) (later s))]
    rw [hm]
  case refine_2 =>
    generalize hon : decide (b = 1#8) = on
    have hexec := exec_hold hr hb
    rw [hon] at hexec
    have hhold : (maintSet on (later s)).hold = { s.hold with maint := on } := changeSources_hold _ _
    have hheld : held (maintSet on (later s)) = held (updHold (fun h => { h with maint := on }) (later s)) := held_changeSources _ _
    have hview (l : LegId) (st : ReplyStatus) (code : Byte) (content : List Byte) :
        viewOf (settle (putReply st code content (maintSet on (later s)))) l = viewOf (maintSet on (later s)) l := viewOf_settle _ l
    have hset := settle_hold_eq (putReply (changeStatus (s.hold.maint != on)) 0x12 [sourceByte (maintSet on (later s))] (maintSet on (later s)))
    rw [show ∀ st code content u, (putReply st code content u).hold = u.hold from fun _ _ _ _ => rfl, hhold] at hset
    have hheldt : held (settle (putReply (changeStatus (s.hold.maint != on)) 0x12 [sourceByte (maintSet on (later s))]
        (maintSet on (later s)))) = held (updHold (fun h => { h with maint := on }) (later s)) := by
      rw [held_settle]; exact hheld
    refine ⟨_, hexec, ?_, ?_, ?_, ?_, ?_, fun hs hb1 l hu hst => ?_, fun hs ht hm l hu hst => ?_, fun hsame => ?_⟩
    · rw [hset]
    · rw [hset]
    · rw [hset]
    · rw [hset]
    · rw [settle_port, sourceByte_settle]
      refine congrArg some (congrArg (· :: _) ?_)
      cases s.hold.maint <;> cases on <;> rfl
    · have h1 : on = true := by rw [← hon, hb1]; rfl
      have hstart : held (updHold (fun h => { h with maint := on }) (later s)) = true := by
        rw [held, updHold_hold, h1]; simp
      have hv := viewOf_changeSources_started (s := later s) (f := fun h => { h with maint := on }) hs hstart l
      rw [if_pos (show inUse (later s) l = true from hu)] at hv
      refine (congrArg (fun v => v.leg.state) ((hview l _ _ _).trans hv)).trans ?_
      have hleg : (viewOf (later s) l).leg.state = legState s l := rfl
      unfold LegView.held
      dsimp only
      rw [hleg]
      obtain hst | hst := hst <;> rw [hst] <;> rfl
    · rw [hheldt] at ht
      have hv := (viewOf_changeSources_ended (s := later s) (f := fun h => { h with maint := on }) hs ht l).1 hu
      refine (congrArg (fun v => v.leg.state) (hview l _ _ _)).trans ?_
      cases hc : callOf s l with
      | none => rw [show maintSet on (later s) = changeSources _ _ from rfl, hv.rest hst hc]; rfl
      | some c =>
        rw [show maintSet on (later s) = changeSources _ _ from rfl,
          hv.called hst (by rw [show callOf (later s) l = callOf s l from rfl, hc]; rfl) hm]
        rfl
    · rw [hheldt] at hsame
      apply Legs.ext_get
      intro l
      exact congrArg LegView.leg ((hview l _ _ _).trans (viewOf_changeSources_silent (s := later s) hsame.symm l))
  case refine_3 =>
    intro l p
    have hrange : operandsInRange .call [a, b] = true := by
      change (decide (a.toNat ≤ 1) && decide (b.toNat ≤ 1)) = true
      simp [ha, hb]
    have hl : legOperand [a, b] = l := by
      show (if operand [a, b] 0 = 0 then LegId.leg0 else .leg1) = if a = 0#8 then .leg0 else .leg1
      simp only [operand_eq_zero]
    have hk : kindOperand [a, b] = if b = 0#8 then .plain else .aid := by
      show (if operand [b] 0 = 0 then Kind.plain else .aid) = _
      simp only [operand_eq_zero]
    have hp : takePress (legOperand [a, b]) .a (kindOperand [a, b]) (later s) = p := by rw [hl, hk]
    refine (exec_passed (c := .call) hr (by decide) rfl hrange).trans ?_
    change Host.Outcome.next (settle (putReply .ok 0x11
      ([byteOf (outcomeCode (takePress (legOperand [a, b]) .a (kindOperand [a, b]) (later s)).2),
        byteOf (callBits (callOf (takePress (legOperand [a, b]) .a (kindOperand [a, b]) (later s)).1 (legOperand [a, b])))] ++
        wordOf (waitedOf (callOf (takePress (legOperand [a, b]) .a (kindOperand [a, b]) (later s)).1 (legOperand [a, b]))))
      (takePress (legOperand [a, b]) .a (kindOperand [a, b]) (later s)).1)) = _
    rw [hp, hl]
    rfl

end Sys2Proof.Machine
end

section
/-! The holders of the clearway (R151 to R153): their refresh countdowns, with the other foreign counts that run out (R69, R72), and the
frames that add and remove them, with the hold taken and let go. -/

namespace Sys2Proof.Machine

/-! ### TRUNCATED where a hold makes something shorter (R14, R15) -/

theorem holdInWalk_flags (f : Flag) (l : LegId) : Keeps (fun s => flagSet s f = true) (holdInWalk l) := by
  intro s h
  rw [holdInWalk_eq]
  have hcut : flagSet (walkCut l s) f = true := by
    unfold walkCut; extract_lets s'
    split
    · exact (flagSet_reads f).keeps (enterClearance_touches l) rfl s' h
    · exact h
  exact setFlagIf_keeps f .truncated _ _ hcut

theorem holdInClearance_flags (f : Flag) (l : LegId) : Keeps (fun s => flagSet s f = true) (holdInClearance l) := by
  intro s h
  unfold holdInClearance
  dsimp only
  split
  · exact setFlag_keeps f .truncated _ h
  · exact h

theorem holdLeg_flags (f : Flag) (l : LegId) : Keeps (fun s => flagSet s f = true) (holdLeg l) := by
  intro s h
  have hwithdraw : Keeps (fun s => flagSet s f = true) (withdraw l) := (flagSet_reads f).keeps (withdraw_touches l) rfl
  unfold holdLeg
  cases legState s l with
  | rest | called | allRedOut | held | start | flash => exact h
  | claimed | committed | amber | allRedIn => exact hwithdraw _ h
  | walk => exact holdInWalk_flags f l s h
  | clearance => exact holdInClearance_flags f l s h

/-- A hold makes the walk or the clearance of the leg shorter (R14, R15). -/
def holdShortens (s : State) (l : LegId) : Prop :=
  let c := legConf s l
  let r := s.legs.get l
  (r.state = .walk ∧ (c.wmin - r.walkElapsed < r.interval.count ∨ c.kp < c.clear)) ∨
    (r.state = .clearance ∧ c.kp < r.interval.count)

theorem holdLeg_truncated {s : State} {l : LegId} (h : holdShortens s l) : flagSet (holdLeg l s) .truncated = true := by
  obtain ⟨hst, hshort⟩ | ⟨hst, hshort⟩ := h
  · have hstate : legState s l = .walk := hst
    unfold holdLeg
    rw [hstate]
    dsimp only
    have hif : (decide (remainingWalk s l < (s.legs.get l).interval.count) || decide ((legConf s l).kp < (legConf s l).clear)) = true := by
      rw [Bool.or_eq_true, decide_eq_true_iff, decide_eq_true_iff]; exact hshort
    rw [holdInWalk_eq, hif]
    exact flagSet_setFlag_self .truncated (walkCut l s)
  · have hstate : legState s l = .clearance := hst
    unfold holdLeg holdInClearance
    rw [hstate]
    dsimp only
    rw [if_pos hshort]
    exact flagSet_setFlag_self .truncated _

theorem reportHold_truncated {s : State} {l : LegId} (hu : inUse s l = true) (h : holdShortens s l) :
    flagSet (reportHold s) .truncated = true := by
  have hkeeps := holdLeg_flags .truncated
  rw [reportHold, forLegs_both]
  cases l with
  | leg0 =>
    dsimp only
    rw [if_pos hu]
    split
    · exact hkeeps .leg1 _ (holdLeg_truncated h)
    · exact holdLeg_truncated h
  | leg1 =>
    dsimp only
    generalize hft : (if inUse s .leg0 then holdLeg .leg0 s else s) = t
    have ht : ChangesOnly [.legs, .slots, .line, .kerbs, .links, .port] s t := hft ▸ .ite (holdLeg_touches .leg0 s) (.refl _ s)
    have hleg : t.legs.get .leg1 = s.legs.get .leg1 := by
      rw [← hft]; split
      · exact congrArg LegView.leg (viewOf_holdLeg .leg0 s).2
      · rfl
    rw [if_pos ((inUse_congr (ht .cfg (by decide)) _).trans hu)]
    refine holdLeg_truncated ?_
    rw [holdShortens, hleg, legConf_congr (ht .cfg (by decide))]
    exact h

/-! ### Foreign counts that run out (R69, R72, R152) -/

/-- The Hold Unit with its holders as f leaves them (R153). -/
def Hold.withHolders (f : List Holder → List Holder) (h : Hold) : Hold :=
  { h with holders := f h.holders, street := !(f h.holders).isEmpty }

theorem changeHolders_eq (f : List Holder → List Holder) (s : State) : changeHolders f s = changeSources (Hold.withHolders f) s := rfl

theorem dropHolder_eq (st : Nat) (hs : List Holder) : dropHolder st hs = hs.filter (fun h => decide (h.station ≠ st)) := by
  simp only [dropHolder, decide_not]

theorem dropHolder_last {st : Nat} {hs : List Holder} (h : ∀ x ∈ hs, x.station = st) : dropHolder st hs = [] := by
  rw [dropHolder, List.filter_eq_nil_iff]
  exact fun x hx => by simp [h x hx]

theorem dropHeard_eq (st : Nat) (hs : List HeardCount) : dropHeard st hs = hs.filter (fun h => decide (h.station ≠ st)) := by
  simp only [dropHeard, decide_not]

/-- Settles O34: the counts' removals; the last holder's lets the legs go, which is what `Unheld` says of each. -/
theorem foreignCountsExpire : Obligations.ForeignCountsExpire := by
  unfold Obligations.ForeignCountsExpire
  intro st s hr
  refine ⟨fun h => ?_, fun l h => ?_, fun h hsrc => ?_, fun h hp hm hst hlast => ?_⟩
  · rw [exec_expiry (c := .heardExpiry st) hr rfl h]
    have hremove : removeStation st.toNat s = { s with
        table := s.table.filter (fun c => decide (c.station ≠ st.toNat)), heard := s.heard.filter (fun h => decide (h.station ≠ st.toNat)) } := by
      rw [removeStation, dropHeard_eq]; simp only [decide_not]
    exact congrArg (fun t => Host.Outcome.next (settle t)) hremove
  · exact exec_expiry (c := .tableSlotExpiry st l) hr rfl h
  · rw [exec_expiry (c := .refreshExpiry st) hr rfl h]
    have hheld (u : State) (hu : u.hold = s.hold) : held (updHold (Hold.withHolders (dropHolder st.toNat)) u) = held u := by
      rw [held, held, updHold_hold, hu]
      obtain hsrc | hsrc := hsrc <;> simp [Hold.withHolders, hsrc]
    have hdone : refreshDone st.toNat s = updHold (Hold.withHolders (dropHolder st.toNat)) (setFlag .clearwayExpired s) := by
      rw [refreshDone, changeHolders_eq, changeSources_silent (hheld (setFlag .clearwayExpired s) rfl)]
    have hhold : s.hold.withHolders (dropHolder st.toNat) = { s.hold with
        holders := s.hold.holders.filter (fun h => decide (h.station ≠ st.toNat)),
        street := !(s.hold.holders.filter (fun h => decide (h.station ≠ st.toNat))).isEmpty } := by
      rw [Hold.withHolders, dropHolder_eq]
    change Host.Outcome.next (settle (refreshDone st.toNat s)) = _
    rw [hdone, ← hhold]
    rfl
  · have hheld : held (setFlag .clearwayExpired s) = true := by simp [held, hst]
    have hempty : s.hold.withHolders (dropHolder st.toNat) = { s.hold with holders := [], street := false } := by
      rw [Hold.withHolders, dropHolder_last hlast]; rfl
    have hended : held (updHold (Hold.withHolders (dropHolder st.toNat)) (setFlag .clearwayExpired s)) = false := by
      rw [held, updHold_hold, setFlag_hold, hempty]; simp [hp, hm]
    have hflag : ChangesOnly [.port] s (setFlag .clearwayExpired s) := setFlag_touches _ s
    have hexec := exec_expiry (c := .refreshExpiry st) hr rfl h
    have hhold : (settle (refreshDone st.toNat s)).hold = { s.hold with
        holders := [], street := false, side := (settle (refreshDone st.toNat s)).hold.side, pha := (settle (refreshDone st.toNat s)).hold.pha } := by
      have h0 : (refreshDone st.toNat s).hold = { s.hold with holders := [], street := false } :=
        (changeSources_hold _ _).trans hempty
      rw [settle_hold_eq, h0]
    have hview (l : LegId) : viewOf (settle (refreshDone st.toNat s)) l = viewOf (refreshDone st.toNat s) l := viewOf_settle _ l
    have hdone : refreshDone st.toNat s = changeSources (Hold.withHolders (dropHolder st.toNat)) (setFlag .clearwayExpired s) := rfl
    have hlegs (l : LegId) := viewOf_changeSources_ended (f := Hold.withHolders (dropHolder st.toNat)) hheld hended l
    simp only [← hdone, viewOf_congr hflag rfl, inUse_congr (hflag .cfg (by decide))] at hlegs
    have hchanges : ChangesOnly [.legs, .slots, .line, .hold, .port, .choices, .lamps] s (settle (refreshDone st.toNat s)) := by
      rw [hdone, changeSources_ended hheld hended]
      exact .after settle_touches (by decide) (.after reportHoldEnded_touches (by decide) (.after (updHold_touches _) (by decide)
        (hflag.mono (by decide))))
    have hunheld (l : LegId) (hu : inUse s l = true) : Unheld s l (viewOf s l) (viewOf (refreshDone st.toNat s) l) :=
      ((hlegs l).1 hu).congr hflag rfl
    refine ⟨_, hexec, ?_, ?_, ?_, ?_, ?_, fun l hu hl => ⟨fun hc => ?_, fun c hc => ⟨fun hmode => ?_, fun hmode => ?_⟩⟩, fun l hno => ?_,
      hchanges⟩
    · exact congrArg Hold.holders hhold
    · exact congrArg Hold.street hhold
    · exact (congrArg Hold.preempt hhold).trans hp
    · exact (congrArg Hold.maint hhold).trans hm
    · change flagSet (settle (refreshDone st.toNat s)) .clearwayExpired = true
      rw [flagSet_settle, hdone, changeSources_ended hheld hended]
      exact reportHoldEnded_flags .clearwayExpired _ (flagSet_setFlag_self .clearwayExpired s)
    · have hw := (hview l).trans ((hunheld l hu).rest hl hc)
      exact ⟨congrArg LegView.leg hw, congrArg LegView.slot hw⟩
    · have hw := (hview l).trans ((hunheld l hu).called hl (by rw [hc]; rfl) hmode)
      refine ⟨congrArg LegView.leg hw, congrArg LegView.slot hw, fun hrun hcfg => ?_⟩
      refine (congrArg LegView.request hw).trans ?_
      show requested s .bid _ = _
      rw [requested, if_pos]
      simp [acceptsLeg, hcfg, hrun]
    · obtain ⟨hleg, hslot, -⟩ := (hunheld l hu).placed hl (by rw [hc]; rfl) hmode
      exact ⟨(congrArg LegView.leg (hview l)).trans hleg, by
        rw [slotOf_settle]; exact hslot⟩
    · have hsame : viewOf (settle (refreshDone st.toNat s)) l = viewOf s l := by
        rw [hview]
        cases hu : inUse s l with
        | false => exact (hlegs l).2 hu
        | true => exact (hunheld l hu).other (hno.resolve_left (by rw [hu]; decide))
      exact ⟨congrArg LegView.leg hsame, congrArg LegView.slot hsame, congrArg LegView.request hsame⟩

/-! ### Clearway frames (R151 to R153) -/

/-- The line idle after a frame end, at the new instant. -/
def frameEnded (s : State) : State := updLine (fun n => { n with monitor := .idle }) (later s)

/-- A clearway frame of another station reaches the Hold Unit; the Crossing Table hears its sender (R58, R70). -/
theorem takeFrame_dispatched {f : Frame} {s : State} (h : listening s) (hok : frameOk f = true)
    (hother : frameStation f ≠ (conf s).station) : takeFrame f (later s) = tableTakes f (blocksTake f (frameEnded s)) := by
  rw [takeFrame, atFrameEnd_taken _ h, hok, if_pos rfl, takeValid]
  exact if_neg hother

theorem viewOf_frameEnded (s : State) (l : LegId) : viewOf (frameEnded s) l = viewOf s l := rfl

theorem acceptsAny_of_listening {s : State} (h : listening s) : acceptsAny s = true := by
  obtain ⟨-, htakes, -⟩ := h
  rw [takesFrames, Bool.and_eq_true] at htakes
  exact htakes.1

/-- A request that the queue accepts while frames are taken. -/
theorem requested_frameEnded {s : State} {k : LegReq} (ha : acceptsLeg s k = true) (o : Option (Entry LegReq)) :
    requested (frameEnded s) k o = some { kind := k, stamp := s.clock + 1, sending := false } := by
  have h : acceptsLeg (frameEnded s) k = true := (acceptsLeg_congr rfl rfl k).trans ha
  exact if_pos h

/-- What a change of the holders by a frame leaves of the station, the table's heard countdown apart. -/
structure HoldersChanged (f : List Holder → List Holder) (s t : State) : Prop where
  holders : t.hold.holders = f s.hold.holders
  street : t.hold.street = !t.hold.holders.isEmpty
  preempt : t.hold.preempt = s.hold.preempt
  maint : t.hold.maint = s.hold.maint
  view : ∀ l, viewOf t l = viewOf (changeHolders f (frameEnded s)) l
  held : Machine.held t = Machine.held (updHold (Hold.withHolders f) (frameEnded s))
  flags : ∀ g, flagSet t g = flagSet (changeHolders f (frameEnded s)) g

theorem holdersChanged (f : List Holder → List Holder) (st : Nat) (s : State) :
    HoldersChanged f s (settle (hearSender st (changeHolders f (frameEnded s)))) := by
  have hear := hearSender_touches st (changeHolders f (frameEnded s))
  have hhold : (hearSender st (changeHolders f (frameEnded s))).hold = s.hold.withHolders f :=
    (hear .hold (by decide)).trans (changeSources_hold _ _)
  have hset := settle_hold_eq (hearSender st (changeHolders f (frameEnded s)))
  rw [hhold] at hset
  refine ⟨by rw [hset]; rfl, by rw [hset]; rfl, by rw [hset]; rfl, by rw [hset]; rfl, fun l => ?_, ?_, fun g => ?_⟩
  · rw [viewOf_settle, viewOf_congr hear rfl]
  · rw [held_settle, Machine.held, hhold, Machine.held, updHold_hold]; rfl
  · rw [flagSet_settle, flagSet, hear .port (by decide), flagSet]

/-- Where the hold stands or falls as it was no leg changes (R143). -/
theorem HoldersChanged.stays {f : List Holder → List Holder} {s t : State} (h : HoldersChanged f s t) (hheld : Machine.held t = Machine.held s) :
    t.legs = s.legs ∧ t.slots = s.slots ∧ t.line.queue.legs = s.line.queue.legs := by
  have hsame (l : LegId) : viewOf t l = viewOf s l := by
    rw [h.view l, changeHolders_eq, viewOf_changeSources_silent (h.held.symm.trans hheld)]; rfl
  exact ⟨Legs.ext_get fun l => congrArg LegView.leg (hsame l), Legs.ext_get fun l => congrArg LegView.slot (hsame l),
    Legs.ext_get fun l => congrArg LegView.request (hsame l)⟩

/-- The last holder gone, and no other source: each HELD leg goes to CALLED or REST (R143, R16, R5). -/
theorem HoldersChanged.released {f : List Holder → List Holder} {s t : State} (h : HoldersChanged f s t) (hl : listening s)
    (hp : s.hold.preempt = false) (hm : s.hold.maint = false) (hst : s.hold.street = true) (hnone : f s.hold.holders = []) :
    Machine.held t = false ∧ t.slots = s.slots ∧
      (∀ l, inUse s l = true → legState s l = .held →
        (callOf s l = none → t.legs.get l = { s.legs.get l with state := .rest }) ∧
        (callOf s l ≠ none → t.legs.get l = { s.legs.get l with state := .called } ∧
          (s.mode = .run → t.line.queue.legs.get l = some { kind := .bid, stamp := s.clock + 1, sending := false }))) ∧
      (∀ l, inUse s l = false ∨ legState s l ≠ .held →
        t.legs.get l = s.legs.get l ∧ t.line.queue.legs.get l = s.line.queue.legs.get l) := by
  have hwas : Machine.held (frameEnded s) = true := by
    show (s.hold.preempt || s.hold.street || s.hold.maint) = true
    rw [hst]; simp
  have hends : Machine.held (updHold (Hold.withHolders f) (frameEnded s)) = false := by
    show (s.hold.preempt || !(f s.hold.holders).isEmpty || s.hold.maint) = false
    rw [hp, hm, hnone]; rfl
  have hnotIsolated : s.mode ≠ .isolated := by
    obtain h | h | h := listening_mode hl <;> rw [h] <;> decide
  have hlegs (l : LegId) := viewOf_changeSources_ended hwas hends l
  simp only [← changeHolders_eq, ← h.view, viewOf_frameEnded] at hlegs
  have hslot (l : LegId) : (viewOf t l).slot = (viewOf s l).slot := by
    cases hu : inUse s l with
    | false => rw [(hlegs l).2 hu]
    | true =>
      have hw := (hlegs l).1 hu
      by_cases hh : legState s l = .held
      · cases hc : callOf s l with
        | none => rw [hw.rest hh hc]; rfl
        | some c => rw [hw.called hh (by rw [show callOf (frameEnded s) l = callOf s l from rfl, hc]; rfl) hnotIsolated]; rfl
      · rw [hw.other hh]
  refine ⟨h.held.trans hends, Legs.ext_get hslot, fun l hu hh => ⟨fun hc => ?_, fun hc => ?_⟩, fun l hno => ?_⟩
  · exact congrArg LegView.leg (((hlegs l).1 hu).rest hh hc)
  · have hw := ((hlegs l).1 hu).called hh (Option.isSome_iff_ne_none.mpr hc) hnotIsolated
    refine ⟨congrArg LegView.leg hw, fun hrun => (congrArg LegView.request hw).trans (requested_frameEnded ?_ _)⟩
    have ha := acceptsAny_of_listening hl
    rw [acceptsAny, Bool.and_eq_true] at ha
    simp [acceptsLeg, hrun, ha.1]
  · have hsame : viewOf t l = viewOf s l := by
      cases hu : inUse s l with
      | false => exact (hlegs l).2 hu
      | true => exact ((hlegs l).1 hu).other (hno.resolve_left (by rw [hu]; decide))
    exact ⟨congrArg LegView.leg hsame, congrArg LegView.request hsame⟩

/-- A holder where there was no source: each leg in use takes the hold (R143). -/
theorem HoldersChanged.taken {f : List Holder → List Holder} {s t : State} (h : HoldersChanged f s t) (hno : Machine.held s = false)
    (hsome : f s.hold.holders ≠ []) (l : LegId) (hu : inUse s l = true) :
    viewOf t l = (viewOf s l).held (frameEnded s) l ∧ (holdShortens s l → flagSet t .truncated = true) := by
  have hstarts : Machine.held (updHold (Hold.withHolders f) (frameEnded s)) = true := by
    show (s.hold.preempt || !(f s.hold.holders).isEmpty || s.hold.maint) = true
    cases hf : f s.hold.holders with
    | nil => exact absurd hf hsome
    | cons d ds => simp
  have hwas : Machine.held (frameEnded s) = false := hno
  refine ⟨?_, fun hshort => ?_⟩
  · rw [h.view, changeHolders_eq, viewOf_changeSources_started hwas hstarts, if_pos (show inUse (frameEnded s) l = true from hu)]; rfl
  · rw [h.flags, changeHolders_eq, changeSources_started hwas hstarts]
    exact reportHold_truncated hu hshort

/-! ### A held leg's view, state by state (R12 to R15) -/

theorem LegView.held_green {v : LegView} (h : v.leg.state = .rest ∨ v.leg.state = .called) (s : State) (l : LegId) :
    v.held s l = v.become { v.leg with state := .held } := by
  unfold LegView.held; dsimp only
  obtain h | h := h <;> rw [h]

theorem LegView.held_slotted {v : LegView} (h : v.leg.state = .claimed ∨ v.leg.state = .committed) (s : State) (l : LegId) :
    v.held s l = (v.become { v.leg with state := .held }).withdrawn s := by
  unfold LegView.held; dsimp only
  obtain h | h := h <;> rw [h]

theorem LegView.held_amber {v : LegView} (h : v.leg.state = .amber) (s : State) (l : LegId) :
    v.held s l = (v.become v.leg.cancelled).withdrawn s := by
  unfold LegView.held; dsimp only; rw [h]

theorem LegView.held_allRedIn {v : LegView} (h : v.leg.state = .allRedIn) (s : State) (l : LegId) :
    v.held s l =
      (v.become { v.leg with state := .allRedOut, interval := .load (legConf s l).rout, flash := v.leg.flash.freeze }).withdrawn s := by
  unfold LegView.held; dsimp only; rw [h]

theorem LegView.held_walk {v : LegView} (h : v.leg.state = .walk) (s : State) (l : LegId) :
    v.held s l = (v.become (v.leg.walkHeld (legConf s l))).ending ((legConf s l).wmin - v.leg.walkElapsed + (legConf s l).kp) := by
  unfold LegView.held; dsimp only; rw [h]

theorem LegView.held_clearance {v : LegView} (h : v.leg.state = .clearance) (s : State) (l : LegId) :
    v.held s l = if (legConf s l).kp < v.leg.interval.count then (v.become (v.leg.timed (legConf s l).kp)).ending (legConf s l).kp else v := by
  unfold LegView.held; dsimp only; rw [h]

theorem LegView.held_other {v : LegView} (h : v.leg.state = .allRedOut ∨ v.leg.state = .held ∨ v.leg.state = .start ∨ v.leg.state = .flash)
    (s : State) (l : LegId) : v.held s l = v := by
  unfold LegView.held; dsimp only
  obtain h | h | h | h := h <;> rw [h]

/-- A leg whose slot is withdrawn at a frame: the slot goes with a CEDE, where there is one (R113). -/
theorem withdrawn_reads {s t : State} {l : LegId} {r : LegRec} (hl : listening s)
    (hw : viewOf t l = ((viewOf s l).become r).withdrawn (frameEnded s)) :
    t.legs.get l = r ∧
      (slotOf s l = none → t.slots.get l = s.slots.get l ∧ t.line.queue.legs.get l = s.line.queue.legs.get l) ∧
      (slotOf s l ≠ none →
        t.slots.get l = { s.slots.get l with slot := none, contest := { running := false, count := 0 }, challengers := [] } ∧
        t.line.queue.legs.get l = some { kind := .cede, stamp := s.clock + 1, sending := false }) := by
  by_cases hx : slotOf s l = none
  · have hstays : ((viewOf s l).become r).withdrawn (frameEnded s) = (viewOf s l).become r :=
      if_neg (show ¬((slotOf s l).isSome = true) by rw [hx]; decide)
    rw [hstays] at hw
    exact ⟨congrArg LegView.leg hw, fun _ => ⟨congrArg LegView.slot hw, congrArg LegView.request hw⟩, fun h => absurd hx h⟩
  · have hgoes : ((viewOf s l).become r).withdrawn (frameEnded s) =
        { (viewOf s l).become r with slot := (s.slots.get l).removeSlot, request := requested (frameEnded s) .cede (viewOf s l).request } :=
      if_pos (show (slotOf s l).isSome = true from Option.isSome_iff_ne_none.mpr hx)
    rw [hgoes] at hw
    exact ⟨congrArg LegView.leg hw, fun h => absurd h hx, fun _ => ⟨congrArg LegView.slot hw,
      (congrArg LegView.request hw).trans (requested_frameEnded (k := .cede) (acceptsAny_of_listening hl) _)⟩⟩

/-- Settles O30: the frame changes the holders; what the legs then are is `HoldersChanged.taken`, `released` or `stays`. -/
theorem clearwayFramesHold : Obligations.ClearwayFramesHold := by
  unfold Obligations.ClearwayFramesHold
  intro f s hl hother hok inReach lastHolder released stays
  obtain ⟨hordered, -, -⟩ := hok
  have hstays {g : List Holder → List Holder} {t : State} (h : HoldersChanged g s t) : stays t := fun hheld => h.stays hheld
  have hreleased {t : State} (h : HoldersChanged (dropHolder f.station.toNat) s t) (hlast : lastHolder) : released t := by
    obtain ⟨hp, hm, hst, hall⟩ := hlast
    exact h.released hl hp hm hst (dropHolder_last hall)
  refine ⟨?_, ?_⟩
  case refine_2 =>
    have hexec : exec (.clearEndReceived f) s = .next (settle (hearSender f.station.toNat
        (changeHolders (dropHolder f.station.toNat) (frameEnded s)))) :=
      (exec_event (c := .clearEndReceived f) hl.1 rfl rfl rfl).trans (congrArg (fun t => Host.Outcome.next (settle t))
        (takeFrame_dispatched (f := .clearEnd f) hl rfl hother))
    have h := holdersChanged (dropHolder f.station.toNat) f.station.toNat s
    exact ⟨_, hexec, h.holders.trans (dropHolder_eq _ _), h.street, h.preempt, h.maint, hreleased h, hstays h⟩
  case refine_1 =>
    have hexec : exec (.clearwayReceived f) s = .next (settle (hearSender f.station.toNat
        (holdTakesClearway f (frameEnded s)))) :=
      (exec_event (c := .clearwayReceived f) hl.1 rfl rfl rfl).trans (congrArg (fun t => Host.Outcome.next (settle t))
        (takeFrame_dispatched (f := .clearway f) hl rfl hother))
    refine ⟨_, hexec, ?_⟩
    by_cases hin : inReach
    · have htake : holdTakesClearway f (frameEnded s) =
          changeHolders (putHolder { station := f.station.toNat, left := 60 }) (frameEnded s) := if_pos hin
      rw [htake]
      have h := holdersChanged (putHolder { station := f.station.toNat, left := 60 }) f.station.toNat s
      refine ⟨fun d => ?_, h.street, h.preempt, h.maint, fun hno => absurd hin hno, hstays h, fun _ hno l hu => ?_⟩
      · rw [h.holders, mem_putHolder hordered]
        constructor
        · rintro (rfl | ⟨hd, hne⟩)
          · exact .inr ⟨hin, rfl⟩
          · exact .inl ⟨hd, hne⟩
        · rintro (⟨hd, hne⟩ | ⟨-, rfl⟩)
          · exact .inr ⟨hd, hne⟩
          · exact .inl rfl
      · have hsome : putHolder { station := f.station.toNat, left := 60 } s.hold.holders ≠ [] :=
          List.ne_nil_of_mem ((mem_putHolder hordered).mpr (.inl rfl))
        obtain ⟨hview, hflag⟩ := h.taken hno hsome l hu
        intro r c goesOn ends withdrawn rest
        refine ⟨fun hr => ?_, fun hr => ?_, fun hr => ?_, fun hr => ?_, fun hr => ?_, fun hr hcut => ?_, fun hr => ?_⟩
        · rw [LegView.held_green (by exact hr)] at hview
          exact ⟨congrArg LegView.leg hview, congrArg LegView.slot hview, congrArg LegView.request hview⟩
        · rw [LegView.held_slotted (by exact hr)] at hview
          exact withdrawn_reads hl hview
        · rw [LegView.held_amber (by exact hr)] at hview
          exact withdrawn_reads hl hview
        · rw [LegView.held_allRedIn (by exact hr)] at hview
          exact withdrawn_reads hl hview
        · rw [LegView.held_walk (by exact hr)] at hview
          have hleg : _ = (s.legs.get l).walkHeld (legConf s l) := congrArg LegView.leg hview
          refine ⟨⟨congrArg LegView.slot hview, congrArg LegView.request hview⟩, fun hshort => hflag (.inl ⟨hr, hshort⟩), fun hrest => ?_,
            fun hrest => ?_⟩
          · exact hleg.trans (if_neg (Nat.pos_iff_ne_zero.mp hrest))
          · exact hleg.trans (if_pos hrest)
        · rw [LegView.held_clearance (by exact hr), if_pos (by exact hcut)] at hview
          exact ⟨hflag (.inr ⟨hr, hcut⟩), ⟨congrArg LegView.slot hview, congrArg LegView.request hview⟩, congrArg LegView.leg hview⟩
        · have hsame : (viewOf s l).held (frameEnded s) l = viewOf s l := by
            obtain ⟨hr, hle⟩ | hr := hr
            · rw [LegView.held_clearance (by exact hr)]
              exact if_neg (Nat.not_lt.mpr hle)
            · exact LegView.held_other hr _ _
          rw [hsame] at hview
          exact ⟨congrArg LegView.leg hview, congrArg LegView.slot hview, congrArg LegView.request hview⟩
    · have htake : holdTakesClearway f (frameEnded s) = changeHolders (dropHolder f.station.toNat) (frameEnded s) := if_neg hin
      rw [htake]
      have h := holdersChanged (dropHolder f.station.toNat) f.station.toNat s
      refine ⟨fun d => ?_, h.street, h.preempt, h.maint, fun _ => hreleased h, hstays h, fun hyes => absurd hyes hin⟩
      rw [h.holders, mem_dropHolder]
      exact ⟨.inl, fun hd => hd.elim id fun hd => absurd hd.1 hin⟩

end Sys2Proof.Machine
end

section
/-! FLASH, ISOL, JOIN and RESUME at the port (R162 to R166, R181, R182): their replies, and what an entry into ISOLATED does to each leg. -/

namespace Sys2Proof.Machine

/-! ### A leg at the entry into ISOLATED (R100, R79) -/

/-- The leg's slot committed with no KEEP, its contest over (R100). -/
def committedSlot (l : LegId) (s : State) : State :=
  updSlot l (fun r => { r with contest := .stopped }) (onSlot l (fun x => { x with stage := .committed }) s)

theorem isolateLeg_claimed {s : State} {l : LegId} (h : legState s l = .claimed) :
    isolateLeg l s = withLeg l (committedLeg (committedSlot l s) l) (committedSlot l s) := by
  have hnot : ¬legState s l = .called := by rw [h]; decide
  rw [isolateLeg, if_neg hnot, if_pos h]
  exact takeCommit_claimed (s := committedSlot l s) h

theorem isolateLeg_called {s : State} {l : LegId} {c : Call} (hm : s.mode = .isolated) (h : legState s l = .called)
    (hc : callOf s l = some c) : isolateLeg l s = withLeg l { s.legs.get l with state := .committed } (placed l c s) := by
  rw [isolateLeg, if_pos h, placeIsolated_eq hm h hc]

theorem isolateLeg_callless {s : State} {l : LegId} (h : legState s l = .called) (hc : callOf s l = none) : isolateLeg l s = s := by
  rw [isolateLeg, if_pos h]
  unfold placeIsolated
  rw [hc]

theorem isolateLeg_stays {s : State} {l : LegId} (h : legState s l ≠ .called) (h' : legState s l ≠ .claimed) : isolateLeg l s = s := by
  rw [isolateLeg, if_neg h, if_neg h']

theorem committedSlot_slots (l : LegId) (s : State) :
    (committedSlot l s).slots = s.slots.set l { s.slots.get l with
      slot := (slotOf s l).map (fun x => { x with stage := .committed }), contest := .stopped } := by
  simp [committedSlot, onSlot, updSlot, Legs.upd, slotOf]

/-- What the leg is before and after an operation of the Slot Engine on it: its record and its slot's record. -/
def slotView (s : State) (l : LegId) : LegRec × SlotRec := (s.legs.get l, s.slots.get l)

theorem isolateLeg_other (l : LegId) {s : State} (hm : s.mode = .isolated) :
    slotView (isolateLeg l s) (otherLeg l) = slotView s (otherLeg l) := by
  by_cases hcalled : legState s l = .called
  · cases hc : callOf s l with
    | none => rw [isolateLeg_callless hcalled hc]
    | some c => rw [isolateLeg_called hm hcalled hc]; simp [slotView, withLeg, placed]
  · by_cases hclaimed : legState s l = .claimed
    · rw [isolateLeg_claimed hclaimed]
      have hlegs : (committedSlot l s).legs = s.legs := rfl
      simp [slotView, withLeg, committedSlot_slots, hlegs]
    · rw [isolateLeg_stays hcalled hclaimed]

/-- No bid is pending, nothing deferred, no challenger known. -/
def Quiet (s : State) : Prop := ∀ l, (s.slots.get l).bid = none ∧ (s.slots.get l).deferred = [] ∧ (s.slots.get l).challengers = []

theorem isolateLeg_quiet (l : LegId) {s : State} (hm : s.mode = .isolated) (h : Quiet s) : Quiet (isolateLeg l s) := by
  intro m
  obtain ⟨hb, hd, hch⟩ := h m
  by_cases hcalled : legState s l = .called
  · cases hc : callOf s l with
    | none => rw [isolateLeg_callless hcalled hc]; exact h m
    | some c =>
      rw [isolateLeg_called hm hcalled hc]
      simp only [withLeg, placed, Legs.get_set]
      split
      · next hml => subst hml; exact ⟨hb, hd, rfl⟩
      · exact h m
  · by_cases hclaimed : legState s l = .claimed
    · rw [isolateLeg_claimed hclaimed]
      simp only [withLeg, committedSlot_slots, Legs.get_set]
      split
      · next hml => subst hml; exact ⟨hb, hd, hch⟩
      · exact h m
    · rw [isolateLeg_stays hcalled hclaimed]; exact h m

/-! ### What a placement reads -/

theorem place_congr {s t : State} {l : LegId} (hc : t.cfg = s.cfg) (ht : t.table = s.table)
    (hg : (t.legs.get l).minGreen = (s.legs.get l).minGreen)
    (hx : (slotOf t (otherLeg l)).map (fun x => { x with stage := .committed }) =
      (slotOf s (otherLeg l)).map (fun x => { x with stage := .committed })) (c : Call) : place t l c = place s l c := by
  have hconf : conf t = conf s := conf_congr hc
  have hlegConf : legConf t l = legConf s l := legConf_congr hc l
  have hstarts : (slotOf t (otherLeg l)).map Slot.startIn = (slotOf s (otherLeg l)).map Slot.startIn := by
    have h := congrArg (Option.map Slot.startIn) hx
    simpa only [Option.map_map, Function.comp_def] using h
  have hown : ownExcl t l = ownExcl s l := by
    have hstage (u : State) : ownExcl u l = ((slotOf u (otherLeg l)).map (fun x => { x with stage := .committed })).bind
        (fun x => exclOf (ownKey u (otherLeg l) x) x) := by
      unfold ownExcl
      cases slotOf u (otherLeg l) <;> rfl
    have hkey : ownKey t = ownKey s := by funext m x; rw [ownKey, hconf, ownKey]
    rw [hstage, hstage, hx, hkey]
  have hforeign : foreignExcl t = foreignExcl s := by
    unfold foreignExcl acoustic distanceTo; rw [ht, hconf]
  have hlist : exclusionList t l = exclusionList s l := by rw [exclusionList, hown, hforeign, exclusionList]
  have hcoupling : couplingStarts t l = couplingStarts s l := by
    unfold couplingStarts couples distanceTo; rw [ht, hconf, hstarts]
  have hearliest : earliestStart t l = earliestStart s l := by rw [earliestStart, hg, hlegConf, earliestStart]
  have hlatest : latestStart t l = latestStart s l := by funext w; rw [latestStart, hearliest, hlegConf, latestStart]
  have hchosen : chosenStart t l c = chosenStart s l c := by
    unfold chosenStart; rw [hearliest, hlatest, hconf, hlegConf, hlist, hcoupling]
  have hurgent : placedUrgent t l c = placedUrgent s l c := by
    unfold placedUrgent; rw [hlegConf, hlatest, hchosen]
  have hband : aidBand t l = aidBand s l := by
    funext a b; unfold aidBand; rw [hlist, hlegConf, hown]
  unfold place
  rw [hurgent, hearliest, hchosen, hlegConf, hband]

/-! ### ISOLATED entered (R162, R100, R79) -/

/-- The state in which the legs are told of the isolation. -/
def isolatedFrom (i : Isolation) (s : State) : State :=
  if bothCalled s then { isolatedBase i s with choices := s.choices + 1 } else isolatedBase i s

theorem isolatedFrom_changes (i : Isolation) (s : State) : ChangesOnly [.choices] (isolatedBase i s) (isolatedFrom i s) :=
  .ite (choose_touches (isolatedBase i s)) (.refl _ _)

theorem isolatedBase_slots (i : Isolation) (s : State) (l : LegId) :
    (isolatedBase i s).slots.get l = { s.slots.get l with bid := none, deferred := [], challengers := [] } := by
  cases l <;> rfl

theorem slotOf_isolatedFrom (i : Isolation) (s : State) (l : LegId) : slotOf (isolatedFrom i s) l = slotOf s l := by
  rw [slotOf, isolatedFrom_changes i s .slots (by decide), isolatedBase_slots]; rfl

/-- Which leg is told first, and what each is told in. -/
theorem enterIsolated_told (i : Isolation) (s : State) : ∃ a,
    let u := if inUse s a then isolateLeg a (isolatedFrom i s) else isolatedFrom i s
    enterIsolated i s = if inUse s (otherLeg a) then isolateLeg (otherLeg a) u else u := by
  obtain ⟨a, ha⟩ := placementOrder_pair (bothCalled s) (isolatedBase i s)
  refine ⟨a, ?_⟩
  have huse (m : LegId) : inUse (isolatedFrom i s) m = inUse s m := inUse_congr (isolatedFrom_changes i s .cfg (by decide)) m
  have huse' (m : LegId) (p : Prop) [Decidable p] :
      inUse (if p then isolateLeg a (isolatedFrom i s) else isolatedFrom i s) m = inUse s m := by
    split
    · exact (inUse_congr (isolateLeg_touches a (isolatedFrom i s) .cfg (by decide)) m).trans (huse m)
    · exact huse m
  rw [enterIsolated_eq, ha]
  change (if inUse (if inUse (isolatedFrom i s) a then isolateLeg a (isolatedFrom i s) else isolatedFrom i s) (otherLeg a) then
      isolateLeg (otherLeg a) (if inUse (isolatedFrom i s) a then isolateLeg a (isolatedFrom i s) else isolatedFrom i s)
    else if inUse (isolatedFrom i s) a then isolateLeg a (isolatedFrom i s) else isolatedFrom i s) = _
  rw [huse', huse]

/-- What a leg becomes that is told of the isolation in the state u. -/
structure IsolatedLeg (s u : State) (l : LegId) (w : LegRec × SlotRec) : Prop where
  claimed : legState s l = .claimed →
    w.2.slot = (slotOf s l).map (fun x => { x with stage := .committed }) ∧ w.2.contest.running = false ∧
      ∀ x, slotOf s l = some x → w.1.state = if x.startIn ≤ (legConf s l).amber + (legConf s l).rin then .amber else .committed
  called : ∀ c, legState s l = .called → callOf s l = some c →
    w.1.state = .committed ∧ w.2.slot = some (slotOfBid (place u l c) .committed)
  other : legState s l ≠ .called → legState s l ≠ .claimed → w.1 = s.legs.get l ∧ w.2.slot = slotOf s l

theorem isolatedLeg {s u : State} {l : LegId} (hm : u.mode = .isolated) (hcfg : u.cfg = s.cfg) (hcalls : u.calls = s.calls)
    (hleg : u.legs.get l = s.legs.get l) (hslot : slotOf u l = slotOf s l) : IsolatedLeg s u l (slotView (isolateLeg l u) l) := by
  have hst : legState u l = legState s l := congrArg LegRec.state hleg
  refine ⟨fun hcl => ?_, fun c hca hc => ?_, fun hca hcl => ?_⟩
  · rw [isolateLeg_claimed (hst.trans hcl), slotView, withLeg, committedSlot_slots, Legs.get_set_self, Legs.get_set_self, hslot]
    refine ⟨rfl, rfl, fun x hx => ?_⟩
    have hcommitted : slotOf (committedSlot l u) l = some { x with stage := .committed } := by
      rw [slotOf, committedSlot_slots, Legs.get_set_self, hslot, hx]; rfl
    have hnear := startIsNear_iff hcommitted
    have hconf : legConf (committedSlot l u) l = legConf s l := legConf_congr hcfg l
    rw [hconf] at hnear
    unfold committedLeg
    by_cases hn : startIsNear (committedSlot l u) l = true
    · rw [if_pos hn, if_pos (hnear.mp hn)]
    · rw [if_neg hn, if_neg (fun h => hn (hnear.mpr h))]
  · have hcall : callOf u l = some c := by rw [callOf, hcalls]; exact hc
    rw [isolateLeg_called hm (hst.trans hca) hcall, slotView, withLeg, Legs.get_set_self, placed, Legs.get_set_self]
    exact ⟨rfl, rfl⟩
  · rw [isolateLeg_stays (fun h => hca (hst.symm.trans h)) (fun h => hcl (hst.symm.trans h)), slotView]
    exact ⟨hleg, hslot⟩

/-- What an entry into ISOLATED leaves of the legs: `first` is told first. -/
structure IsolatedLegs (s t : State) (first : LegId) : Prop where
  outOfUse : ∀ l, inUse s l = false → t.legs.get l = s.legs.get l ∧ slotOf t l = slotOf s l
  told : ∀ l, inUse s l = true → ∃ u, IsolatedLeg s u l (slotView t l) ∧ u.cfg = s.cfg ∧ u.table = [] ∧
    (u.legs.get l).minGreen = (s.legs.get l).minGreen ∧
    (l = first ∨ inUse s (otherLeg l) = false → slotOf u (otherLeg l) = slotOf s (otherLeg l)) ∧
    (l ≠ first → inUse s (otherLeg l) = true → slotOf u (otherLeg l) = slotOf t (otherLeg l))
  quiet : Quiet t

theorem enterIsolated_legs (i : Isolation) (s : State) : ∃ first, IsolatedLegs s (enterIsolated i s) first := by
  obtain ⟨a, ha⟩ := enterIsolated_told i s
  have hch := isolatedFrom_changes i s
  have hm : (isolatedFrom i s).mode = .isolated := hch .mode (by decide)
  have hcfg : (isolatedFrom i s).cfg = s.cfg := hch .cfg (by decide)
  have htable : (isolatedFrom i s).table = [] := hch .table (by decide)
  have hlegs : (isolatedFrom i s).legs = s.legs := hch .legs (by decide)
  have hcalls : (isolatedFrom i s).calls = s.calls := hch .calls (by decide)
  have hquiet : Quiet (isolatedFrom i s) := by
    intro l
    rw [hch .slots (by decide), isolatedBase_slots]
    exact ⟨rfl, rfl, rfl⟩
  dsimp only at ha
  generalize hu : (if inUse s a then isolateLeg a (isolatedFrom i s) else isolatedFrom i s) = u at ha
  have hut : ChangesOnly [.legs, .slots, .port] (isolatedFrom i s) u := hu ▸ .ite (isolateLeg_touches a _) (.refl _ _)
  have hum : u.mode = .isolated := (hut .mode (by decide)).trans hm
  have huview : slotView u (otherLeg a) = slotView (isolatedFrom i s) (otherLeg a) := by
    rw [← hu]; split
    · exact isolateLeg_other a hm
    · rfl
  have huquiet : Quiet u := by
    rw [← hu]; split
    · exact isolateLeg_quiet a hm hquiet
    · exact hquiet
  have hta : slotView (enterIsolated i s) a = slotView u a := by
    rw [ha]; split
    · have h := isolateLeg_other (otherLeg a) hum
      rwa [otherLeg_otherLeg] at h
    · rfl
  have hleg (l : LegId) : (isolatedFrom i s).legs.get l = s.legs.get l := by rw [hlegs]
  have huleg : u.legs.get (otherLeg a) = s.legs.get (otherLeg a) := (congrArg Prod.fst huview).trans (hleg _)
  have huslot : slotOf u (otherLeg a) = slotOf s (otherLeg a) :=
    (congrArg (fun v => v.2.slot) huview).trans (slotOf_isolatedFrom i s _)
  have huslota : slotOf u a = slotOf (enterIsolated i s) a := (congrArg (fun v => v.2.slot) hta).symm
  have hcases (l : LegId) : l = a ∨ l = otherLeg a := by cases l <;> cases a <;> simp [otherLeg]
  refine ⟨a, fun l hout => ?_, fun l hin => ?_, ?_⟩
  · obtain rfl | rfl := hcases l
    · have hua : u = isolatedFrom i s := by rw [← hu, if_neg (by simp [hout])]
      rw [hua] at hta
      exact ⟨(congrArg Prod.fst hta).trans (hleg _), (congrArg (fun v => v.2.slot) hta).trans (slotOf_isolatedFrom i s _)⟩
    · rw [if_neg (by simp [hout])] at ha
      rw [ha]
      exact ⟨huleg, huslot⟩
  · obtain rfl | rfl := hcases l
    · have hul : u = isolateLeg l (isolatedFrom i s) := by rw [← hu, if_pos hin]
      refine ⟨isolatedFrom i s, ?_, hcfg, htable, congrArg LegRec.minGreen (hleg l), fun _ => slotOf_isolatedFrom i s _,
        fun hne => absurd rfl hne⟩
      rw [hta, hul]
      exact isolatedLeg hm hcfg hcalls (hleg l) (slotOf_isolatedFrom i s l)
    · refine ⟨u, ?_, (hut .cfg (by decide)).trans hcfg, (hut .table (by decide)).trans htable, congrArg LegRec.minGreen huleg,
        fun h => ?_, fun _ _ => by rw [otherLeg_otherLeg]; exact huslota⟩
      · rw [ha, if_pos hin]
        exact isolatedLeg hum ((hut .cfg (by decide)).trans hcfg) ((hut .calls (by decide)).trans hcalls) huleg huslot
      · rw [otherLeg_otherLeg] at h ⊢
        obtain h | h := h
        · exact absurd h (by cases a <;> decide)
        · rw [← hu, if_neg (by simp [h])]; exact slotOf_isolatedFrom i s a
  · rw [ha]; split
    · exact isolateLeg_quiet _ hum huquiet
    · exact huquiet

end Sys2Proof.Machine
end

section
/-! The mode commands' replies (R181, R182, 12.3), and what each leaves, mode by mode. -/

namespace Sys2Proof.Machine

/-! ### The reply of a mode command -/

/-- The reply of a mode request coded `code` that takes the station from s to t (R181). -/
def modeAnswer (code : Byte) (s t : State) : List Byte :=
  [if t.mode = s.mode ∧ t.cause = s.cause ∧ t.isolation = s.isolation then 0x01#8 else 0x00#8, code, 3] ++ modeContent t

theorem runMode_reply (code : Byte) (request : State → State) (s : State) :
    replyBytes (runMode request s).2.1 code (runMode request s).2.2 = modeAnswer code s (request s) := by
  have hstatus : statusCode (runMode request s).2.1 =
      if (request s).mode = s.mode ∧ (request s).cause = s.cause ∧ (request s).isolation = s.isolation then 0x01#8 else 0x00#8 := by
    unfold runMode changeStatus
    by_cases hm : (request s).mode = s.mode <;> by_cases hc : (request s).cause = s.cause <;>
      by_cases hi : (request s).isolation = s.isolation <;> simp [hm, hc, hi, statusCode]
  unfold replyBytes modeAnswer
  rw [hstatus]
  rfl

/-- A mode command answers with the mode, the cause and the pending isolation that it leaves. -/
theorem exec_modeCommand {s : State} (hr : s.resetHeld = false) {c : PortCommand} (hc : c ≠ .rstrt) {request : State → State}
    (hl : operandCount c = 0) (hrange : operandsInRange c [] = true) (hrun : ∀ u, runCommand c [] u = runMode request u) :
    exec (portInstr c [] false) s =
      .next (settle (withReply (modeAnswer (commandCode c) s (request (later s))) (request (later s)))) := by
  rw [exec_passed (ops := []) hr hc hl.symm hrange, hrun]
  exact congrArg (fun b => Host.Outcome.next (settle (withReply b (request (later s))))) (runMode_reply (commandCode c) request (later s))

theorem modeAnswer_settle (code : Byte) (s t : State) (b : List Byte) : modeAnswer code s (settle (withReply b t)) = modeAnswer code s t := by
  rw [modeAnswer, modeContent, settle_mode, settle_cause, settle_isolation]; rfl

/-- A request that changes none of the three is answered NO_CHANGE. -/
theorem modeAnswer_unchanged (code : Byte) (s : State) : modeAnswer code s (later s) = [0x01#8, code, 3] ++ modeContent s := by
  rw [modeAnswer, if_pos ⟨rfl, rfl, rfl⟩]; rfl

/-- A request that changes one of the three is answered OK. -/
theorem modeAnswer_changed {code : Byte} {s t : State} (h : t.mode ≠ s.mode ∨ t.cause ≠ s.cause ∨ t.isolation ≠ s.isolation) :
    modeAnswer code s t = [0x00#8, code, 3] ++ modeContent t := by
  rw [modeAnswer, if_neg]
  rintro ⟨hm, hc, hi⟩
  obtain h | h | h := h
  · exact h hm
  · exact h hc
  · exact h hi

/-! ### The line and the clearway at FLASH entry (R52, R149, R164) -/

theorem startClearway_line (s : State) :
    (startClearway s).line = { s.line with queue := { s.line.queue with clear := (startClearway s).line.queue.clear } } := by
  unfold startClearway
  split
  · unfold enqueueClear
    split
    · rfl
    · rfl
  · rfl

theorem enterFlash_beacon (c : Cause) (s : State) : (enterFlash c s).line.beacon = .load 10 := by
  rw [enterFlash_eq]
  split
  · rw [startClearway_line]; rfl
  · rfl

theorem flashBlocks_line (c : Cause) (s : State) :
    (flashBlocks (flashMode c s)).line = s.line ∧ (flashBlocks (flashMode c s)).hold = s.hold ∧
      (flashBlocks (flashMode c s)).clock = s.clock := by
  have h := flashBlocks_touches (flashMode c s)
  exact ⟨h .line (by decide), h .hold (by decide), h .clock (by decide)⟩

theorem acceptsAny_flash {s t : State} (hcfg : s.cfg.isSome = true) (hc : t.cfg = s.cfg) (hm : t.mode = .flash) : acceptsAny t = true := by
  rw [acceptsAny, hc, hcfg, hm]; rfl

/-- FLASH entered with a configuration: the BEACON queued and, from ISOLATED under PREEMPT, the CLEARWAY. -/
theorem enterFlash_requests (c : Cause) {s : State} (hcfg : s.cfg.isSome = true) :
    (enterFlash c s).line.queue.beacon = some (s.line.queue.beacon.getD (newEntry s ())) ∧
      (s.mode = .isolated → s.hold.preempt = true → 0 < (conf s).clearwayRange →
        (enterFlash c s).hold.clearway = .load 20 ∧ (enterFlash c s).line.queue.clear = some (newEntry s .clearway)) := by
  obtain ⟨hline, hhold, hclock⟩ := flashBlocks_line c s
  have htouch := flashBlocks_touches (flashMode c s)
  have hcfgb : (flashBlocks (flashMode c s)).cfg = s.cfg := htouch .cfg (by decide)
  have ha : acceptsAny (flashBlocks (flashMode c s)) = true := acceptsAny_flash hcfg hcfgb (htouch .mode (by decide))
  have hbeacon : (startBeacon (flashBlocks (flashMode c s))).line.queue.beacon = some (s.line.queue.beacon.getD (newEntry s ())) := by
    rw [startBeacon_eq ha, beaconStarted, newEntry, hline, hclock]; rfl
  refine ⟨?_, fun hm hp hrange => ?_⟩
  · rw [enterFlash_eq]
    split
    · rw [startClearway_line]; exact hbeacon
    · exact hbeacon
  · have hstarted : ∀ u : State, u = startBeacon (flashBlocks (flashMode c s)) → startClearway u = clearwayStarted u := by
      rintro u rfl
      have hb := startBeacon_touches (flashBlocks (flashMode c s))
      rw [startClearway_eq (acceptsAny_flash hcfg ((hb .cfg (by decide)).trans hcfgb)
        ((hb .mode (by decide)).trans (htouch .mode (by decide)))), if_pos]
      rw [hb .hold (by decide), hhold, conf_congr ((hb .cfg (by decide)).trans hcfgb)]
      exact ⟨hp, hrange⟩
    rw [enterFlash_eq, if_pos hm, hstarted _ rfl]
    have hclock' : (startBeacon (flashBlocks (flashMode c s))).clock = s.clock :=
      (startBeacon_touches _ .clock (by decide)).trans hclock
    rw [clearwayStarted, newEntry, hclock']
    exact ⟨rfl, rfl⟩

theorem enterFlash_noClearway (c : Cause) {s : State} (hm : s.mode ≠ .isolated) :
    (enterFlash c s).hold = s.hold ∧ (enterFlash c s).line.queue.clear = s.line.queue.clear := by
  obtain ⟨hline, hhold, -⟩ := flashBlocks_line c s
  rw [enterFlash_eq, if_neg hm]
  refine ⟨(startBeacon_touches _ .hold (by decide)).trans hhold, ?_⟩
  rw [← hline]
  unfold startBeacon enqueueBeacon
  split <;> rfl

/-! ### The lamp mask of a refused RESUME (R166, 12.3) -/

theorem testBit_five (a b c d e : Bool) : ∀ n < 5, (a.toNat + 2 * b.toNat + 4 * c.toNat + 8 * d.toNat + 16 * e.toNat).testBit n =
    [a, b, c, d, e].getD n false := by
  revert a b c d e; decide

theorem mismatchBits_testBit (s : State) (l : LegId) (i : LampId) :
    (mismatchBits s l).testBit (match i with | .red => 0 | .amber => 1 | .green => 2 | .walk => 3 | .dontWalk => 4) = mismatched s l i := by
  unfold mismatchBits
  cases i <;> exact testBit_five _ _ _ _ _ _ (by decide)

theorem mismatchBits_lt (s : State) (l : LegId) : mismatchBits s l < 2 ^ 5 := by
  have h (b : Bool) := b.toNat_le
  have := h (mismatched s l .red); have := h (mismatched s l .amber); have := h (mismatched s l .green)
  have := h (mismatched s l .walk); have := h (mismatched s l .dontWalk)
  unfold mismatchBits
  omega

theorem lampMask_testBit (s : State) (l : LegId) {n : Nat} (hn : n < 5) :
    (lampMask s).testBit ((match l with | .leg0 => 0 | .leg1 => 5) + n) = (mismatchBits s l).testBit n := by
  have hmask : lampMask s = 2 ^ 5 * mismatchBits s .leg1 + mismatchBits s .leg0 := by unfold lampMask; omega
  have hbit (m : Nat) : (lampMask s).testBit m =
      if m < 5 then (mismatchBits s .leg0).testBit m else (mismatchBits s .leg1).testBit (m - 5) := by
    rw [hmask]; exact Nat.testBit_two_pow_mul_add _ (mismatchBits_lt s .leg0) m
  cases l with
  | leg0 => exact (hbit (0 + n)).trans (by rw [if_pos (by omega), Nat.zero_add])
  | leg1 => exact (hbit (5 + n)).trans (by rw [if_neg (by omega), Nat.add_sub_cancel_left])

/-! ### RESUME accepted (R166, R18) -/

theorem resumedBase_kerbs (s : State) (l : LegId) (hu : inUse s l = true) :
    Located (s.kerbs.get l) ((resumedBase s).kerbs.get l) :=
  (forLegs_each (s := { s with mode := .run, cause := .none }) (fun t m => t.kerbs.get m) (R := fun _ => Located) releaseLeg_touches
    (by decide) (fun m t _ => releaseLeg_kerbs m t) (fun m t _ => releaseLeg_otherKerbs m t) l).1 hu

/-- What a leg in use is after an accepted RESUME, isolated again or not. -/
theorem takeResume_leg (s : State) (l : LegId) (hu : inUse s l = true) :
    (takeResume s).legs.get l = (s.legs.get l).released (legConf s l).rout ∧ (takeResume s).kerbs = (resumedBase s).kerbs := by
  have hbase : (resumedBase s).legs.get l = (s.legs.get l).released (legConf s l).rout := by rw [resumedBase_legs, if_pos hu]
  rw [takeResume_eq]
  cases s.isolation with
  | none => exact ⟨hbase, rfl⟩
  | some i =>
    obtain ⟨first, h⟩ := enterIsolated_legs i { resumedBase s with isolation := none }
    have huse : inUse { resumedBase s with isolation := none } l = true :=
      (inUse_congr (resumedBase_changes s .cfg (by decide)) l).trans hu
    have hst : legState { resumedBase s with isolation := none } l = .allRedOut := congrArg LegRec.state hbase
    obtain ⟨u, hleg, -⟩ := h.told l huse
    refine ⟨(hleg.other (by rw [hst]; decide) (by rw [hst]; decide)).1.trans hbase, ?_⟩
    exact (enterIsolated_changes i { resumedBase s with isolation := none } .kerbs (by decide))

theorem exec_resume {s : State} (hr : s.resetHeld = false) :
    exec (.resume []) s = .next (settle (withReply (replyBytes (runResume (later s)).2.1 0x21 (runResume (later s)).2.2)
      (runResume (later s)).1)) := exec_passed (c := .resume) hr (by decide) rfl rfl

theorem runResume_idle {s : State} (h : s.mode ≠ .flash) : runResume s = (s, .noChange, modeContent s) := if_pos h

theorem runResume_config {s : State} (hm : s.mode = .flash) (hc : s.cause = .config) : runResume s = (s, .refused, 0 :: wordOf 0) :=
  (if_neg (not_not.mpr hm)).trans (if_pos hc)

theorem runResume_lamps {s : State} (hm : s.mode = .flash) (hc : s.cause ≠ .config) (ha : anyMismatch s = true) :
    runResume s = (s, .refused, 1 :: wordOf (lampMask s)) :=
  (if_neg (not_not.mpr hm)).trans ((if_neg hc).trans (if_pos ha))

theorem runResume_accepted {s : State} (hm : s.mode = .flash) (hc : s.cause ≠ .config) (ha : anyMismatch s = false) :
    runResume s = (takeResume s, .ok, modeContent (takeResume s)) :=
  (if_neg (not_not.mpr hm)).trans ((if_neg hc).trans (if_neg (by rw [ha]; decide)))

end Sys2Proof.Machine
end

section
/-! FLASH, ISOL, JOIN and RESUME mode by mode (R162 to R166, R181, R182). -/

namespace Sys2Proof.Machine

/-! ### What ISOL and JOIN report, mode by mode (R163, R165) -/

theorem takeJoin_idle {s : State} (h : s.mode = .start ∨ s.mode = .listen ∨ s.mode = .run) : takeJoin s = s := by
  unfold takeJoin
  obtain h | h | h := h <;> rw [h]

theorem takeJoin_faulted {s : State} (hm : s.mode = .isolated) (hf : s.line.faulted = true) : takeJoin s = { s with cause := .line } := by
  unfold takeJoin
  rw [hm]
  exact if_pos hf

theorem takeJoin_listen {s : State} (hm : s.mode = .isolated) (hf : s.line.faulted = false) : takeJoin s = enterListen s := by
  unfold takeJoin
  rw [hm]
  exact if_neg (by rw [hf]; decide)

theorem takeJoin_flash {s : State} (hm : s.mode = .flash) :
    takeJoin s = { s with isolation := if s.line.faulted ∨ s.isolation = some .line then some .line else none } := by
  unfold takeJoin
  split
  case h_2 =>
    by_cases hf : s.line.faulted = true
    · rw [if_pos hf, if_pos (.inl hf)]
    · rw [if_neg hf]
      by_cases hi : s.isolation = some .line
      · rw [if_pos (.inr hi)]
        split
        · exact (congrArg (fun o => { s with isolation := o }) hi)
        · next hno => exact absurd hi hno
      · rw [if_neg (not_or.mpr ⟨hf, hi⟩)]
        split
        · next hl => exact absurd hl hi
        · rfl
  all_goals simp_all

theorem reportCommand_isolated {s : State} (hm : s.mode = .isolated) :
    reportIsolation .command s = if s.cause = .line then { s with cause := .command } else s := by
  unfold reportIsolation
  rw [hm]
  by_cases hc : s.cause = .line
  · rw [if_pos hc]; exact if_pos ⟨rfl, hc⟩
  · rw [if_neg hc]; exact if_neg (fun h => hc h.2)

theorem reportIsolation_start {s : State} (i : Isolation) (hm : s.mode = .start) : reportIsolation i s = s := by
  unfold reportIsolation
  rw [hm]

/-! ### Legs in CALLED placed at the entry into ISOLATED (R79, R100) -/

/-- The only leg in CALLED is placed on the empty table, the other leg's slot as it was but for its stage. -/
theorem IsolatedLegs.placed_alone {s t : State} {first l : LegId} {c : Call} (h : IsolatedLegs s t first) (hu : inUse s l = true)
    (hst : legState s l = .called) (hc : callOf s l = some c) (hother : legState s (otherLeg l) ≠ .called ∨ inUse s (otherLeg l) = false) :
    slotOf t l = some (slotOfBid (place { s with table := [] } l c) .committed) := by
  obtain ⟨u, hleg, hcfg, htable, hgreen, hfirst, hsecond⟩ := h.told l hu
  have hstage : (slotOf u (otherLeg l)).map (fun x => { x with stage := .committed }) =
      (slotOf s (otherLeg l)).map (fun x => { x with stage := .committed }) := by
    by_cases hsame : l = first ∨ inUse s (otherLeg l) = false
    · rw [hfirst hsame]
    · rw [not_or, Bool.not_eq_false] at hsame
      obtain ⟨_, htold, -⟩ := h.told (otherLeg l) hsame.2
      have hnot : legState s (otherLeg l) ≠ .called := hother.resolve_right (by rw [hsame.2]; decide)
      rw [hsecond hsame.1 hsame.2]
      by_cases hcl : legState s (otherLeg l) = .claimed
      · rw [show slotOf t (otherLeg l) = _ from (htold.claimed hcl).1]
        cases slotOf s (otherLeg l) <;> rfl
      · rw [show slotOf t (otherLeg l) = _ from (htold.other hnot hcl).2]
  have hplace : place u l c = place { s with table := [] } l c := place_congr (s := { s with table := [] }) hcfg htable hgreen hstage c
  rw [← hplace]
  exact (hleg.called c hst hc).2

/-- Of two legs in CALLED the first is placed on the empty table, the second with the first's slot beside it. -/
theorem IsolatedLegs.placed_both {s t : State} {first : LegId} (h : IsolatedLegs s t first) (callAt : LegId → Call)
    (hall : ∀ m, inUse s m = true ∧ legState s m = .called ∧ callOf s m = some (callAt m)) :
    let x := slotOfBid (place { s with table := [] } first (callAt first)) .committed
    let u : State := { s with table := [], slots := s.slots.set first { s.slots.get first with slot := some x } }
    slotOf t first = some x ∧ slotOf t (otherLeg first) = some (slotOfBid (place u (otherLeg first) (callAt (otherLeg first))) .committed) := by
  intro x u
  obtain ⟨huse, hst, hc⟩ := hall first
  obtain ⟨huse', hst', hc'⟩ := hall (otherLeg first)
  have hfirst : slotOf t first = some x := by
    obtain ⟨v, hleg, hcfg, htable, hgreen, hsame, -⟩ := h.told first huse
    have hplace : place v first (callAt first) = place { s with table := [] } first (callAt first) :=
      place_congr (s := { s with table := [] }) hcfg htable hgreen (by rw [hsame (.inl rfl)]; rfl) _
    exact (hleg.called _ hst hc).2.trans (by rw [hplace])
  obtain ⟨v, hleg, hcfg, htable, hgreen, -, hsecond⟩ := h.told (otherLeg first) huse'
  have hne : otherLeg first ≠ first := by cases first <;> decide
  have hx : slotOf u first = some x := by simp [slotOf, u]
  have hplace : place v (otherLeg first) (callAt (otherLeg first)) = place u (otherLeg first) (callAt (otherLeg first)) := by
    refine place_congr (s := u) hcfg htable hgreen ?_ _
    rw [hsecond hne (by rw [otherLeg_otherLeg]; exact huse), otherLeg_otherLeg, hfirst, hx]
  exact ⟨hfirst, (hleg.called _ hst' hc').2.trans (by rw [hplace])⟩

/-- Settles O48: each command is its request with the reply of what it leaves; the requests are read mode by mode. -/
theorem modeCommands : Obligations.ModeCommands := by
  unfold Obligations.ModeCommands
  intro content answer unchanged s hr floor
  have hcontent (u : State) : content u = modeContent u := by
    unfold modeContent
    change [_, _, _] = [_, _, _]
    refine congrArg₂ List.cons ?_ (congrArg₂ List.cons ?_ (congrArg₂ List.cons ?_ rfl))
    · cases u.mode <;> rfl
    · cases u.cause <;> rfl
    · rcases u.isolation with _ | (_ | _ | _) <;> rfl
  have hanswer (code : Byte) (t : State) : answer code s t = modeAnswer code s t := by
    show _ ++ content t = _
    rw [hcontent]; rfl
  have hreply (code : Byte) (t : State) : (settle (withReply (modeAnswer code s t) t)).port.reply =
      some (answer code s (settle (withReply (modeAnswer code s t) t))) := by
    rw [hanswer, modeAnswer_settle, settle_port]; rfl
  have hunchanged (code : Byte) : settle (withReply (modeAnswer code s (later s)) (later s)) = unchanged code s := by
    show _ = settle (withReply (_ ++ content s) (later s))
    rw [hcontent, modeAnswer_unchanged]; rfl
  refine ⟨?flash, ?isol, ?join, ?resume⟩
  case flash =>
    refine ⟨_, exec_modeCommand (c := .flash) (request := flashFrom .command) hr (by decide) rfl rfl (fun _ => rfl), hreply _ _,
      fun hm => ?_, fun hm => ?_⟩
    · rw [flashFrom_stays .command (s := later s) hm]; exact hunchanged 0x20
    · rw [flashFrom_enters .command (s := later s) (by exact hm)]
      have hf := enterFlash_flashed .command (later s)
      have hlevel : stopLevel (later s) = floor := stopLevel_eq _
      generalize modeAnswer (commandCode .flash) s (enterFlash .command (later s)) = b
      simp only [settle_mode, settle_cause, settle_isolation, settle_join, settle_line, settle_legs, settle_links, settle_kerbs, settle_slots,
        kerbOf_settle, callOf_settle, slotOf_settle]
      refine ⟨hf.mode, hf.cause, hf.isolation, by rw [show (withReply b (enterFlash .command (later s))).join = _ from hf.join]; rfl,
        enterFlash_beacon .command (later s), fun l hu => ⟨?_, ?_, fun k => ?_⟩, fun l hu => ?_, fun l => ?_, fun hcfg => ?_,
        fun hcfg hi hp hrange => ?_, fun hi => ?_⟩
      · exact (hf.leg l).trans (if_pos hu)
      · rw [← hlevel]; exact (hf.kerbs l hu).1
      · have hk : kerbOf (withReply b (enterFlash .command (later s))) l k = (kerbOf s l k).silenced := (hf.kerbs l hu).2 k
        rw [hk]; exact ⟨rfl, rfl, rfl, rfl, rfl, rfl, rfl, rfl⟩
      · exact ⟨(hf.leg l).trans (if_neg (by rw [show inUse (later s) l = inUse s l from rfl, hu]; decide)), hf.others l hu⟩
      · exact ⟨hf.call l, hf.slot l⟩
      · exact (enterFlash_requests .command (s := later s) hcfg).1
      · obtain ⟨hhold, hclear⟩ := (enterFlash_requests .command (s := later s) hcfg).2 hi hp hrange
        exact ⟨by rw [settle_hold_eq]; exact hhold, hclear⟩
      · obtain ⟨hhold, hclear⟩ := enterFlash_noClearway .command (s := later s) hi
        have hclearway : (enterFlash .command (later s)).hold.clearway = s.hold.clearway := congrArg Hold.clearway hhold
        exact ⟨by rw [settle_hold_eq]; exact hclearway, hclear⟩
  case isol =>
    refine ⟨_, exec_modeCommand (c := .isol) (request := reportIsolation .command) hr (by decide) rfl rfl (fun _ => rfl), hreply _ _,
      fun hm => ?_, fun hm => ?_, fun hm hc => ?_, fun hm hc => ?_, fun hm hi => ?_, fun hm hi => ?_⟩
    · rw [reportIsolation_start .command (s := later s) hm]; exact hunchanged 0x22
    · rw [reportIsolation_serving (s := later s) (by exact hm)]
      have hi := enterIsolated_isolated .command (later s)
      have hch := enterIsolated_changes .command (later s)
      obtain ⟨first, hlegs⟩ := enterIsolated_legs .command (later s)
      have hline : (enterIsolated .command (later s)).line = _ := (settle_line _).symm.trans hi.line
      generalize modeAnswer (commandCode .isol) s (enterIsolated .command (later s)) = b
      simp only [settle_mode, settle_cause, settle_join, settle_line, settle_table, settle_heard, settle_legs, settle_slots, slotOf_settle,
        legState_settle, flagSet_settle]
      refine ⟨hch .mode (by decide), hch .cause (by decide), hch .table (by decide), hch .heard (by decide), ?_, ?_, ?_, ?_, ?_, ?_, ?_, ?_,
        hlegs.quiet, fun l x hu hst hx => ?_, fun l c hu hst hc => ⟨?_, hlegs.placed_alone hu hst hc, fun d hu' hst' hc' => ?_⟩,
        fun l h => ?_⟩
      · exact congrArg Line.tx hline
      · exact congrArg Line.queue hline
      · exact congrArg Line.collisions hline
      · exact congrArg (fun n => n.beacon.running) hline
      · exact congrArg Countdown.running (hch .join (by decide) : (enterIsolated .command (later s)).join = _)
      · rw [settle_hold_eq]
        exact congrArg (fun h => h.clearway.running) (hch .hold (by decide) : (enterIsolated .command (later s)).hold = _)
      · have hhold : (enterIsolated .command (later s)).hold = (isolatedBase .command (later s)).hold := hch .hold (by decide)
        have hholders : (enterIsolated .command (later s)).hold.holders = s.hold.holders := by rw [hhold]; rfl
        rw [settle_hold_eq]
        exact hholders
      · exact enterIsolated_flags .command (.inl rfl)
      · obtain ⟨u, hleg, -⟩ := hlegs.told l hu
        obtain ⟨hslot, hcontest, hstate⟩ := hleg.claimed hst
        refine ⟨hslot.trans ?_, hcontest, hstate x hx⟩
        rw [show slotOf (later s) l = some x from hx]; rfl
      · obtain ⟨u, hleg, -⟩ := hlegs.told l hu
        exact (hleg.called c hst hc).1
      · refine ⟨first, hlegs.placed_both (fun m => if m = l then c else d) fun m => ?_⟩
        obtain rfl | rfl : m = l ∨ m = otherLeg l := by cases l <;> cases m <;> simp [otherLeg]
        · rw [if_pos rfl]; exact ⟨hu, hst, hc⟩
        · rw [if_neg (by cases l <;> decide)]; exact ⟨hu', hst', hc'⟩
      · cases hu : inUse s l with
        | false => exact hlegs.outOfUse l hu
        | true =>
          obtain ⟨u, hleg, -⟩ := hlegs.told l hu
          obtain ⟨hca, hcl⟩ := h.resolve_left (by rw [hu]; decide)
          exact hleg.other hca hcl
    · rw [reportCommand_isolated (s := later s) hm, if_neg (by exact hc)]; exact hunchanged 0x22
    · rw [reportCommand_isolated (s := later s) hm, if_pos (by exact hc), hcontent, modeAnswer_changed]
      · rfl
      · exact .inr (.inl (show Cause.command ≠ s.cause by rw [hc]; decide))
    · rw [reportIsolation_flash (s := later s) hm, if_pos (by exact hi), hcontent, modeAnswer_changed]
      · rfl
      · refine .inr (.inr (show some Isolation.command ≠ s.isolation from ?_))
        obtain hi | hi := hi <;> rw [hi] <;> decide
    · have hstays : reportIsolation .command (later s) = later s := by
        rw [reportIsolation_flash (s := later s) hm, if_neg]
        rintro (h | h) <;> obtain hi | hi := hi <;> rw [show (later s).isolation = s.isolation from rfl, hi] at h <;> cases h
      rw [hstays]; exact hunchanged 0x22
  case join =>
    refine ⟨_, exec_modeCommand (c := .join) (request := takeJoin) hr (by decide) rfl rfl (fun _ => rfl), hreply _ _,
      fun hm => ?_, fun hm hf => ?_, fun hm hf => ?_, fun hm => ?_⟩
    · rw [takeJoin_idle (s := later s) hm]; exact hunchanged 0x23
    · rw [takeJoin_faulted (s := later s) hm hf, hcontent]
      refine congrArg (fun b => settle (withReply ([b, 0x23#8, 3] ++ modeContent { s with cause := .line }) { later s with cause := .line })) ?_
      by_cases hc : s.cause = .line
      · rw [if_pos hc]; exact if_pos ⟨rfl, hc.symm, rfl⟩
      · rw [if_neg hc]; exact if_neg (fun h => hc h.2.1.symm)
    · rw [takeJoin_listen (s := later s) hm hf]
      have hl := enterListen_changes (later s)
      simp only [settle_mode, settle_cause, settle_join, settle_line]
      refine ⟨hl .mode (by decide), hl .cause (by decide), hl .join (by decide), ?_, fun hcfg => ?_⟩
      · show (enterListen (later s)).line.beacon = _
        rw [enterListen, startClearway_line]; rfl
      · show (enterListen (later s)).line.queue.beacon.isSome = true
        rw [enterListen_line (s := later s) hcfg]; rfl
    · intro i
      rw [takeJoin_flash (s := later s) hm, hcontent]
      refine congrArg (fun b => settle (withReply ([b, 0x23#8, 3] ++ modeContent { s with isolation := i }) { later s with isolation := i })) ?_
      by_cases hi : s.isolation = i
      · rw [if_pos hi]; exact if_pos ⟨rfl, rfl, hi.symm⟩
      · rw [if_neg hi]; exact if_neg (fun h => hi h.2.2.symm)
  case resume =>
    refine ⟨_, exec_resume hr, fun hm => ?_, fun hm hc => ?_, fun hm hc ha => ⟨?_, fun l i => ?_⟩, fun hm hc ha => ?_⟩
    · rw [runResume_idle (s := later s) hm]
      show _ = settle (withReply (_ ++ content s) (later s))
      rw [hcontent]; rfl
    · rw [runResume_config (s := later s) hm hc]; rfl
    · rw [runResume_lamps (s := later s) hm hc ha]; rfl
    · refine Eq.trans ?_ (mismatchBits_testBit s l i)
      cases i <;> exact lampMask_testBit s l (by decide)
    · rw [runResume_accepted (s := later s) hm hc ha]
      generalize hb : replyBytes ReplyStatus.ok 0x21 (modeContent (takeResume (later s))) = b
      simp only [settle_mode, settle_cause, settle_isolation, settle_line, settle_table, settle_legs, settle_port, legState_settle,
        kerbOf_settle, flagSet_settle, hcontent]
      refine ⟨?_, fun l hu => ?_, fun hi => ?_, fun i hi => ?_⟩
      · rw [modeContent, settle_mode, settle_cause, settle_isolation]
        exact congrArg some hb.symm
      · obtain ⟨hleg, hkerbs⟩ := takeResume_leg (later s) l hu
        refine ⟨congrArg LegRec.state hleg, fun hsilent k => ?_, congrArg LegRec.interval hleg⟩
        have hk : kerbOf (withReply b (takeResume (later s))) l k = ((resumedBase (later s)).kerbs.get l).get k := by
          rw [kerbOf]; exact congrArg (fun p => (Legs.get p l).get k) hkerbs
        rw [hk]
        exact resumedBase_kerbs (later s) l hu hsilent k
      · have hbase : takeResume (later s) = resumedBase (later s) := by
          rw [takeResume_eq, show (later s).isolation = none from hi]
        have hch := resumedBase_changes (later s)
        rw [hbase]
        exact ⟨hch .mode (by decide), hch .cause (by decide), (hch .isolation (by decide)).trans hi, hch .line (by decide)⟩
      · have hbase : takeResume (later s) = enterIsolated i { resumedBase (later s) with isolation := none } := by
          rw [takeResume_eq, show (later s).isolation = some i from hi]
        have hch := enterIsolated_changes i { resumedBase (later s) with isolation := none }
        rw [hbase]
        exact ⟨hch .mode (by decide), hch .cause (by decide), hch .isolation (by decide), hch .table (by decide),
          enterIsolated_flags i (.inl rfl)⟩

end Sys2Proof.Machine
end

section
/-! The transmit queue's head (R50) and the start of a transmission (R53, R46 to R49). -/

namespace Sys2Proof.Machine

/-! ### The first of the requests (R50) -/

theorem comesBefore_iff (s : State) (a b : Head × Nat) :
    comesBefore s a b = true ↔ queueClass s a.1 < queueClass s b.1 ∨ (queueClass s a.1 = queueClass s b.1 ∧ a.2 < b.2) := by
  unfold comesBefore
  split
  · rw [decide_eq_true_iff]; omega
  · rw [decide_eq_true_iff]; omega

/-- The best request so far beside one more. -/
def better (s : State) (best : Option (Head × Nat)) (r : Head × Nat) : Option (Head × Nat) :=
  match best with
  | none => some r
  | some b => if comesBefore s r b then some r else some b

theorem headOf_eq (s : State) : headOf s = ((requests s.line.queue).foldl (better s) none).map Prod.fst := rfl

/-- The request b is the first of the list in the order of R50: none comes before it, and it comes before all that stand ahead of it. -/
def FirstOf (s : State) (b : Head × Nat) (rs : List (Head × Nat)) : Prop :=
  ∃ pre post, rs = pre ++ b :: post ∧ (∀ r ∈ pre, comesBefore s b r = true) ∧ ∀ r ∈ post, ¬comesBefore s r b = true

theorem FirstOf.none_before {s : State} {b : Head × Nat} {rs : List (Head × Nat)} (h : FirstOf s b rs) :
    ∀ r ∈ rs, ¬comesBefore s r b = true := by
  obtain ⟨pre, post, rfl, hpre, hpost⟩ := h
  intro r hr
  rw [List.mem_append, List.mem_cons] at hr
  obtain hr | rfl | hr := hr
  · have h := hpre r hr
    rw [comesBefore_iff] at h ⊢
    omega
  · rw [comesBefore_iff]; omega
  · exact hpost r hr

theorem foldl_better_some (s : State) (rs : List (Head × Nat)) (a : Head × Nat) :
    ∃ b, rs.foldl (better s) (some a) = some b ∧ FirstOf s b (a :: rs) := by
  induction rs generalizing a with
  | nil => exact ⟨a, rfl, [], [], rfl, nofun, nofun⟩
  | cons r rs ih =>
    rw [List.foldl_cons, better]
    by_cases hr : comesBefore s r a = true
    · rw [if_pos hr]
      obtain ⟨b, hb, pre, post, heq, hpre, hpost⟩ := ih r
      refine ⟨b, hb, a :: pre, post, congrArg (a :: ·) heq, fun x hx => ?_, hpost⟩
      obtain rfl | hx := List.mem_cons.mp hx
      · have hfirst := FirstOf.none_before ⟨pre, post, heq, hpre, hpost⟩ r (List.mem_cons_self ..)
        rw [comesBefore_iff] at hr hfirst ⊢
        omega
      · exact hpre x hx
    · rw [if_neg hr]
      obtain ⟨b, hb, pre, post, heq, hpre, hpost⟩ := ih a
      refine ⟨b, hb, ?_⟩
      cases pre with
      | nil =>
        obtain ⟨rfl, rfl⟩ := List.cons.inj heq
        refine ⟨[], r :: rs, rfl, nofun, fun x hx => ?_⟩
        obtain rfl | hx := List.mem_cons.mp hx
        · exact hr
        · exact hpost x hx
      | cons p pre =>
        obtain ⟨rfl, rfl⟩ := List.cons.inj heq
        have hba := hpre a (List.mem_cons_self ..)
        refine ⟨a :: r :: pre, post, rfl, fun x hx => ?_, hpost⟩
        obtain rfl | hx := List.mem_cons.mp hx
        · exact hba
        · obtain rfl | hx := List.mem_cons.mp hx
          · rw [comesBefore_iff] at hr hba ⊢
            omega
          · exact hpre x (List.mem_cons_of_mem _ hx)

theorem headOf_none_iff (s : State) : headOf s = none ↔ requests s.line.queue = [] := by
  rw [headOf_eq, Option.map_eq_none_iff]
  cases requests s.line.queue with
  | nil => exact iff_of_true rfl rfl
  | cons r rs =>
    obtain ⟨b, hb, -⟩ := foldl_better_some s rs r
    rw [List.foldl_cons, show better s none r = some r from rfl, hb]
    exact iff_of_false (by simp) (by simp)

theorem headOf_first {s : State} {h : Head} (hh : headOf s = some h) : ∃ stamp, FirstOf s (h, stamp) (requests s.line.queue) := by
  rw [headOf_eq] at hh
  cases hq : requests s.line.queue with
  | nil => rw [hq] at hh; cases hh
  | cons r rs =>
    obtain ⟨b, hb, hfirst⟩ := foldl_better_some s rs r
    rw [hq, List.foldl_cons, show better s none r = some r from rfl, hb] at hh
    cases hh
    exact ⟨b.2, hfirst⟩

/-! ### The requests of a queue -/

/-- The request stands in the queue with this time of queueing. -/
def Queued (q : Queue) : Head → Nat → Prop
  | .leg l k, stamp => ∃ e, q.legs.get l = some e ∧ e.kind = k ∧ e.stamp = stamp
  | .beacon, stamp => ∃ e, q.beacon = some e ∧ e.stamp = stamp
  | .clear k, stamp => ∃ e, q.clear = some e ∧ e.kind = k ∧ e.stamp = stamp

theorem mem_requests (q : Queue) (h : Head) (stamp : Nat) : (h, stamp) ∈ requests q ↔ Queued q h stamp := by
  simp only [requests, List.mem_append, Option.mem_toList, Option.map_eq_some_iff, Prod.mk.injEq]
  cases h with
  | leg l k => cases l <;> simp [Queued, Legs.get]
  | beacon => simp [Queued]
  | clear k => simp [Queued]

/-- No request of leg 0 stands behind one of leg 1. -/
theorem requests_pairwise (q : Queue) :
    (requests q).Pairwise (fun a b => ∀ k j, ¬(a.1 = .leg .leg1 k ∧ b.1 = .leg .leg0 j)) := by
  unfold requests
  cases q.clear <;> cases q.legs.leg0 <;> cases q.legs.leg1 <;> cases q.beacon <;> simp

theorem requests_nil_iff (q : Queue) : requests q = [] ↔ q = { legs := { leg0 := none, leg1 := none }, beacon := none, clear := none } := by
  obtain ⟨⟨leg0, leg1⟩, beacon, clear⟩ := q
  cases clear <;> cases leg0 <;> cases leg1 <;> cases beacon <;> simp [requests]

/-- Settles O20: the head is the first of the requests, which stand with leg 0's before leg 1's. -/
theorem queueHeadIsFirst : Obligations.QueueHeadIsFirst := by
  unfold Obligations.QueueHeadIsFirst
  intro s queued cls
  have hqueued (h : Head) (stamp : Nat) : queued h stamp ↔ Queued s.line.queue h stamp := by
    cases h <;> exact Iff.rfl
  have hcls (h : Head) : cls h = queueClass s h := by
    cases h with
    | leg l k =>
      cases k with
      | bid =>
        show (match callOf s l with | some c => if (legConf s l).maxWait ≤ c.waited then 1 else 4 | none => 4) = _
        cases hc : callOf s l <;> simp [queueClass, hc]
      | keep | cede => rfl
    | beacon => rfl
    | clear k => rfl
  refine ⟨(headOf_none_iff s).trans (requests_nil_iff _), fun h hh => ?_⟩
  obtain ⟨stamp, hfirst⟩ := headOf_first hh
  have hmem : (h, stamp) ∈ requests s.line.queue := by
    obtain ⟨pre, post, heq, -⟩ := hfirst
    rw [heq]; simp
  refine ⟨stamp, (hqueued h stamp).mpr ((mem_requests _ h stamp).mp hmem), fun r since hr => ?_⟩
  have hrmem : (r, since) ∈ requests s.line.queue := (mem_requests _ r since).mpr ((hqueued r since).mp hr)
  have hno := hfirst.none_before (r, since) hrmem
  rw [comesBefore_iff] at hno
  dsimp only at hno
  rw [hcls, hcls]
  by_cases hlt : queueClass s h < queueClass s r
  · exact .inl hlt
  · refine .inr ⟨⟨by omega, by omega⟩, ?_⟩
    rintro k j rfl rfl ⟨hc, hst⟩
    obtain ⟨pre, post, heq, hpre, -⟩ := hfirst
    have hpair := requests_pairwise s.line.queue
    rw [heq] at hpair hrmem
    rw [List.mem_append, List.mem_cons] at hrmem
    obtain hin | hin | hin := hrmem
    · have hbefore := hpre _ hin
      rw [comesBefore_iff] at hbefore
      dsimp only at hbefore
      omega
    · cases hin
    · rw [List.pairwise_append, List.pairwise_cons] at hpair
      exact hpair.2.1.1 _ hin k j ⟨rfl, rfl⟩

/-! ### Heads taken until one passes (R53) -/

/-- The queue without its head. -/
def Queue.without (q : Queue) : Head → Queue
  | .leg l _ => { q with legs := q.legs.set l none }
  | .beacon => { q with beacon := none }
  | .clear _ => { q with clear := none }

theorem dropHead_eq (h : Head) (s : State) : dropHead h s = { s with line := { s.line with queue := s.line.queue.without h } } := by
  cases h <;> rfl

theorem requests_length (q : Queue) :
    (requests q).length = q.clear.toList.length + (q.legs.leg0.toList.length + (q.legs.leg1.toList.length + q.beacon.toList.length)) := by
  have h {α β : Type} (f : α → β) (o : Option α) : (o.map f).toList.length = o.toList.length := by cases o <;> rfl
  simp only [requests, List.length_append, h]

theorem requests_length_le (q : Queue) : (requests q).length ≤ 4 := by
  have h {α : Type} (o : Option α) : o.toList.length ≤ 1 := by cases o <;> simp
  rw [requests_length]
  have := h q.clear; have := h q.legs.leg0; have := h q.legs.leg1; have := h q.beacon
  omega

/-- A request that stands in the queue makes it longer by one. -/
theorem requests_without {q : Queue} {h : Head} {stamp : Nat} (hq : Queued q h stamp) :
    (requests (q.without h)).length + 1 = (requests q).length := by
  rw [requests_length, requests_length]
  cases h with
  | leg l k =>
    obtain ⟨e, he, -⟩ := hq
    cases l <;> simp only [Legs.get] at he <;> simp [Queue.without, Legs.set, he] <;> omega
  | beacon =>
    obtain ⟨e, he, -⟩ := hq
    simp [Queue.without, he]; omega
  | clear k =>
    obtain ⟨e, he, -⟩ := hq
    simp [Queue.without, he]; omega

theorem headOf_queued {s : State} {h : Head} (hh : headOf s = some h) : ∃ stamp, Queued s.line.queue h stamp := by
  obtain ⟨stamp, pre, post, heq, -⟩ := headOf_first hh
  exact ⟨stamp, (mem_requests _ h stamp).mp (by rw [heq]; simp)⟩

/-- As many heads as there are requests are enough: one more changes nothing. -/
theorem takeHead_enough (n : Nat) {s : State} (hn : (requests s.line.queue).length ≤ n) : takeHead n s = takeHead (n + 1) s := by
  induction n generalizing s with
  | zero =>
    have hnone : headOf s = none := (headOf_none_iff s).mpr (List.length_eq_zero_iff.mp (Nat.le_zero.mp hn))
    rw [takeHead, takeHead, hnone]
  | succ n ih =>
    rw [takeHead, takeHead]
    cases hh : headOf s with
    | none => rfl
    | some h =>
      dsimp only
      split
      · rfl
      · refine ih ?_
        obtain ⟨stamp, hq⟩ := headOf_queued hh
        have hlen := requests_without hq
        rw [dropHead_eq]
        change (requests (s.line.queue.without h)).length ≤ n
        omega

theorem takeHead_none {s : State} (h : headOf s = none) (n : Nat) : takeHead n s = s := by
  cases n with
  | zero => rfl
  | succ n => rw [takeHead, h]

theorem takeHead_passes {s : State} {h : Head} (hh : headOf s = some h) (hp : headPasses s h = true) (n : Nat) :
    takeHead (n + 1) s = beginFrame h s := by
  rw [takeHead, hh]
  exact if_pos hp

/-- A head that fails its check is dropped and the next is looked at. -/
theorem takeHead_drops {s : State} {h : Head} (hh : headOf s = some h) (hp : headPasses s h = false) :
    takeHead 4 s = takeHead 4 (dropHead h s) := by
  have hfail : takeHead 4 s = takeHead 3 (dropHead h s) := by
    rw [takeHead, hh]
    exact if_neg (by rw [hp]; decide)
  rw [hfail]
  refine takeHead_enough 3 ?_
  obtain ⟨stamp, hq⟩ := headOf_queued hh
  have hlen := requests_without hq
  have hle := requests_length_le s.line.queue
  rw [dropHead_eq]
  change (requests (s.line.queue.without h)).length ≤ 3
  omega

/-! ### The frame that goes out (R46 to R49, R53) -/

theorem exec_transmissionStart {s : State} (hr : s.resetHeld = false) (htx : s.line.tx = none) (hf : s.line.faulted = false) :
    exec .transmissionStart s = .next (settle (takeHead 4 (later s))) :=
  exec_event hr rfl rfl (show (s.line.tx.isNone && !s.line.faulted) = true by rw [htx, hf]; rfl)

theorem headPasses_iff (s : State) (h : Head) :
    headPasses s h = true ↔
      match h with
      | .leg l .bid => (s.cfg.isSome = true ∧ s.mode = .run) ∧ legState s l = .called ∧ callOf s l ≠ none
      | .leg l .keep => (s.cfg.isSome = true ∧ s.mode = .run) ∧ slotOf s l ≠ none
      | .leg _ .cede => s.cfg.isSome = true ∧ (s.mode = .listen ∨ s.mode = .flash ∨ s.mode = .run)
      | .beacon => s.cfg.isSome = true ∧ (s.mode = .listen ∨ s.mode = .flash ∨ s.mode = .run)
      | .clear _ => s.cfg.isSome = true ∧ (s.mode = .listen ∨ s.mode = .flash ∨ s.mode = .run) := by
  have hany : acceptsAny s = true ↔ s.cfg.isSome = true ∧ (s.mode = .listen ∨ s.mode = .flash ∨ s.mode = .run) := by
    simp [acceptsAny, or_assoc]
  cases h with
  | leg l k =>
    cases k with
    | bid => simp [headPasses, acceptsLeg, Option.isSome_iff_ne_none, and_assoc]
    | keep => simp [headPasses, acceptsLeg, Option.isSome_iff_ne_none]
    | cede => exact hany
  | beacon => exact hany
  | clear k => exact hany

/-- The mark at the transmission's start: the renewed request of this instant waits on unmarked (R95, log entry 35). -/
theorem markAt_eq {α : Type} (now : Nat) (e : Entry α) :
    e.markAt (now + 1) = if e.renews = true ∧ e.stamp = now then { e with renews := false } else { e with sending := true } := by
  unfold Entry.markAt Entry.mark
  by_cases h : e.renews = true ∧ e.stamp = now
  · rw [if_pos h, if_pos (by simp [h])]
  · rw [if_neg h, if_neg]
    simpa using h

theorem sendFrame_queue (h : Head) (f : Frame) (s : State) :
    (sendFrame h f s).line.queue =
      match h with
      | .leg l _ => { s.line.queue with legs := s.line.queue.legs.set l ((s.line.queue.legs.get l).map (Entry.markAt s.clock)) }
      | .beacon => { s.line.queue with beacon := s.line.queue.beacon.map Entry.mark }
      | .clear _ => { s.line.queue with clear := s.line.queue.clear.map Entry.mark } := by
  cases h <;> rfl

/-- What a frame that goes out leaves: the frame on the line, its request marked, the slots as the frame's building left them. -/
theorem settle_sendFrame (h : Head) (f : Frame) (s : State) :
    (settle (sendFrame h f s)).line.tx = some f ∧ (settle (sendFrame h f s)).slots = s.slots ∧
      (settle (sendFrame h f s)).line.queue = (sendFrame h f s).line.queue := by
  rw [settle_line, settle_slots]
  exact ⟨rfl, rfl, rfl⟩

theorem beginFrame_bid {s : State} {l : LegId} {c : Call} (hc : callOf s l = some c) :
    beginFrame (.leg l .bid) s = sendFrame (.leg l .bid) (buildBid s l (place s l c))
      (updSlot l (fun r => { r with bid := some (place s l c), deferred := [] }) s) := by
  unfold beginFrame; dsimp only; rw [hc]

theorem beginFrame_keep {s : State} {l : LegId} {x : Slot} (hx : slotOf s l = some x) :
    beginFrame (.leg l .keep) s = sendFrame (.leg l .keep) (buildKeep s l x) s := by
  unfold beginFrame; dsimp only; rw [hx]

/-- Settles O21: the head's check and the frame built for it; a head dropped leaves a queue that is still within the heads taken. -/
theorem transmissionStarts : Obligations.TransmissionStarts := by
  unfold Obligations.TransmissionStarts
  intro s hr htx hf runs sends passes dropped station position radius range stage phase legBlock
  have hexec := exec_transmissionStart hr htx hf
  have hpasses (h : Head) : passes h ↔ headPasses (later s) h = true := by
    rw [headPasses_iff]
    cases h with
    | leg l k => cases k <;> exact Iff.rfl
    | beacon => exact Iff.rfl
    | clear k => exact Iff.rfl
  have hdropped (h : Head) : dropped h = s.line.queue.without h := by cases h <;> rfl
  have hstage (x : Slot) : BitVec.ofNat 2 (stageCode x.stage) = stage x := by
    show _ = match x.stage with | .claimed => 1#2 | .committed => 2#2 | .running => 3#2
    cases x.stage <;> rfl
  have hphase (l : LegId) : BitVec.ofNat 4 (phaseCode (legState (later s) l)) = phase l := by
    show BitVec.ofNat 4 (phaseCode (legState s l)) = match legState s l with
      | .start => 0#4 | .rest => 1#4 | .called => 2#4 | .claimed => 3#4 | .committed => 4#4 | .amber => 5#4 | .allRedIn => 6#4
      | .walk => 7#4 | .clearance => 8#4 | .allRedOut => 9#4 | .held => 10#4 | .flash => 11#4
    cases legState s l <;> rfl
  have hblock (l : LegId) : blockOf (later s) l = legBlock l := by
    show _ = match slotOf s l with
      | none => ({ phase := phase l, stage := 0, startIn := 0, endIn := 0, aid := false, band := 0, keyNormal := false, rank := 0 } : LegBlock)
      | some x => { phase := phase l, stage := stage x, startIn := BitVec.ofNat 12 x.startIn, endIn := BitVec.ofNat 12 x.endIn,
                    aid := x.aid, band := BitVec.ofNat 3 x.band, keyNormal := !x.urgent, rank := BitVec.ofNat 5 x.rank }
    unfold blockOf
    rw [hphase, show slotOf (later s) l = slotOf s l from rfl]
    cases slotOf s l with
    | none => rfl
    | some x => dsimp only; rw [hstage]
  refine ⟨fun hh => ?_, fun h hh hp => ?_, fun h hh hp => ⟨_, hexec, ?_⟩⟩
  · rw [hexec, takeHead_none (s := later s) hh]
  · have hfail : headPasses (later s) h = false := by rw [← Bool.not_eq_true, ← hpasses]; exact hp
    rw [hexec, takeHead_drops (s := later s) hh hfail, dropHead_eq, hdropped]
    exact (exec_transmissionStart (s := { s with line := { s.line with queue := s.line.queue.without h } }) hr htx hf).symm
  · have hp' := (hpasses h).mp hp
    have hbegin := takeHead_passes (s := later s) hh hp' 3
    have hchanges := exec_changes (c := .transmissionStart) hexec (ps := [.clock, .slots, .line, .hold, .lamps]) rfl
    rw [hbegin] at hchanges ⊢
    have hmark : (fun o : Option (Entry LegReq) => o.map (Entry.markAt (later s).clock)) = Option.map (fun e =>
        if e.renews = true ∧ e.stamp = s.clock then { e with renews := false } else { e with sending := true }) :=
      funext fun o => congrArg (fun g => o.map g) (funext fun e => markAt_eq s.clock e)
    have hqueue (l : LegId) (k : LegReq) (f : Frame) (u : State) (hu : u.line = s.line) (hclock : u.clock = (later s).clock) :
        (settle (sendFrame (.leg l k) f u)).line.queue = { s.line.queue with
          legs := s.line.queue.legs.set l ((s.line.queue.legs.get l).map (fun e =>
            if e.renews = true ∧ e.stamp = s.clock then { e with renews := false } else { e with sending := true })) } := by
      rw [(settle_sendFrame _ f u).2.2, sendFrame_queue, hu, hclock, ← congrFun hmark]
    cases h with
    | leg l k =>
      cases k with
      | bid =>
        obtain ⟨c, hc⟩ := Option.ne_none_iff_exists'.mp hp.2.2
        have hsend := settle_sendFrame (.leg l .bid) (buildBid (later s) l (place (later s) l c))
          (updSlot l (fun r => { r with bid := some (place (later s) l c), deferred := [] }) (later s))
        rw [beginFrame_bid (s := later s) hc] at hchanges ⊢
        refine ⟨?_, nofun, nofun, nofun, nofun, ?_, hchanges⟩
        · rintro _ ⟨⟩
          exact ⟨c, hc, hsend.1, hsend.2.1⟩
        · rintro _ _ ⟨⟩
          exact hqueue l .bid _ _ rfl rfl
      | keep =>
        obtain ⟨x, hx⟩ := Option.ne_none_iff_exists'.mp hp.2
        have hsend := settle_sendFrame (.leg l .keep) (buildKeep (later s) l x) (later s)
        rw [beginFrame_keep (s := later s) hx] at hchanges ⊢
        refine ⟨nofun, ?_, nofun, nofun, nofun, ?_, hchanges⟩
        · rintro _ ⟨⟩
          refine ⟨x, hx, hsend.2.1, hsend.1.trans ?_⟩
          rw [buildKeep, hstage]; rfl
        · rintro _ _ ⟨⟩
          exact hqueue l .keep _ _ rfl rfl
      | cede =>
        have hsend := settle_sendFrame (.leg l .cede) (.cede { station := ownStation (later s), leg := l }) (later s)
        refine ⟨nofun, nofun, ?_, nofun, nofun, ?_, hchanges⟩
        · rintro _ ⟨⟩
          exact ⟨hsend.1, hsend.2.1⟩
        · rintro _ _ ⟨⟩
          exact hqueue l .cede _ _ rfl rfl
    | beacon =>
      have hsend := settle_sendFrame .beacon (buildBeacon (later s)) (later s)
      refine ⟨nofun, nofun, nofun, fun _ => ⟨hsend.2.1, hsend.1.trans ?_, hsend.2.2⟩, nofun, nofun, hchanges⟩
      rw [buildBeacon, hblock, hblock]; rfl
    | clear k =>
      refine ⟨nofun, nofun, nofun, nofun, ?_, nofun, hchanges⟩
      rintro _ ⟨⟩
      cases k with
      | clearway =>
        have hsend := settle_sendFrame (.clear .clearway) (.clearway (ownClearway (later s))) (later s)
        exact ⟨hsend.2.1, hsend.1, hsend.2.2⟩
      | clearEnd =>
        have hsend := settle_sendFrame (.clear .clearEnd) (.clearEnd (ownClearway (later s))) (later s)
        exact ⟨hsend.2.1, hsend.1, hsend.2.2⟩

end Sys2Proof.Machine
end

section
/-! The street line's frames as bits: what the layout's fields read back, and what the CRC sees (O32, O33). -/

namespace Sys2Proof.Machine

/-! ### Bits -/

@[simp] theorem length_natBits (n v : Nat) : (natBits n v).length = n := by
  induction n with
  | zero => rfl
  | succ n ih => simp [natBits, ih]

theorem bitsNat_append (xs : List Bool) (b : Bool) : bitsNat (xs ++ [b]) = 2 * bitsNat xs + b.toNat := by
  simp [bitsNat]

theorem foldl_bits (xs : List Bool) (a : Nat) :
    xs.foldl (fun acc b => 2 * acc + b.toNat) a = a * 2 ^ xs.length + bitsNat xs := by
  induction xs generalizing a with
  | nil => simp [bitsNat]
  | cons b xs ih =>
    have hcons : bitsNat (b :: xs) = (2 * 0 + b.toNat) * 2 ^ xs.length + bitsNat xs := ih _
    rw [List.foldl_cons, ih, hcons, List.length_cons, pow_succ]
    ring

theorem bitsNat_cons (b : Bool) (xs : List Bool) : bitsNat (b :: xs) = b.toNat * 2 ^ xs.length + bitsNat xs := by
  rw [bitsNat, List.foldl_cons, foldl_bits, Nat.mul_zero, Nat.zero_add]

theorem bitsNat_lt (xs : List Bool) : bitsNat xs < 2 ^ xs.length := by
  induction xs with
  | nil => simp [bitsNat]
  | cons b xs ih =>
    rw [bitsNat_cons, List.length_cons, pow_succ]
    cases b <;> simp only [Bool.toNat_false, Bool.toNat_true] <;> omega

/-- Most significant first, a number is spelled by its low bits. -/
theorem bitsNat_natBits (n v : Nat) : bitsNat (natBits n v) = v % 2 ^ n := by
  induction n with
  | zero => simp [natBits, bitsNat, Nat.mod_one]
  | succ n ih =>
    rw [natBits, bitsNat_cons, length_natBits, ih, Nat.toNat_testBit, Nat.mod_pow_succ, Nat.mul_comm, Nat.add_comm]

/-- Two spellings of one length and one number are the same spelling. -/
theorem bitsNat_inj {xs ys : List Bool} (hlen : xs.length = ys.length) (h : bitsNat xs = bitsNat ys) : xs = ys := by
  induction xs generalizing ys with
  | nil => exact (List.length_eq_zero_iff.mp hlen.symm).symm
  | cons x xs ih =>
    obtain _ | ⟨y, ys⟩ := ys
    · cases hlen
    · have hlen' : xs.length = ys.length := Nat.succ.inj hlen
      have hx := bitsNat_lt xs
      have hy := bitsNat_lt ys
      rw [bitsNat_cons, bitsNat_cons, hlen'] at h
      rw [hlen'] at hx
      have hhead : x = y := by
        cases x <;> cases y <;> simp only [Bool.toNat_false, Bool.toNat_true] at h <;> first | rfl | omega
      subst hhead
      rw [ih hlen' (Nat.add_left_cancel h)]

/-! ### Fields of a frame's bits -/

theorem field_append (xs rest : List Bool) {off : Nat} (len : Nat) (h : xs.length ≤ off) :
    field (xs ++ rest) off len = field rest (off - xs.length) len := by
  rw [field, field, List.drop_append, List.drop_eq_nil_of_le h, List.nil_append]

theorem bitAt_append (xs rest : List Bool) {off : Nat} (h : xs.length ≤ off) :
    bitAt (xs ++ rest) off = bitAt rest (off - xs.length) := by
  rw [bitAt, bitAt, List.getD_append_right _ _ _ _ h]

@[simp] theorem field_skip (n v : Nat) (rest : List Bool) {off : Nat} (len : Nat) (h : n ≤ off) :
    field (natBits n v ++ rest) off len = field rest (off - n) len := by
  rw [field_append _ _ _ (by rwa [length_natBits]), length_natBits]

@[simp] theorem bitAt_skip (n v : Nat) (rest : List Bool) {off : Nat} (h : n ≤ off) :
    bitAt (natBits n v ++ rest) off = bitAt rest (off - n) := by
  rw [bitAt_append _ _ (by rwa [length_natBits]), length_natBits]

@[simp] theorem field_skipBit (b : Bool) (rest : List Bool) {off : Nat} (len : Nat) (h : 1 ≤ off) :
    field (b :: rest) off len = field rest (off - 1) len :=
  field_append [b] rest len h

@[simp] theorem bitAt_skipBit (b : Bool) (rest : List Bool) {off : Nat} (h : 1 ≤ off) : bitAt (b :: rest) off = bitAt rest (off - 1) :=
  bitAt_append [b] rest h

theorem field_front (n v : Nat) (rest : List Bool) : field (natBits n v ++ rest) 0 n = v % 2 ^ n := by
  rw [field, List.drop_zero, List.take_left' (length_natBits n v), bitsNat_natBits]

theorem field_whole (n v : Nat) : field (natBits n v) 0 n = v % 2 ^ n := by
  simpa using field_front n v []

@[simp] theorem bitAt_front (b : Bool) (rest : List Bool) : bitAt (b :: rest) 0 = b := rfl

theorem natBits_one (b : Bool) : natBits 1 b.toNat = [b] := by cases b <;> rfl

/-! ### The CRC register -/

/-- The generator is subtracted where the bit that leaves differs from the bit that comes. -/
theorem crcStep_eq (r : BitVec 8) (b : Bool) : crcStep r b = (r <<< 1) ^^^ (if r.msb != b then 0x07#8 else 0) := by
  unfold crcStep
  split
  · rfl
  · exact BitVec.xor_zero.symm

/-- The lowest bit after a step tells whether the generator was subtracted. -/
theorem crcStep_low (r : BitVec 8) (b : Bool) : (crcStep r b).getLsbD 0 = (r.msb != b) := by
  rw [crcStep_eq, BitVec.getLsbD_xor, BitVec.getLsbD_shiftLeft]
  cases r.msb != b <;> rfl

theorem crcStep_bit_inj {r : BitVec 8} {b b' : Bool} (h : crcStep r b = crcStep r b') : b = b' := by
  have hlow := congrArg (fun v : BitVec 8 => v.getLsbD 0) h
  simp only [crcStep_low] at hlow
  exact Bool.bne_right_inj.mp hlow

theorem crcStep_register_inj {r r' : BitVec 8} {b : Bool} (h : crcStep r b = crcStep r' b) : r = r' := by
  have hlow := congrArg (fun v : BitVec 8 => v.getLsbD 0) h
  simp only [crcStep_low] at hlow
  have hmsb : r.msb = r'.msb := Bool.bne_left_inj.mp hlow
  rw [crcStep_eq, crcStep_eq, hlow] at h
  have hshift : r <<< 1 = r' <<< 1 := BitVec.xor_left_inj _ |>.mp h
  refine BitVec.eq_of_getLsbD_eq fun i hi => ?_
  obtain rfl | hlt : i = 7 ∨ i < 7 := by omega
  · simpa [BitVec.msb_eq_getLsbD_last] using hmsb
  · have hbit := congrArg (fun v : BitVec 8 => v.getLsbD (i + 1)) hshift
    simpa only [BitVec.getLsbD_shiftLeft, show i + 1 < 8 by omega, decide_true, Bool.true_and, Nat.add_sub_cancel,
      show ¬(i + 1 < 1) by omega, decide_false, Bool.not_false] using hbit

theorem foldl_crcStep_inj (bits : List Bool) {r r' : BitVec 8} (h : bits.foldl crcStep r = bits.foldl crcStep r') : r = r' := by
  induction bits generalizing r r' with
  | nil => exact h
  | cons b bits ih => exact crcStep_register_inj (ih h)

/-- One changed bit changes the register when it passes, and the bits after it keep the two registers apart. -/
theorem crc_set_ne (bits : List Bool) {i : Nat} (h : i < bits.length) : crc (bits.set i (!bits.getD i false)) ≠ crc bits := by
  rw [List.set_eq_take_cons_drop _ h, List.getD_eq_getElem _ _ h]
  conv_rhs => rw [← List.take_append_drop i bits, List.drop_eq_getElem_cons h]
  simp only [crc, List.foldl_append, List.foldl_cons]
  intro hsame
  have hbit := crcStep_bit_inj (foldl_crcStep_inj _ hsame)
  exact absurd hbit (by cases bits[i] <;> decide)

/-! ### Decoding -/

/-- Of a body and its eight CRC bits the CRC check is made, and then the body is read. -/
theorem decodeFrame_append (body tail : List Bool) (hbody : 13 ≤ body.length) (htail : tail.length = 8) :
    decodeFrame (body ++ tail) = if bitsNat tail = (crc body).toNat then readBody body else .error .crc := by
  have hlen : (body ++ tail).length - 8 = body.length := by rw [List.length_append, htail]; rfl
  rw [decodeFrame, if_neg (by rw [List.length_append, htail]; omega)]
  dsimp only
  rw [hlen, List.take_left', List.drop_left'] <;> rfl

@[simp] theorem length_headerBits (cls rank station leg : Nat) : (headerBits cls rank station leg).length = 13 := by
  simp [headerBits]

theorem header_le_frameBody (f : Frame) : 13 ≤ (frameBody f).length := by
  cases f <;> simp only [frameBody, List.length_append, length_headerBits, Nat.le_add_right, Nat.le_refl]

theorem bitsNat_crc (r : BitVec 8) : bitsNat (natBits 8 r.toNat) = r.toNat := by
  rw [bitsNat_natBits, Nat.mod_eq_of_lt r.isLt]

/-- Settles O33: a bit of the body changes the CRC of the body, a bit of the CRC changes the number carried. -/
theorem singleBitErrorsFailTheCrc : Obligations.SingleBitErrorsFailTheCrc := by
  unfold Obligations.SingleBitErrorsFailTheCrc
  intro f i hi
  have hbody := header_le_frameBody f
  rw [encodeFrame] at hi ⊢
  by_cases hin : i < (frameBody f).length
  · rw [List.set_append_left _ _ hin, List.getD_append _ _ _ _ hin,
      decodeFrame_append _ _ (by rwa [List.length_set]) (length_natBits 8 _), if_neg]
    rw [bitsNat_crc, BitVec.toNat_inj]
    exact (crc_set_ne _ hin).symm
  · have hcrc : i - (frameBody f).length < (natBits 8 (crc (frameBody f)).toNat).length := by
      rw [List.length_append] at hi; omega
    rw [List.set_append_right _ _ (Nat.le_of_not_lt hin), List.getD_append_right _ _ _ _ (Nat.le_of_not_lt hin),
      decodeFrame_append _ _ hbody (by rw [List.length_set, length_natBits]), if_neg]
    intro hsame
    have hbits := bitsNat_inj (by rw [List.length_set]) (hsame.trans (bitsNat_crc _).symm)
    have hbit := congrArg (fun bits : List Bool => bits.getD (i - (frameBody f).length) false) hbits
    simp only [List.getD_eq_getElem?_getD, List.getElem?_set_self hcrc, Option.getD_some] at hbit
    exact Bool.not_ne_self _ hbit

/-! ### Reading a frame back -/

theorem readLegBlock_append (xs rest : List Bool) (off : Nat) (h : xs.length ≤ off) :
    readLegBlock (xs ++ rest) off = readLegBlock rest (off - xs.length) := by
  have hfield (k len : Nat) : field (xs ++ rest) (off + k) len = field rest (off - xs.length + k) len := by
    rw [field_append _ _ _ (by omega), Nat.sub_add_comm h]
  have hbit (k : Nat) : bitAt (xs ++ rest) (off + k) = bitAt rest (off - xs.length + k) := by
    rw [bitAt_append _ _ (by omega), Nat.sub_add_comm h]
  simp only [readLegBlock, hfield, hbit, field_append xs rest 4 h]

@[simp] theorem field_bits {n : Nat} (v : BitVec n) (rest : List Bool) : field (natBits n v.toNat ++ rest) 0 n = v.toNat := by
  rw [field_front, Nat.mod_eq_of_lt v.isLt]

@[simp] theorem field_lastBits {n : Nat} (v : BitVec n) : field (natBits n v.toNat) 0 n = v.toNat := by
  rw [field_whole, Nat.mod_eq_of_lt v.isLt]

/-- A leg block read where it stands is the block sent. -/
@[simp] theorem readLegBlock_front (b : LegBlock) (rest : List Bool) : readLegBlock (legBlockBits b ++ rest) 0 = b := by
  simp [readLegBlock, legBlockBits]

@[simp] theorem readLegBlock_skip (n v : Nat) (rest : List Bool) {off : Nat} (h : n ≤ off) :
    readLegBlock (natBits n v ++ rest) off = readLegBlock rest (off - n) := by
  rw [readLegBlock_append _ _ _ (by rwa [length_natBits]), length_natBits]

@[simp] theorem readLegBlock_skipBit (b : Bool) (rest : List Bool) {off : Nat} (h : 1 ≤ off) :
    readLegBlock (b :: rest) off = readLegBlock rest (off - 1) :=
  readLegBlock_append [b] rest off h

@[simp] theorem length_legBlockBits (b : LegBlock) : (legBlockBits b).length = 40 := by
  simp [legBlockBits]

@[simp] theorem readLegBlock_whole (b : LegBlock) : readLegBlock (legBlockBits b) 0 = b := by
  simpa using readLegBlock_front b []

/-- The second leg block of a BEACON follows the first. -/
@[simp] theorem readLegBlock_second (b b' : LegBlock) : readLegBlock (legBlockBits b ++ legBlockBits b') 40 = b' := by
  rw [readLegBlock_append _ _ _ (length_legBlockBits b).le, length_legBlockBits, readLegBlock_whole]

/-! The header's four fields, and the payload after its 13 bits. -/

@[simp] theorem field_payload (cls rank station leg : Nat) (rest : List Bool) {off : Nat} (len : Nat) (h : 13 ≤ off) :
    field (headerBits cls rank station leg ++ rest) off len = field rest (off - 13) len := by
  rw [field_append _ _ _ (by rwa [length_headerBits]), length_headerBits]

@[simp] theorem bitAt_payload (cls rank station leg : Nat) (rest : List Bool) {off : Nat} (h : 13 ≤ off) :
    bitAt (headerBits cls rank station leg ++ rest) off = bitAt rest (off - 13) := by
  rw [bitAt_append _ _ (by rwa [length_headerBits]), length_headerBits]

@[simp] theorem readLegBlock_payload (cls rank station leg : Nat) (rest : List Bool) {off : Nat} (h : 13 ≤ off) :
    readLegBlock (headerBits cls rank station leg ++ rest) off = readLegBlock rest (off - 13) := by
  rw [readLegBlock_append _ _ _ (by rwa [length_headerBits]), length_headerBits]

section
variable {cls rank : Nat} (station : BitVec 4) (leg : Nat) (l : LegId) (rest : List Bool)

@[simp] theorem field_class (h : cls < 2 ^ 3) : field (headerBits cls rank station.toNat leg ++ rest) 0 3 = cls := by
  rw [headerBits, List.append_assoc, field_front, Nat.mod_eq_of_lt h]

@[simp] theorem field_rank (h : rank < 2 ^ 5) : field (headerBits cls rank station.toNat leg ++ rest) 3 5 = rank := by
  rw [headerBits, List.append_assoc, List.append_assoc, field_skip _ _ _ _ (Nat.le_refl 3), field_front, Nat.mod_eq_of_lt h]

@[simp] theorem field_rankBits (rank : BitVec 5) :
    field (headerBits cls rank.toNat station.toNat leg ++ rest) 3 5 = rank.toNat :=
  field_rank station leg rest rank.isLt

@[simp] theorem ofNat_field_station : BitVec.ofNat 4 (field (headerBits cls rank station.toNat leg ++ rest) 8 4) = station := by
  simp only [headerBits, List.append_assoc]
  rw [field_skip _ _ _ _ (by decide), field_skip _ _ _ _ (by decide), field_bits, BitVec.ofNat_toNat, BitVec.setWidth_eq]

@[simp] theorem bitAt_leg : bitAt (headerBits cls rank station.toNat leg ++ rest) 12 = decide (leg % 2 = 1) := by
  simp only [headerBits, List.append_assoc]
  rw [bitAt_skip _ _ _ (by decide), bitAt_skip _ _ _ (by decide), bitAt_skip _ _ _ (by decide), ← Nat.testBit_zero]
  rfl

end

/-- The leg bit of a header names its leg. -/
@[simp] theorem legOfBit_legCode (l : LegId) : legOfBit (decide (legCode l % 2 = 1)) = l := by
  cases l <;> rfl

/-! Each kind of frame. -/

theorem readBody_cede (f : CedeFrame) : readBody (frameBody (.cede f)) = .ok (.cede f) := by
  have hbody : frameBody (.cede f) = headerBits 3 0 f.station.toNat (legCode f.leg) ++ [] := (List.append_nil _).symm
  simp [hbody, readBody, -List.append_nil]

theorem readBody_clearway (f : ClearwayFrame) : readBody (frameBody (.clearway f)) = .ok (.clearway f) := by
  simp [readBody, frameBody]

theorem readBody_clearEnd (f : ClearwayFrame) : readBody (frameBody (.clearEnd f)) = .ok (.clearEnd f) := by
  simp [readBody, frameBody]

/-- The class of a BID is 1 for an urgent one and 4 for a normal one. -/
theorem readBody_bid {f : BidFrame} (h : frameOk (.bid f) = true) : readBody (frameBody (.bid f)) = .ok (.bid f) := by
  obtain ⟨station, leg, urgent, rank, position, radius, startIn, endIn, aid, band⟩ := f
  cases urgent with
  | false => simp [readBody, frameBody, h]
  | true => simp [readBody, frameBody, h]

theorem readBody_keep {f : KeepFrame} (h : frameOk (.keep f) = true) : readBody (frameBody (.keep f)) = .ok (.keep f) := by
  simp [readBody, frameBody, h]

/-- A BEACON of a one-leg station ends with its first leg block. -/
theorem readBody_beacon {f : BeaconFrame} (h : frameOk (.beacon f) = true) : readBody (frameBody (.beacon f)) = .ok (.beacon f) := by
  obtain ⟨station, position, radius, block0, block1⟩ := f
  cases block1 with
  | none => simp [readBody, frameBody, h]
  | some b => simp [readBody, frameBody, h]

/-- A body is read back where its fields pass the check of R56 step 4. -/
theorem readBody_frameBody {f : Frame} (h : frameOk f = true) : readBody (frameBody f) = .ok f := by
  cases f with
  | beacon f => exact readBody_beacon h
  | bid f => exact readBody_bid h
  | keep f => exact readBody_keep h
  | cede f => exact readBody_cede f
  | clearway f => exact readBody_clearway f
  | clearEnd f => exact readBody_clearEnd f

/-- Settles O32: the CRC of the body matches the one carried, and the body is read back. -/
theorem framesRoundTrip : Obligations.FramesRoundTrip := by
  unfold Obligations.FramesRoundTrip
  intro f h
  rw [encodeFrame, decodeFrame_append _ _ (header_le_frameBody f) (length_natBits 8 _), if_pos (bitsNat_crc _),
    readBody_frameBody h]

end Sys2Proof.Machine
end

section
/-! What the clamps of R159 make of an image (O7). -/

namespace Sys2Proof.Machine

theorem le_clampTo (lo hi v : Nat) : lo ≤ clampTo lo hi v := Nat.le_max_left ..

theorem clampTo_le {lo hi : Nat} (v : Nat) (h : lo ≤ hi) : clampTo lo hi v ≤ hi :=
  Nat.max_le.mpr ⟨h, Nat.min_le_left ..⟩

theorem clampTo_mem {lo hi : Nat} (v : Nat) (h : lo ≤ hi) : lo ≤ clampTo lo hi v ∧ clampTo lo hi v ≤ hi :=
  ⟨le_clampTo lo hi v, clampTo_le v h⟩

/-- A leg's parameters, clamped to their ranges and then to each other, lie within both. -/
theorem clampedLeg_inRange (c : LegConfig) : LegConfig.inRange (clampLegRelation (clampLegRange c)) := by
  have hwalk := clampTo_mem (lo := 40) (hi := 300) c.walk (by decide)
  have hclear := clampTo_mem (lo := 30) (hi := 300) c.clear (by decide)
  exact ⟨clampTo_mem _ (by decide), clampTo_mem _ (by decide), clampTo_mem _ (by decide), hwalk, clampTo_le _ (by decide), hclear,
    clampTo_mem _ (by decide), clampTo_mem _ (by decide), ⟨Nat.le_min.mpr ⟨le_clampTo .., hwalk.1⟩, Nat.min_le_right ..⟩,
    ⟨Nat.le_min.mpr ⟨le_clampTo .., hclear.1⟩, Nat.min_le_right ..⟩, clampTo_le _ (by decide)⟩

/-- The station's parameters, clamped to their ranges and then to each other, lie within both; the station number is never clamped. -/
theorem clampedStation_inRange {c : StationConfig} (hstation : c.station ≤ 15) :
    StationConfig.inRange (clampRelation (clampRange c)) := by
  have hceiling : clampTo 0 11 c.ceiling ≤ 11 := clampTo_le _ (by decide)
  have hfloor : min (clampTo 0 11 c.floor) (clampTo 0 11 c.ceiling) ≤ 11 := (Nat.min_le_right ..).trans hceiling
  have hcap (v : Nat) : max (clampTo 0 11 v) (min (clampTo 0 11 c.floor) (clampTo 0 11 c.ceiling)) ≤ 11 :=
    Nat.max_le.mpr ⟨clampTo_le v (by decide), hfloor⟩
  have hstep : (if c.envStep < 8 then 5 else 10) = 5 ∨ (if c.envStep < 8 then 5 else 10) = 10 := by
    split
    · exact .inl rfl
    · exact .inr rfl
  have hleg1 (x : LegConfig) (hx : (c.leg1.map clampLegRange).map clampLegRelation = some x) : LegConfig.inRange x := by
    rw [Option.map_map, Option.map_eq_some_iff] at hx
    obtain ⟨y, -, rfl⟩ := hx
    exact clampedLeg_inRange y
  exact ⟨hstation, clampTo_le _ (by decide), clampTo_le _ (by decide), clampTo_le _ (by decide), clampTo_le _ (by decide),
    clampTo_le _ (by decide), clampTo_le _ (by decide), clampTo_mem _ (by decide), clampTo_mem _ (by decide), clampTo_le _ (by decide),
    Nat.min_le_right .., hceiling, ⟨Nat.le_max_right .., hcap _⟩, ⟨Nat.le_max_right .., hcap _⟩, clampTo_le _ (by decide),
    clampTo_le _ (by decide), hstep, clampTo_le _ (by decide), clampedLeg_inRange _, hleg1⟩

/-- An image that passes its checks names a station number of 4 bits. -/
theorem station_le_of_passing {img : List Byte} (h : imageFault img = .none) : imageByte img 1 ≤ 15 := by
  by_contra hstation
  have hgt : imageByte img 1 > 15 := Nat.lt_of_not_le hstation
  unfold imageFault at h
  rw [if_pos hgt] at h
  split at h
  · cases h
  split at h
  · cases h
  split at h <;> cases h

/-- Settles O7: the clamps bring every parameter within its range, and the station number is checked. -/
theorem loadedConfigurationInRange : Obligations.LoadedConfigurationInRange := by
  unfold Obligations.LoadedConfigurationInRange
  intro img h
  exact clampedStation_inRange (station_le_of_passing h)

end Sys2Proof.Machine
end

section
/-! The rules of the Slot Engine after placement: a cede, the same-station check, band separation, each by what it leaves of the two
legs' records, slots and requests. -/

namespace Sys2Proof.Machine

/-! ### A cede (R104) -/

/-- The leg's state after a cede: CALLED where it was CLAIMED. -/
def LegRec.ceded (r : LegRec) : LegRec := if r.state = .claimed then { r with state := .called } else r

/-- A leg whose slot is ceded. -/
def LegView.ceded (s : State) (v : LegView) : LegView :=
  { leg := v.leg.ceded, slot := v.slot.removeSlot, request := requested s .cede v.request }

theorem viewOf_cede (l : LegId) (s : State) :
    viewOf (cede l s) l = (viewOf s l).ceded s ∧ viewOf (cede l s) (otherLeg l) = viewOf s (otherLeg l) := by
  have hremoved : viewOf (removeSlot l s) l = { viewOf s l with slot := (s.slots.get l).removeSlot } := viewOf_updSlot l _ s
  have hother : viewOf (removeSlot l s) (otherLeg l) = viewOf s (otherLeg l) := viewOf_updSlot_other l _ s
  unfold cede LegView.ceded LegRec.ceded; extract_lets s1 s2
  have hstate : legState s1 l = (viewOf s l).leg.state := rfl
  rw [viewOf_enqueueLeg, viewOf_enqueueLeg_other, ← hstate]
  by_cases hclaimed : legState s1 l = .claimed
  · have hs2 : s2 = updLeg l (fun r => { r with state := .called }) s1 := if_pos hclaimed
    have hreq : requested (updLeg l (fun r => { r with state := .called }) s1) = requested s := rfl
    rw [hs2, viewOf_updLeg, viewOf_updLeg_other, if_pos hclaimed, hreq]
    exact ⟨by rw [hremoved]; rfl, hother⟩
  · have hs2 : s2 = s1 := if_neg hclaimed
    have hreq : requested s1 = requested s := rfl
    rw [hs2, if_neg hclaimed, hreq]
    exact ⟨by rw [hremoved]; rfl, hother⟩

/-! ### Keys (R76) -/

theorem keyLt_asymm {a b : Key} (h : keyLt a b = true) : keyLt b a = false := by
  unfold keyLt at *; split_ifs at h ⊢ <;> simp_all <;> omega

/-- Two keys of one station's two legs are never equal. -/
theorem keyLt_of_not_lt {a b : Key} (hleg : a.leg ≠ b.leg) (h : keyLt a b = false) : keyLt b a = true := by
  have hcode : legCode a.leg ≠ legCode b.leg := by cases ha : a.leg <;> cases hb : b.leg <;> simp_all [legCode]
  unfold keyLt at *; split_ifs at h ⊢ <;> simp_all <;> omega

/-! ### The same-station check (R112) -/

/-- What the check does with two aid slots that collide with guard. -/
def yieldBetween (l : LegId) (x y : Slot) (s : State) : State :=
  if x.stage = .claimed then
    if y.stage = .claimed then
      if keyLt (ownKey s (otherLeg l) y) (ownKey s l x) then cede l s else cede (otherLeg l) s
    else if x.urgent then s else cede l s
  else if y.stage = .claimed then
    if y.urgent then s else cede (otherLeg l) s
  else setFlag .doubleCommit s

theorem answerOf_claimed {own : Slot} (h : own.stage = .claimed) (k k' : Key) (claim : Bool) :
    answerOf own k claim k' = if claim then (if keyLt k' k then .cede else .keep) else if own.urgent then .keep else .cede := by
  unfold answerOf; rw [h]

theorem answerOf_past {own : Slot} (h : own.stage ≠ .claimed) (k k' : Key) (claim : Bool) :
    answerOf own k claim k' = if claim then .keep else .keepDouble := by
  unfold answerOf; split <;> simp_all

theorem sameStation_collides {l : LegId} {x y : Slot} {s : State} (hx : slotOf s l = some x) (hy : slotOf s (otherLeg l) = some y)
    (hxa : x.aid = true) (hya : y.aid = true) (hc : collideGuard (conf s).guard x y = true) : sameStation l s = yieldBetween l x y s := by
  have hkeys (h : keyLt (ownKey s (otherLeg l) y) (ownKey s l x) = false) : keyLt (ownKey s l x) (ownKey s (otherLeg l) y) = true :=
    keyLt_of_not_lt (show otherLeg l ≠ l by cases l <;> decide) h
  unfold sameStation yieldBetween
  dsimp only
  rw [hx, hy]
  dsimp only
  rw [hxa, hya, hc]
  by_cases hxs : x.stage = .claimed <;> by_cases hys : y.stage = .claimed
  · rw [answerOf_claimed hxs, answerOf_claimed hys]
    cases hlt : keyLt (ownKey s (otherLeg l) y) (ownKey s l x) with
    | true => simp [hxs, hys, keyLt_asymm hlt, setFlagIf]
    | false => simp [hxs, hys, hkeys hlt, setFlagIf]
  · rw [answerOf_claimed hxs, answerOf_past hys]
    cases hu : x.urgent <;> simp [hxs, hys, setFlagIf]
  · rw [answerOf_past hxs, answerOf_claimed hys]
    cases hu : y.urgent <;> simp [hxs, hys, setFlagIf]
  · rw [answerOf_past hxs, answerOf_past hys]
    simp [hxs, hys, setFlagIf]

/-- Without two aid slots that collide the check finds nothing. -/
theorem sameStation_apart {l : LegId} {s : State}
    (h : ∀ x y, slotOf s l = some x → slotOf s (otherLeg l) = some y → x.aid = true → y.aid = true →
      collideGuard (conf s).guard x y = false) : sameStation l s = s := by
  unfold sameStation
  dsimp only
  split
  · next x y hx hy =>
    refine if_neg fun hall => ?_
    obtain ⟨haids, hc⟩ := Bool.and_eq_true_iff.mp hall
    obtain ⟨hxa, hya⟩ := Bool.and_eq_true_iff.mp haids
    rw [h x y hx hy hxa hya] at hc
    cases hc
  · rfl

/-! ### Band separation (R109, R110) -/

/-- The slots that a band check of leg l compares its slot with, each with its key. -/
def rivals (s : State) (l : LegId) (caller : Option Carried) : List (Key × Slot) := foreignSlots s caller ++ (otherAid s l).toList

theorem mem_usedBands {s : State} {l : LegId} {own : Slot} {caller : Option Carried} {b : Nat} :
    b ∈ usedBands s l own caller ↔ ∃ p ∈ rivals s l caller, overlap own p.2 = true ∧ p.2.band = b := by
  have hslots : usedBands s l own caller = (((rivals s l caller).map Prod.snd).filter (overlap own)).map Slot.band := by
    rw [usedBands, rivals, List.map_append, Option.toList_map]
  rw [hslots, List.mem_map]
  constructor
  · rintro ⟨x, hx, hband⟩
    obtain ⟨hmem, hover⟩ := List.mem_filter.mp hx
    obtain ⟨p, hp, rfl⟩ := List.mem_map.mp hmem
    exact ⟨p, hp, hover, hband⟩
  · rintro ⟨p, hp, hover, hband⟩
    exact ⟨p.2, List.mem_filter.mpr ⟨List.mem_map_of_mem hp, hover⟩, hband⟩

theorem mustMove_iff {s : State} {l : LegId} {own : Slot} {caller : Option Carried} :
    mustMove s l own caller = true ↔ ∃ p ∈ rivals s l caller, callsFor own p.2 = true ∧ keyLt p.1 (ownKey s l own) = true := by
  rw [mustMove, List.any_eq_true]
  simp only [rivals, Bool.and_eq_true]

theorem otherMustMove_iff {s : State} {l : LegId} {own : Slot} :
    otherMustMove s l own = true ↔ ∃ p, otherAid s l = some p ∧ callsFor own p.2 = true ∧ keyLt (ownKey s l own) p.1 = true := by
  simp [otherMustMove, Option.any_eq_true]

theorem otherAid_eq_some {s : State} {l : LegId} {p : Key × Slot} :
    otherAid s l = some p ↔ ∃ y, slotOf s (otherLeg l) = some y ∧ y.aid = true ∧ p = (ownKey s (otherLeg l) y, y) := by
  rw [otherAid, Option.bind_eq_some_iff]
  refine exists_congr fun y => and_congr_right fun _ => ?_
  rw [Option.ite_none_right_eq_some, Option.some.injEq]
  exact and_congr_right fun _ => eq_comm

/-- A band that no overlapping slot has calls for no separation. -/
theorem callsFor_free {s : State} {l : LegId} {own : Slot} {caller : Option Carried} {b : Nat} (h : b ∉ usedBands s l own caller)
    {p : Key × Slot} (hp : p ∈ rivals s l caller) : callsFor { own with band := b } p.2 = false := by
  by_contra hcalls
  have hboth := Bool.and_eq_true_iff.mp (Bool.not_eq_false _ ▸ hcalls)
  exact h (mem_usedBands.mpr ⟨p, hp, hboth.1, (of_decide_eq_true hboth.2).symm⟩)

/-- Leg l's slot moved to band b: every told mark no, and a KEEP queued (R110). -/
def bandMoved (l : LegId) (b : Nat) (s : State) : State :=
  enqueueLeg l .keep (updSlot l SlotRec.untell (onSlot l (fun x => { x with band := b }) s))

theorem moveBand_eq {l : LegId} {own : Slot} {s : State} (h : slotOf s l = some own) (caller : Option Carried) :
    moveBand l caller s = (lowestBand (usedBands s l own caller)).map fun b => bandMoved l b s := by
  unfold moveBand
  rw [h]
  dsimp only
  cases lowestBand (usedBands s l own caller) <;> rfl

/-- A slot's record moved to band b. -/
def SlotRec.banded (b : Nat) (r : SlotRec) : SlotRec := SlotRec.untell { r with slot := r.slot.map fun x => { x with band := b } }

/-- A leg whose slot is moved to band b. -/
def LegView.banded (s : State) (b : Nat) (v : LegView) : LegView :=
  { v with slot := v.slot.banded b, request := requested s .keep v.request }

theorem bandMoved_changes (l : LegId) (b : Nat) (s : State) : ChangesOnly [.slots, .line] s (bandMoved l b s) :=
  (((onSlot_touches l _).mono (by decide) s).trans ((updSlot_touches l _).mono (by decide) _)).trans
    ((enqueueLeg_touches l .keep).mono (by decide) _)

theorem viewOf_bandMoved (l : LegId) (b : Nat) (s : State) :
    viewOf (bandMoved l b s) l = (viewOf s l).banded s b ∧ viewOf (bandMoved l b s) (otherLeg l) = viewOf s (otherLeg l) := by
  unfold bandMoved onSlot
  have hreq : requested (updSlot l SlotRec.untell (updSlot l (fun r => { r with slot := r.slot.map fun x => { x with band := b } }) s)) =
      requested s := rfl
  rw [viewOf_enqueueLeg, viewOf_enqueueLeg_other, hreq, viewOf_updSlot, viewOf_updSlot_other, viewOf_updSlot, viewOf_updSlot_other]
  refine ⟨?_, rfl⟩
  simp [LegView.banded, SlotRec.banded, viewOf]

theorem foreignSlots_congr {s t : State} (htable : t.table = s.table) (hcfg : t.cfg = s.cfg) (caller : Option Carried) :
    foreignSlots t caller = foreignSlots s caller := by
  have hconf : conf t = conf s := by unfold conf; rw [hcfg]
  have hacoustic : acoustic t = acoustic s := by funext p r; rw [acoustic, acoustic, distanceTo, distanceTo, hconf]
  rw [foreignSlots, foreignSlots, neighbourSlots, neighbourSlots, htable, hacoustic]

theorem ownKey_congr {s t : State} (hcfg : t.cfg = s.cfg) : ownKey t = ownKey s := by
  have hconf : conf t = conf s := by unfold conf; rw [hcfg]
  funext m x; rw [ownKey, ownKey, hconf]

/-- The slots a band check reads are those of the table and of the other leg. -/
theorem rivals_congr {s t : State} {l : LegId} (htable : t.table = s.table) (hcfg : t.cfg = s.cfg)
    (hother : slotOf t (otherLeg l) = slotOf s (otherLeg l)) (caller : Option Carried) : rivals t l caller = rivals s l caller := by
  rw [rivals, rivals, foreignSlots_congr htable hcfg, otherAid, otherAid, hother, ownKey_congr hcfg]

theorem bandMoved_table (l : LegId) (b : Nat) (s : State) : (bandMoved l b s).table = s.table :=
  (bandMoved_changes l b s).of_apart (qs := [.table, .cfg]) rfl .table (by decide)

theorem bandMoved_cfg (l : LegId) (b : Nat) (s : State) : (bandMoved l b s).cfg = s.cfg :=
  (bandMoved_changes l b s).of_apart (qs := [.table, .cfg]) rfl .cfg (by decide)

theorem slotOf_bandMoved {l : LegId} {own : Slot} {s : State} (h : slotOf s l = some own) (b : Nat) :
    slotOf (bandMoved l b s) l = some { own with band := b } ∧ slotOf (bandMoved l b s) (otherLeg l) = slotOf s (otherLeg l) := by
  obtain ⟨hself, hother⟩ := viewOf_bandMoved l b s
  refine ⟨?_, congrArg (fun v : LegView => v.slot.slot) hother⟩
  refine (congrArg (fun v : LegView => v.slot.slot) hself).trans ?_
  show (s.slots.get l).slot.map _ = _
  rw [show (s.slots.get l).slot = some own from h]; rfl

theorem rivals_bandMoved {l : LegId} {own : Slot} {s : State} (h : slotOf s l = some own) (b : Nat) (caller : Option Carried) :
    rivals (bandMoved l b s) l caller = rivals s l caller :=
  rivals_congr (bandMoved_table l b s) (bandMoved_cfg l b s) (slotOf_bandMoved h b).2 caller

/-- Where no slot calls for separation the check changes nothing. -/
theorem checkOwnChange_calm {s : State} {l : LegId} {own : Slot} (h : slotOf s l = some own) (caller : Option Carried)
    (hcalm : ∀ p ∈ rivals s l caller, callsFor own p.2 = false) (n : Nat) : checkOwnChange n l caller s = s := by
  cases n with
  | zero => rfl
  | succ n =>
    have hmust : mustMove s l own caller = false := by
      rw [← Bool.not_eq_true, mustMove_iff]
      rintro ⟨p, hp, hcalls, -⟩
      rw [hcalm p hp] at hcalls; cases hcalls
    have hother : otherMustMove s l own = false := by
      rw [← Bool.not_eq_true, otherMustMove_iff]
      rintro ⟨p, hp, hcalls, -⟩
      rw [hcalm p (List.mem_append_right _ (Option.mem_toList.mpr hp))] at hcalls; cases hcalls
    unfold checkOwnChange moveChanged moveOther
    rw [h]
    dsimp only
    rw [hmust, hother]
    simp

theorem checkOwnChange_none {s : State} {l : LegId} (h : slotOf s l = none) (caller : Option Carried) (n : Nat) :
    checkOwnChange n l caller s = s := by
  cases n with
  | zero => rfl
  | succ n => unfold checkOwnChange; rw [h]

/-- A moved slot needs no further check. -/
theorem checkOwnChange_bandMoved {s : State} {l : LegId} {own : Slot} (h : slotOf s l = some own) {caller : Option Carried} {b : Nat}
    (hfree : b ∉ usedBands s l own caller) (n : Nat) : checkOwnChange n l caller (bandMoved l b s) = bandMoved l b s :=
  checkOwnChange_calm (slotOf_bandMoved h b).1 caller (fun p hp => callsFor_free hfree (by rwa [rivals_bandMoved h] at hp)) n

/-- The ends of a band check for leg l's slot: nothing moves; the slot moves; or the other leg's slot moves. -/
inductive BandCheck (l : LegId) (own : Slot) (caller : Option Carried) (s : State) : State → Prop
  | stays (hown : mustMove s l own caller = true → ∀ b < 6, b ∈ usedBands s l own caller)
      (hother : ∀ y, slotOf s (otherLeg l) = some y → otherMustMove s l own = true → ∀ b < 6, b ∈ usedBands s (otherLeg l) y caller) :
      BandCheck l own caller s s
  | moves {b : Nat} (hmust : mustMove s l own caller = true) (hfree : lowestBand (usedBands s l own caller) = some b) :
      BandCheck l own caller s (bandMoved l b s)
  | otherMoves {y : Slot} {b : Nat} (hown : mustMove s l own caller = true → ∀ b < 6, b ∈ usedBands s l own caller)
      (hy : slotOf s (otherLeg l) = some y) (hmust : otherMustMove s l own = true)
      (hfree : lowestBand (usedBands s (otherLeg l) y caller) = some b) :
      BandCheck l own caller s (bandMoved (otherLeg l) b s)

theorem moveChanged_cases {l : LegId} {own : Slot} {s : State} (h : slotOf s l = some own) (caller : Option Carried) :
    (∃ b, mustMove s l own caller = true ∧ lowestBand (usedBands s l own caller) = some b ∧
      moveChanged l own caller s = some (bandMoved l b s)) ∨
    ((mustMove s l own caller = true → ∀ b < 6, b ∈ usedBands s l own caller) ∧ moveChanged l own caller s = none) := by
  unfold moveChanged
  rw [moveBand_eq h]
  cases hmust : mustMove s l own caller with
  | false => exact .inr ⟨nofun, if_neg nofun⟩
  | true =>
    cases hlow : lowestBand (usedBands s l own caller) with
    | none => exact .inr ⟨fun _ => lowestBand_eq_none.mp hlow, by simp⟩
    | some b => exact .inl ⟨b, rfl, rfl, by simp⟩

theorem moveOther_cases {l : LegId} {own : Slot} {s : State} (caller : Option Carried) :
    (∃ y b, slotOf s (otherLeg l) = some y ∧ otherMustMove s l own = true ∧
      lowestBand (usedBands s (otherLeg l) y caller) = some b ∧ moveOther l own caller s = some (bandMoved (otherLeg l) b s)) ∨
    ((∀ y, slotOf s (otherLeg l) = some y → otherMustMove s l own = true → ∀ b < 6, b ∈ usedBands s (otherLeg l) y caller) ∧
      moveOther l own caller s = none) := by
  unfold moveOther
  cases hmust : otherMustMove s l own with
  | false => exact .inr ⟨nofun, if_neg nofun⟩
  | true =>
    obtain ⟨p, hp, -⟩ := otherMustMove_iff.mp hmust
    obtain ⟨y, hy, -⟩ := otherAid_eq_some.mp hp
    rw [moveBand_eq hy]
    cases hlow : lowestBand (usedBands s (otherLeg l) y caller) with
    | none =>
      refine .inr ⟨fun y' hy' _ => ?_, by simp⟩
      cases hy.symm.trans hy'
      exact lowestBand_eq_none.mp hlow
    | some b => exact .inl ⟨y, b, hy, rfl, hlow, by simp⟩

/-- Two rounds are enough: the check ends with at most one slot moved. -/
theorem checkOwnChange_ends {s : State} {l : LegId} {own : Slot} (h : slotOf s l = some own) (ha : own.aid = true)
    (caller : Option Carried) : BandCheck l own caller s (checkOwnChange bandRounds l caller s) := by
  unfold bandRounds checkOwnChange
  rw [h]
  dsimp only
  rw [if_pos ha]
  obtain ⟨b, hmust, hlow, hmoved⟩ | ⟨hstays, hmoved⟩ := moveChanged_cases h caller
  · rw [hmoved]
    dsimp only
    rw [checkOwnChange_bandMoved h (lowestBand_eq_some.mp hlow).2.1]
    exact .moves hmust hlow
  · rw [hmoved]
    dsimp only
    obtain ⟨y, b, hy, hmust, hlow, hother⟩ | ⟨hrest, hother⟩ := moveOther_cases (l := l) (own := own) (s := s) caller
    · rw [hother]
      dsimp only
      rw [checkOwnChange_bandMoved hy (lowestBand_eq_some.mp hlow).2.1]
      exact .otherMoves hstays hy hmust hlow
    · rw [hother]
      exact .stays hstays hrest

end Sys2Proof.Machine
end

section
/-! Conflicts with an own slot and the band check for an own slot change (O29). -/

namespace Sys2Proof.Machine

/-! ### What a band check leaves -/

theorem eq_or_eq_otherLeg (l m : LegId) : m = l ∨ m = otherLeg l := by cases l <;> cases m <;> simp [otherLeg]

theorem callsFor_comm (x y : Slot) : callsFor x y = callsFor y x := by
  unfold callsFor overlap
  rw [Bool.and_comm (decide (x.startIn < y.endIn)), show decide (x.band = y.band) = decide (y.band = x.band) from decide_eq_decide.mpr eq_comm]

theorem callsFor_iff {x y : Slot} : callsFor x y = true ↔ overlap x y = true ∧ x.band = y.band := by
  rw [callsFor, Bool.and_eq_true, decide_eq_true_iff]

/-- The slots a band check outside a frame's event compares with: acoustic neighbours' aid slots, and the other leg's. -/
theorem mem_rivals_none {s : State} {l : LegId} {key : Key} {x : Slot} :
    (key, x) ∈ rivals s l none ↔
      (∃ n ∈ s.table, acoustic s n.position n.radius = true ∧ n.slot = some x ∧ x.aid = true ∧ key = foreignKey n.station n.leg x) ∨
      (slotOf s (otherLeg l) = some x ∧ x.aid = true ∧ key = ownKey s (otherLeg l) x) := by
  rw [rivals, List.mem_append, Option.mem_toList, otherAid_eq_some]
  refine or_congr ?_ ?_
  · simp only [foreignSlots, neighbourSlots, Option.map_none, Option.toList_none, List.nil_append, List.mem_filterMap, reduceCtorEq, decide_false,
      Bool.not_false, Bool.and_true, Option.ite_none_right_eq_some, Option.bind_eq_some_iff, Option.some.injEq, Prod.mk.injEq]
    refine exists_congr fun n => and_congr_right fun _ => and_congr_right fun _ => ?_
    constructor
    · rintro ⟨y, hy, ha, hkey, rfl⟩; exact ⟨hy, ha, hkey.symm⟩
    · rintro ⟨hx, ha, hkey⟩; exact ⟨x, hx, ha, hkey.symm, rfl⟩
  · constructor
    · rintro ⟨y, hy, ha, heq⟩
      cases heq; exact ⟨hy, ha, rfl⟩
    · rintro ⟨hx, ha, rfl⟩
      exact ⟨x, hx, ha, rfl⟩

/-- After a band check a leg's record, slot and request are as they were, or the slot alone has moved. -/
theorem BandCheck.views {l : LegId} {own : Slot} {caller : Option Carried} {s t : State} (h : BandCheck l own caller s t) (m : LegId) :
    viewOf t m = viewOf s m ∨ ∃ b, viewOf t m = (viewOf s m).banded s b := by
  cases h with
  | stays _ _ => exact .inl rfl
  | @moves b _ _ =>
    obtain ⟨hself, hother⟩ := viewOf_bandMoved l b s
    obtain rfl | rfl := eq_or_eq_otherLeg l m
    · exact .inr ⟨b, hself⟩
    · exact .inl hother
  | @otherMoves y b _ _ _ _ =>
    obtain ⟨hself, hother⟩ := viewOf_bandMoved (otherLeg l) b s
    rw [otherLeg_otherLeg] at hother
    obtain rfl | rfl := eq_or_eq_otherLeg l m
    · exact .inl hother
    · exact .inr ⟨b, hself⟩

/-- The other leg's slot, moved, is apart from the slot it moved for. -/
theorem otherMoved_apart {l : LegId} {own y : Slot} {s : State} {b : Nat} {caller : Option Carried} (hown : slotOf s l = some own)
    (ha : own.aid = true) (hfree : lowestBand (usedBands s (otherLeg l) y caller) = some b) : callsFor own { y with band := b } = false := by
  have hrival : (ownKey s l own, own) ∈ rivals s (otherLeg l) caller := by
    refine List.mem_append_right _ (Option.mem_toList.mpr (otherAid_eq_some.mpr ⟨own, ?_, ha, ?_⟩))
    · rwa [otherLeg_otherLeg]
    · rw [otherLeg_otherLeg]
  rw [callsFor_comm]
  exact callsFor_free (lowestBand_eq_some.mp hfree).2.1 hrival

/-- After a band check a slot that still overlaps one of the same band, and has the greater key, has all six bands used. -/
theorem BandCheck.own_settled {l : LegId} {own : Slot} {s t : State} (h : BandCheck l own none s t) (hown : slotOf s l = some own)
    (ha : own.aid = true) {x : Slot} (hx : slotOf t l = some x) {p : Key × Slot} (hp : p ∈ rivals t l none)
    (hcalls : callsFor x p.2 = true) (hlt : keyLt p.1 (ownKey t l x) = true) : ∀ b < 6, b ∈ usedBands t l x none := by
  cases h with
  | stays hrest _ =>
    cases hown.symm.trans hx
    exact hrest (mustMove_iff.mpr ⟨p, hp, hcalls, hlt⟩)
  | moves _ hfree =>
    cases (slotOf_bandMoved hown _).1.symm.trans hx
    rw [rivals_bandMoved hown] at hp
    rw [callsFor_free (lowestBand_eq_some.mp hfree).2.1 hp] at hcalls
    cases hcalls
  | @otherMoves y b hrest hy hmust hfree =>
    have hslotl : slotOf (bandMoved (otherLeg l) b s) l = slotOf s l := by
      have := (slotOf_bandMoved hy b).2; rwa [otherLeg_otherLeg] at this
    cases (hslotl.trans hown).symm.trans hx
    have hforeign := foreignSlots_congr (bandMoved_table (otherLeg l) b s) (bandMoved_cfg (otherLeg l) b s) none
    rw [ownKey_congr (bandMoved_cfg (otherLeg l) b s)] at hlt
    rw [rivals, List.mem_append, hforeign] at hp
    obtain ⟨q, hq, hqcalls, -⟩ := otherMustMove_iff.mp hmust
    obtain ⟨y', hy', -, rfl⟩ := otherAid_eq_some.mp hq
    cases hy.symm.trans hy'
    obtain hp | hp := hp
    · intro c hc
      have hall := hrest (mustMove_iff.mpr ⟨p, List.mem_append_left _ hp, hcalls, hlt⟩) c hc
      obtain ⟨r, hr, hover, hband⟩ := mem_usedBands.mp hall
      obtain hr | hr := List.mem_append.mp hr
      · exact mem_usedBands.mpr ⟨r, List.mem_append_left _ (by rwa [hforeign]), hover, hband⟩
      · cases Option.mem_toList.mp hr |>.symm.trans hq
        have hsame : p.2.band = c := by rw [← (callsFor_iff.mp hcalls).2, (callsFor_iff.mp hqcalls).2, hband]
        exact mem_usedBands.mpr ⟨p, List.mem_append_left _ (by rwa [hforeign]), (callsFor_iff.mp hcalls).1, hsame⟩
    · obtain ⟨z, hz, -, rfl⟩ := otherAid_eq_some.mp (Option.mem_toList.mp hp)
      cases (slotOf_bandMoved hy b).1.symm.trans hz
      rw [otherMoved_apart hown ha hfree] at hcalls
      cases hcalls

/-- After a band check the other leg's slot, where it still overlaps in the same band and has the greater key, has all six bands used. -/
theorem BandCheck.other_settled {l : LegId} {own : Slot} {s t : State} (h : BandCheck l own none s t) (hown : slotOf s l = some own)
    (ha : own.aid = true) {x y : Slot} (hx : slotOf t l = some x) (hy : slotOf t (otherLeg l) = some y) (hya : y.aid = true)
    (hcalls : callsFor x y = true) (hlt : keyLt (ownKey t l x) (ownKey t (otherLeg l) y) = true) :
    ∀ b < 6, b ∈ usedBands t (otherLeg l) y none := by
  cases h with
  | stays _ hrest =>
    cases hown.symm.trans hx
    exact hrest y hy (otherMustMove_iff.mpr ⟨_, otherAid_eq_some.mpr ⟨y, hy, hya, rfl⟩, hcalls, hlt⟩)
  | @moves b _ hfree =>
    obtain ⟨hself, hother⟩ := slotOf_bandMoved hown b
    cases hself.symm.trans hx
    have hrival : (ownKey s (otherLeg l) y, y) ∈ rivals s l none :=
      List.mem_append_right _ (Option.mem_toList.mpr (otherAid_eq_some.mpr ⟨y, hother.symm.trans hy, hya, rfl⟩))
    rw [callsFor_free (lowestBand_eq_some.mp hfree).2.1 hrival] at hcalls
    cases hcalls
  | @otherMoves z b _ hz _ hfree =>
    obtain ⟨hself, hother⟩ := slotOf_bandMoved hz b
    rw [otherLeg_otherLeg] at hother
    cases hself.symm.trans hy
    cases (hother.trans hown).symm.trans hx
    rw [otherMoved_apart hown ha hfree] at hcalls
    cases hcalls

theorem BandCheck.changes {l : LegId} {own : Slot} {caller : Option Carried} {s t : State} (h : BandCheck l own caller s t) :
    ChangesOnly [.slots, .line] s t := by
  cases h with
  | stays _ _ => exact .refl _ _
  | moves _ _ => exact bandMoved_changes _ _ _
  | otherMoves _ _ _ _ => exact bandMoved_changes _ _ _

/-- A band check changes bands alone, and queues a KEEP for a slot it moves. -/
theorem BandCheck.slots {l : LegId} {own : Slot} {caller : Option Carried} {s t : State} (h : BandCheck l own caller s t) (m : LegId) :
    slotOf t m = (slotOf s m).map (fun x => { x with band := ((slotOf t m).map Slot.band).getD 0 }) ∧
      (slotOf t m ≠ slotOf s m → acceptsLeg s .keep = true →
        t.line.queue.legs.get m = some { kind := .keep, stamp := s.clock, sending := false }) := by
  obtain hview | ⟨b, hview⟩ := h.views m
  · have hslot : slotOf t m = slotOf s m := congrArg (fun v : LegView => v.slot.slot) hview
    refine ⟨?_, fun hne => absurd hslot hne⟩
    rw [hslot]
    cases slotOf s m <;> rfl
  · have hslot : slotOf t m = (slotOf s m).map (fun x => { x with band := b }) := congrArg (fun v : LegView => v.slot.slot) hview
    refine ⟨?_, fun _ hacc => (congrArg LegView.request hview).trans (if_pos hacc)⟩
    rw [hslot]
    cases slotOf s m <;> rfl

/-- A slot stands through a band check, its band apart, and its leg goes on. -/
theorem BandCheck.keeps {l m : LegId} {own u : Slot} {caller : Option Carried} {s t : State} (h : BandCheck l own caller s t)
    (hu : slotOf s m = some u) : (∃ band, slotOf t m = some { u with band := band }) ∧ legState t m = legState s m := by
  refine ⟨?_, congrArg LegRec.state (congrArg (fun p => p.get m) (h.changes .legs (by decide)))⟩
  have hslot := (h.slots m).1
  rw [hu] at hslot
  exact ⟨_, hslot⟩

/-! ### One leg's answer to a frame (R102, R103, R106, R109) -/

theorem findChallenger_eq (cs : List Challenger) (st : Nat) (l : LegId) :
    findChallenger cs st l = cs.find? fun q => decide (q.station = st ∧ q.leg = l) := by
  simp only [findChallenger, Bool.decide_and]

theorem challenge_eq (cs : List Challenger) (st : Nat) (l : LegId) :
    challenge st l cs = if (cs.find? fun q => decide (q.station = st ∧ q.leg = l)).isSome
      then cs.map fun q => if q.station = st ∧ q.leg = l then { q with told := false } else q
      else cs ++ [{ station := st, leg := l, told := false }] := by
  rw [challenge, findChallenger_eq]
  cases cs.find? fun q => decide (q.station = st ∧ q.leg = l) <;> rfl

/-- The sender of a KEEP has been told (R103). -/
def alreadyTold (r : SlotRec) (c : Carried) : Bool := !c.isBid && (findChallenger r.challengers c.station c.leg).any Challenger.told

def SlotRec.challengedBy (c : Carried) (r : SlotRec) : SlotRec := { r with challengers := challenge c.station c.leg r.challengers }

/-- A leg whose slot stands against a frame (R103). -/
def LegView.answered (s : State) (c : Carried) (v : LegView) : LegView :=
  if alreadyTold v.slot c then v else { v with slot := v.slot.challengedBy c, request := requested s .keep v.request }

theorem viewOf_answerKeep (l : LegId) (c : Carried) (s : State) :
    viewOf (answerKeep l c s) l = (viewOf s l).answered s c ∧ viewOf (answerKeep l c s) (otherLeg l) = viewOf s (otherLeg l) := by
  have heq : answerKeep l c s = if alreadyTold (s.slots.get l) c then s
      else enqueueLeg l .keep (updSlot l (SlotRec.challengedBy c) s) := rfl
  unfold LegView.answered
  rw [heq]
  by_cases htold : alreadyTold (s.slots.get l) c = true
  · rw [if_pos htold, if_pos (show alreadyTold (viewOf s l).slot c = true from htold)]
    exact ⟨rfl, rfl⟩
  · rw [if_neg htold, if_neg (show ¬alreadyTold (viewOf s l).slot c = true from htold), viewOf_enqueueLeg, viewOf_enqueueLeg_other,
      viewOf_updSlot, viewOf_updSlot_other]
    exact ⟨rfl, rfl⟩

theorem react_none {s : State} {l : LegId} (h : slotOf s l = none) (c : Carried) : react l c s = s := by
  unfold react; rw [h]

/-- The answer to a frame in conflict with the slot of a leg (R102). -/
def answerTo (s : State) (l : LegId) (own : Slot) (c : Carried) : Answer :=
  answerOf own (ownKey s l own) (isClaim c) (foreignKey c.station c.leg c.slot)

section
variable {s : State} {l : LegId} {own : Slot} {c : Carried} (h : slotOf s l = some own) (hc : inConflict s l c = true)
include h hc

theorem react_cede (ha : answerTo s l own c = .cede) : react l c s = cede l s := by
  rw [answerTo] at ha
  unfold react
  rw [h]
  dsimp only
  rw [if_pos hc, ha]

theorem react_keep (ha : answerTo s l own c = .keep) : react l c s = answerKeep l c s := by
  rw [answerTo] at ha
  unfold react
  rw [h]
  dsimp only
  rw [if_pos hc, ha]

theorem react_double (ha : answerTo s l own c = .keepDouble) : react l c s = setFlag .doubleCommit (answerKeep l c s) := by
  rw [answerTo] at ha
  unfold react
  rw [h]
  dsimp only
  rw [if_pos hc, ha]

end

/-- A frame's slot calls for the own slot's move (R109). -/
def frameCalls (s : State) (l : LegId) (own : Slot) (c : Carried) : Bool :=
  (s.slots.get l).bid.isNone && own.aid && c.slot.aid && acoustic s c.position c.radius && callsFor own c.slot &&
    keyLt (foreignKey c.station c.leg c.slot) (ownKey s l own)

theorem checkFrame_none {s : State} {l : LegId} (h : slotOf s l = none) (c : Carried) : checkFrame l c s = s := by
  unfold checkFrame; rw [h]

theorem checkFrame_quiet {s : State} {l : LegId} {own : Slot} {c : Carried} (h : slotOf s l = some own)
    (hcalls : frameCalls s l own c = false) : checkFrame l c s = s := by
  unfold checkFrame
  rw [h]
  exact if_neg (Bool.not_eq_true _ ▸ hcalls)

theorem checkFrame_full {s : State} {l : LegId} {own : Slot} {c : Carried} (h : slotOf s l = some own)
    (hfull : ∀ b < 6, b ∈ usedBands s l own (some c)) : checkFrame l c s = s := by
  unfold checkFrame
  rw [h]
  dsimp only
  rw [moveBand_eq h, lowestBand_eq_none.mpr hfull]
  split <;> rfl

theorem checkFrame_moves {s : State} {l : LegId} {own : Slot} {c : Carried} {b : Nat} (h : slotOf s l = some own)
    (hcalls : frameCalls s l own c = true) (hfree : lowestBand (usedBands s l own (some c)) = some b) :
    checkFrame l c s = bandMoved l b s := by
  have hmoved : moveBand l (some c) s = some (bandMoved l b s) := by rw [moveBand_eq h, hfree]; rfl
  unfold checkFrame
  rw [h]
  dsimp only
  rw [hmoved]
  exact (if_pos hcalls).trans (checkOwnChange_bandMoved h (lowestBand_eq_some.mp hfree).2.1 _)

/-- The other leg's record, slot and request are no part of a leg's answer. -/
theorem viewOf_react_other (l : LegId) (c : Carried) (s : State) : viewOf (react l c s) (otherLeg l) = viewOf s (otherLeg l) := by
  unfold react
  split
  · rfl
  · split
    · split
      · exact (viewOf_cede l s).2
      · exact (viewOf_answerKeep l c s).2
      · exact (viewOf_congr (setFlag_touches .doubleCommit (answerKeep l c s)) rfl _).trans (viewOf_answerKeep l c s).2
    · rfl

theorem slotOf_checkFrame_other {s : State} {l : LegId} (h : slotOf s (otherLeg l) = none) (c : Carried) :
    slotOf (checkFrame l c s) (otherLeg l) = none := by
  unfold checkFrame
  split
  · exact h
  · next own hown =>
    split
    · rw [moveBand_eq hown]
      cases hlow : lowestBand (usedBands s l own (some c)) with
      | none => exact h
      | some b =>
        show slotOf (checkOwnChange bandRounds l (some c) (bandMoved l b s)) (otherLeg l) = none
        rw [checkOwnChange_bandMoved hown (lowestBand_eq_some.mp hlow).2.1, (slotOf_bandMoved hown b).2, h]
    · exact h

/-- Where one leg alone has a slot, and no bid is pending, that leg alone takes a BID or KEEP. -/
theorem slotsTake_one {s : State} {l : LegId} (hother : slotOf s (otherLeg l) = none) (hbid : ∀ m, (s.slots.get m).bid = none) (c : Carried) :
    slotsTake c s = checkFrame l c (react l c s) := by
  have htake (m : LegId) (t : State) (hb : (t.slots.get m).bid = none) : takeConflict m c t = react m c t := by
    unfold takeConflict; rw [hb]; rfl
  have hview := viewOf_react_other l c s
  have hrest : slotOf (react l c s) (otherLeg l) = none := (congrArg (fun v : LegView => v.slot.slot) hview).trans hother
  have hrestBid : ((react l c s).slots.get (otherLeg l)).bid = none := (congrArg (fun v : LegView => v.slot.bid) hview).trans (hbid _)
  unfold slotsTake
  cases l with
  | leg0 =>
    dsimp only
    rw [htake .leg0 s (hbid _), htake .leg1 _ hrestBid, react_none (l := .leg1) hrest,
      checkFrame_none (l := .leg1) (slotOf_checkFrame_other (l := .leg0) hrest c)]
  | leg1 =>
    dsimp only
    rw [htake .leg0 s (hbid _), react_none (l := .leg0) hother, htake .leg1 s (hbid _), checkFrame_none (l := .leg0) hrest]

/-! ### The Crossing Table sets TABLE_FULL alone (R64) -/

theorem flagNumber_inj {f g : Flag} (h : flagNumber f = flagNumber g) : f = g := by
  cases f <;> cases g <;> first | rfl | cases h

theorem flagSet_setFlag_ne {f g : Flag} (h : f ≠ g) (s : State) : flagSet (setFlag f s) g = flagSet s g := by
  have hbit : (flagBit f).getLsbD (flagNumber g) = false := by
    rw [flagBit, BitVec.getLsbD_ofNat, Nat.testBit_two_pow, decide_eq_false (fun hn => h (flagNumber_inj hn)), Bool.and_false]
  rw [flagSet, setFlag, updPort_port, BitVec.getLsbD_or, hbit, Bool.or_false, flagSet]

/-- The port is as it was, or has TABLE_FULL set besides. -/
def PortFilled (s t : State) : Prop := t.port = s.port ∨ t.port = (setFlag .tableFull s).port

theorem PortFilled.flag {s t : State} (h : PortFilled s t) {f : Flag} (hf : Flag.tableFull ≠ f) : flagSet t f = flagSet s f := by
  obtain h | h := h
  · rw [flagSet, h, flagSet]
  · rw [flagSet, h]; exact flagSet_setFlag_ne hf s

theorem makeRecord_port (c : Crossing) (s : State) : PortFilled s (makeRecord c s) := by
  unfold makeRecord
  dsimp only
  split
  · exact .inl rfl
  · split
    · exact .inr rfl
    · split
      · exact .inr rfl
      · exact .inr rfl

theorem setCrossing_port (st : Nat) (l : LegId) (position radius : Nat) (phase : Option LegState → LegState) (slot : Option Slot)
    (s : State) : PortFilled s (setCrossing st l position radius phase slot s) := by
  unfold setCrossing
  split
  · exact .inl rfl
  · exact makeRecord_port _ s

theorem takePlaced_port {f : State → State} (hf : ∀ s, PortFilled s (f s)) (st position radius : Nat) (s : State) :
    PortFilled s (takePlaced st position radius f s) := by
  unfold takePlaced placeSender
  by_cases hr : relevant s position radius = true
  · rw [if_pos hr]
    exact hf { s with table := _ }
  · rw [if_neg hr]
    exact .inl rfl

/-! ### Frames in conflict (R101 to R104, R106) -/

/-- A BID or KEEP of another station as the Slot Engine takes it. -/
structure ConflictTaken (c : Carried) (s t : State) : Prop where
  view : ∀ l, viewOf t l = viewOf (slotsTake c (frameEnded s)) l
  double : flagSet t .doubleCommit = flagSet (slotsTake c (frameEnded s)) .doubleCommit

theorem conflictTaken {f : Frame} {c : Carried} {s : State} (hl : listening s) (hok : frameOk f = true)
    (hother : frameStation f ≠ (conf s).station) (htake : blocksTake f (frameEnded s) = slotsTake c (frameEnded s))
    (hport : ∀ u, PortFilled u (tableTakes f u)) : ConflictTaken c s (settle (takeFrame f (later s))) := by
  rw [takeFrame_dispatched hl hok hother, htake]
  refine ⟨fun l => ?_, ?_⟩
  · rw [viewOf_settle, viewOf_congr (tableTakes_touches f _) rfl]
  · rw [flagSet_settle, (hport _).flag (by decide)]

theorem bidTaken {f : BidFrame} {s : State} (hl : listening s) (hok : slotCodesOk f.startIn f.endIn f.band = true)
    (hother : f.station.toNat ≠ (conf s).station) : ∃ t, exec (.bidReceived f) s = .next t ∧ ConflictTaken (carriedBid f) s t :=
  ⟨_, exec_event (c := .bidReceived f) hl.1 rfl rfl rfl, conflictTaken (f := .bid f) hl hok hother rfl
    fun u => takePlaced_port (fun v => setCrossing_port _ _ _ _ _ _ v) _ _ _ u⟩

theorem keepTaken {f : KeepFrame} {s : State} (hl : listening s) (hok : slotCodesOk f.startIn f.endIn f.band = true)
    (hstage : f.stage ≠ 0#2) (hother : f.station.toNat ≠ (conf s).station) :
    ∃ t, exec (.keepReceived f) s = .next t ∧ ConflictTaken (carriedKeep f) s t := by
  have hfields : frameOk (.keep f) = true := by
    rw [frameOk, hok, Bool.true_and, decide_eq_true_iff]
    exact fun h0 => hstage (BitVec.eq_of_toNat_eq h0)
  exact ⟨_, exec_event (c := .keepReceived f) hl.1 rfl rfl rfl, conflictTaken (f := .keep f) hl hfields hother rfl
    fun u => takePlaced_port (fun v => setCrossing_port _ _ _ _ _ _ v) _ _ _ u⟩

/-! The answer, by the own slot's stage and key (R102). -/

theorem answerTo_claim {s : State} {l : LegId} {own : Slot} {c : Carried} (hs : own.stage = .claimed) (hc : isClaim c = true) :
    answerTo s l own c = if keyLt (foreignKey c.station c.leg c.slot) (ownKey s l own) then .cede else .keep := by
  rw [answerTo, answerOf_claimed hs, hc, if_pos rfl]

theorem answerTo_firm {s : State} {l : LegId} {own : Slot} {c : Carried} (hs : own.stage = .claimed) (hc : isClaim c = false) :
    answerTo s l own c = if own.urgent then .keep else .cede := by
  rw [answerTo, answerOf_claimed hs, hc]; rfl

theorem answerTo_past {s : State} {l : LegId} {own : Slot} {c : Carried} (hs : own.stage ≠ .claimed) :
    answerTo s l own c = if isClaim c then .keep else .keepDouble := by
  rw [answerTo, answerOf_past hs]

theorem answerTo_double {s : State} {l : LegId} {own : Slot} {c : Carried} :
    answerTo s l own c = .keepDouble ↔ own.stage ≠ .claimed ∧ isClaim c = false := by
  by_cases hs : own.stage = .claimed
  · cases hc : isClaim c
    · rw [answerTo_firm hs hc]; cases own.urgent <;> simp [hs]
    · rw [answerTo_claim hs hc]; split <;> simp
  · rw [answerTo_past hs]; cases isClaim c <;> simp [hs]

section
variable {s t : State} {l : LegId} {own : Slot} {c : Carried}

/-- A slot that yields is ceded (R104). -/
theorem ConflictTaken.loses (h : ConflictTaken c s t) (hl : listening s) (hown : slotOf s l = some own)
    (hother : slotOf s (otherLeg l) = none) (hbid : ∀ m, (s.slots.get m).bid = none) (hc : inConflict s l c = true)
    (ha : answerTo s l own c = .cede) :
    slotOf t l = none ∧ (legState s l = .claimed → legState t l = .called) ∧
      t.line.queue.legs.get l = some { kind := .cede, stamp := s.clock + 1, sending := false } ∧
      flagSet t .doubleCommit = flagSet s .doubleCommit := by
  have hcede : viewOf (cede l (frameEnded s)) l = (viewOf s l).ceded (frameEnded s) := (viewOf_cede l (frameEnded s)).1
  have htake : slotsTake c (frameEnded s) = cede l (frameEnded s) := by
    rw [slotsTake_one (s := frameEnded s) (l := l) hother hbid, react_cede (s := frameEnded s) hown hc ha]
    exact checkFrame_none (congrArg (fun v : LegView => v.slot.slot) hcede) c
  have hview : viewOf t l = (viewOf s l).ceded (frameEnded s) := by rw [h.view, htake, hcede]
  have hdouble : flagSet t .doubleCommit = flagSet s .doubleCommit := by
    rw [h.double, htake, flagSet, cede_touches l (frameEnded s) .port (by decide)]; rfl
  refine ⟨congrArg (fun v : LegView => v.slot.slot) hview, fun hst => ?_,
    (congrArg LegView.request hview).trans (requested_frameEnded (k := .cede) (acceptsAny_of_listening hl) _), hdouble⟩
  refine (congrArg (fun v : LegView => v.leg.state) hview).trans ?_
  exact congrArg LegRec.state (if_pos hst)

/-- What the reaction of a leg whose slot stands leaves (R103). -/
structure Stands (c : Carried) (own : Slot) (l : LegId) (u r : State) : Prop where
  view : viewOf r l = (viewOf u l).answered u c
  double : flagSet r .doubleCommit = (flagSet u .doubleCommit || (decide (own.stage ≠ .claimed) && !isClaim c))
  changes : ChangesOnly [.slots, .line, .port] u r

theorem stands_of_answer {u : State} (hown : slotOf u l = some own) (hc : inConflict u l c = true) (ha : answerTo u l own c ≠ .cede) :
    Stands c own l u (react l c u) := by
  have hview := (viewOf_answerKeep l c u).1
  have hkeeps := answerKeep_touches l c u
  have hport : flagSet (answerKeep l c u) .doubleCommit = flagSet u .doubleCommit := by rw [flagSet, hkeeps .port (by decide), flagSet]
  cases hans : answerTo u l own c with
  | cede => exact absurd hans ha
  | keep =>
    rw [react_keep hown hc hans]
    have hsingle : (decide (own.stage ≠ .claimed) && !isClaim c) = false := by
      rw [← Bool.not_eq_true, Bool.and_eq_true, decide_eq_true_iff, Bool.not_eq_true', ← answerTo_double (s := u) (l := l), hans]
      nofun
    exact ⟨hview, by rw [hport, hsingle, Bool.or_false], hkeeps.mono (by decide)⟩
  | keepDouble =>
    rw [react_double hown hc hans]
    obtain ⟨hs, hclaim⟩ := answerTo_double.mp hans
    have hset := setFlag_touches .doubleCommit (answerKeep l c u)
    refine ⟨by rw [viewOf_congr hset rfl, hview], ?_, (hkeeps.mono (by decide)).trans (hset.mono (by decide))⟩
    rw [flagSet_setFlag_self, decide_eq_true hs, hclaim]
    exact (Bool.or_true _).symm

/-- The bands used against a slot in the event of a frame that overlaps it, where the other leg has no slot (R110). -/
theorem mem_usedBands_frame {b : Nat} (hother : slotOf s (otherLeg l) = none) (hover : overlap own c.slot = true) :
    b ∈ usedBands s l own (some c) ↔ b = c.slot.band ∨ ∃ n ∈ s.table, (n.station ≠ c.station ∨ n.leg ≠ c.leg) ∧
      acoustic s n.position n.radius = true ∧ ∃ x, n.slot = some x ∧ x.aid = true ∧ overlap own x = true ∧ x.band = b := by
  have hcrossing (n : Crossing) : (!decide (some (c.station, c.leg) = some (n.station, n.leg))) = true ↔
      (n.station ≠ c.station ∨ n.leg ≠ c.leg) := by
    rw [Bool.not_eq_true', decide_eq_false_iff_not, Option.some.injEq, Prod.mk.injEq, not_and_or, eq_comm, eq_comm (a := c.leg)]
  have hnone : otherAid s l = none := by rw [otherAid, hother]; rfl
  rw [mem_usedBands, rivals, hnone]
  constructor
  · rintro ⟨p, hp, hov, rfl⟩
    obtain hp | hp := List.mem_cons.mp (show p ∈ (foreignKey c.station c.leg c.slot, c.slot) :: neighbourSlots s (some (c.station, c.leg)) by
      simpa [foreignSlots] using hp)
    · rw [hp]; exact .inl rfl
    · obtain ⟨n, hn, hsome⟩ := List.mem_filterMap.mp hp
      obtain ⟨hcond, hbind⟩ := Option.ite_none_right_eq_some.mp hsome
      obtain ⟨hac, hne⟩ := Bool.and_eq_true_iff.mp hcond
      obtain ⟨x, hx, hpair⟩ := Option.bind_eq_some_iff.mp hbind
      obtain ⟨haid, heq⟩ := Option.ite_none_right_eq_some.mp hpair
      cases heq
      exact .inr ⟨n, hn, (hcrossing n).mp hne, hac, x, hx, haid, hov, rfl⟩
  · rintro (rfl | ⟨n, hn, hne, hac, x, hx, haid, hov, rfl⟩)
    · exact ⟨(foreignKey c.station c.leg c.slot, c.slot), by simp [foreignSlots], hover, rfl⟩
    · refine ⟨(foreignKey n.station n.leg x, x), ?_, hov, rfl⟩
      have hmem : (foreignKey n.station n.leg x, x) ∈ neighbourSlots s (some (c.station, c.leg)) := by
        refine List.mem_filterMap.mpr ⟨n, hn, ?_⟩
        rw [hac, (hcrossing n).mpr hne, hx]
        exact if_pos haid
      exact List.mem_append_left _ (List.mem_append_right _ hmem)

theorem usedBands_congr {u : State} (htable : u.table = s.table) (hcfg : u.cfg = s.cfg)
    (hother : slotOf u (otherLeg l) = slotOf s (otherLeg l)) (caller : Option Carried) : usedBands u l own caller = usedBands s l own caller := by
  rw [usedBands, foreignSlots_congr htable hcfg, otherAid, hother, ownKey_congr hcfg]
  rfl

/-- The slot carried overlaps the own slot in the same band and has the lower key (R109). -/
def bandClash (s : State) (l : LegId) (own : Slot) (c : Carried) : Prop :=
  overlap own c.slot = true ∧ own.band = c.slot.band ∧ keyLt (foreignKey c.station c.leg c.slot) (ownKey s l own) = true

/-- A frame in conflict calls for the own slot's move exactly where the two overlap in one band and its key is the lower (R109). -/
theorem frameCalls_iff {r : State} (hc : inConflict s l c = true) (hown : slotOf s l = some own) (hcfg : r.cfg = s.cfg)
    (hbid : (r.slots.get l).bid = none) : frameCalls r l own c = true ↔ bandClash s l own c := by
  have hconf : conf r = conf s := by unfold conf; rw [hcfg]
  have hac : acoustic r = acoustic s := by funext p q; rw [acoustic, acoustic, distanceTo, distanceTo, hconf]
  unfold inConflict at hc
  rw [hown] at hc
  simp only [Bool.and_eq_true] at hc
  obtain ⟨⟨⟨⟨hacoustic, haid⟩, -⟩, hownAid⟩, -⟩ := hc
  rw [frameCalls, hbid, hac, hacoustic, haid, hownAid, ownKey_congr hcfg]
  simp [bandClash, callsFor_iff, and_assoc]

/-- A slot that stands answers, and then makes the band check (R103, R109, R110). -/
theorem ConflictTaken.stands (h : ConflictTaken c s t) (hown : slotOf s l = some own) (hother : slotOf s (otherLeg l) = none)
    (hbid : ∀ m, (s.slots.get m).bid = none) (hc : inConflict s l c = true) (ha : answerTo s l own c ≠ .cede) :
    legState t l = legState s l ∧
      flagSet t .doubleCommit = (flagSet s .doubleCommit || (decide (own.stage ≠ .claimed) && !isClaim c)) ∧
      (¬bandClash s l own c ∨ (∀ b < 6, b ∈ usedBands s l own (some c)) → viewOf t l = (viewOf s l).answered (frameEnded s) c) ∧
      (∀ b, bandClash s l own c → lowestBand (usedBands s l own (some c)) = some b →
        viewOf t l = ((viewOf s l).answered (frameEnded s) c).banded (frameEnded s) b) := by
  let r := react l c (frameEnded s)
  have hr : Stands c own l (frameEnded s) r := stands_of_answer (u := frameEnded s) hown hc ha
  have hrview : viewOf r l = (viewOf s l).answered (frameEnded s) c := hr.view
  have hanswered : (viewOf r l).leg = s.legs.get l ∧ (viewOf r l).slot.slot = some own ∧ (viewOf r l).slot.bid = none := by
    rw [hrview, LegView.answered]
    split
    · exact ⟨rfl, hown, hbid l⟩
    · exact ⟨rfl, hown, hbid l⟩
  obtain ⟨hleg, hslot, hrbid⟩ := hanswered
  have hcfg : r.cfg = s.cfg := hr.changes .cfg (by decide)
  have htable : r.table = s.table := hr.changes .table (by decide)
  have hrest : slotOf r (otherLeg l) = slotOf s (otherLeg l) :=
    congrArg (fun v : LegView => v.slot.slot) (viewOf_react_other l c (frameEnded s))
  have hcalls : frameCalls r l own c = true ↔ bandClash s l own c := frameCalls_iff hc hown hcfg hrbid
  have hused : usedBands r l own (some c) = usedBands s l own (some c) := usedBands_congr htable hcfg hrest _
  have htake : slotsTake c (frameEnded s) = checkFrame l c r := slotsTake_one (s := frameEnded s) (l := l) hother hbid c
  have hcheck := checkFrame_touches l c r
  have hreq : requested r = requested (frameEnded s) := requested_congr hr.changes rfl
  refine ⟨?_, ?_, fun hstill => ?_, fun b hcall hfree => ?_⟩
  · have hlegs : (viewOf (checkFrame l c r) l).leg = (viewOf r l).leg := congrArg (fun p => p.get l) (hcheck .legs (by decide))
    exact congrArg LegRec.state ((congrArg LegView.leg (h.view l)).trans ((congrArg LegView.leg (congrArg (viewOf · l) htake)).trans
      (hlegs.trans hleg)))
  · rw [h.double, htake, flagSet, hcheck .port (by decide)]
    exact hr.double
  · have hsame : checkFrame l c r = r := by
      obtain hno | hfull := hstill
      · exact checkFrame_quiet hslot (Bool.eq_false_iff.mpr (fun hyes => hno (hcalls.mp hyes)))
      · exact checkFrame_full hslot (by rwa [hused])
    rw [h.view, htake, hsame, hrview]
  · rw [h.view, htake, checkFrame_moves hslot (hcalls.mpr hcall) (by rwa [hused]), (viewOf_bandMoved l b r).1, LegView.banded, hreq, hrview]
    rfl

end

theorem alreadyTold_iff (r : SlotRec) (c : Carried) : alreadyTold r c = true ↔ c.isBid = false ∧
    (r.challengers.find? fun q => decide (q.station = c.station ∧ q.leg = c.leg)).any Challenger.told = true := by
  rw [alreadyTold, findChallenger_eq, Bool.and_eq_true, Bool.not_eq_true']

/-- A KEEP's stage code that the field check admits names a claim where it is 1 (R48, R56). -/
theorem claimed_of_stage : ∀ g : BitVec 2, g ≠ 0#2 → decide ((stageOf g.toNat).getD .claimed = .claimed) = decide (g = 1#2) := by decide

/-- Settles O29: a frame's answer, then its band check; and the band check for an own slot change by its three ends. -/
theorem conflictIsAnsweredByKey : Obligations.ConflictIsAnsweredByKey := by
  unfold Obligations.ConflictIsAnsweredByKey
  refine ⟨fun l own s hl hrun hown hother hbid => ?_, fun l own s hown ha => ?_⟩
  · intro loses stands lower
    have hacc : acceptsLeg s .keep = true := by
      have hany := acceptsAny_of_listening hl
      rw [acceptsAny, Bool.and_eq_true] at hany
      show (s.cfg.isSome && decide (s.mode = .run)) = true
      rw [hany.1, hrun]; rfl
    have hkeep (o : Option (Entry LegReq)) : requested (frameEnded s) .keep o = some { kind := .keep, stamp := s.clock + 1, sending := false } :=
      requested_frameEnded hacc o
    have hloses {t : State} {c : Carried} (h : ConflictTaken c s t) (hc : inConflict s l c = true) (hans : answerTo s l own c = .cede) :
        loses t := h.loses hl hown hother hbid hc hans
    have hstands {t : State} {c : Carried} (h : ConflictTaken c s t) (hc : inConflict s l c = true) (hans : answerTo s l own c ≠ .cede) :
        stands t c := by
      obtain ⟨hleg, hdouble, hstill, hmove⟩ := h.stands hown hother hbid hc hans
      have htold := alreadyTold_iff (s.slots.get l) c
      have hkept (hyes : alreadyTold (s.slots.get l) c = true) : (viewOf s l).answered (frameEnded s) c = viewOf s l := if_pos hyes
      have hjoined (hno : ¬alreadyTold (s.slots.get l) c = true) : (viewOf s l).answered (frameEnded s) c =
          { viewOf s l with slot := (s.slots.get l).challengedBy c, request := requested (frameEnded s) .keep (viewOf s l).request } :=
        if_neg hno
      have hslot : ((viewOf s l).answered (frameEnded s) c).slot.slot = some own := by
        unfold LegView.answered; split <;> exact hown
      refine ⟨hleg, hdouble, fun hrest => ?_, fun hclash b hb hfree hlow => ?_⟩
      · have hview : viewOf t l = (viewOf s l).answered (frameEnded s) c := by
          refine hstill (or_iff_not_imp_left.mpr fun hclash b hb => ?_)
          have hclash' := not_not.mp hclash
          obtain hno | hall := hrest
          · exact absurd hclash' hno
          · exact (mem_usedBands_frame hother hclash'.1).mpr (hall b hb)
        refine ⟨(congrArg (fun v : LegView => v.slot.slot) hview).trans hslot, fun hans => ?_, fun hans => ?_⟩
        · rw [hkept (htold.mpr hans)] at hview
          exact ⟨congrArg (fun v : LegView => v.slot.challengers) hview, congrArg LegView.request hview⟩
        · rw [hjoined (fun hyes => hans (htold.mp hyes))] at hview
          refine ⟨(congrArg (fun v : LegView => v.slot.challengers) hview).trans (challenge_eq ..), ?_⟩
          exact (congrArg LegView.request hview).trans (hkeep _)
      · have hlowest : lowestBand (usedBands s l own (some c)) = some b := lowestBand_eq_some.mpr
          ⟨hb, fun hu => hfree ((mem_usedBands_frame hother hclash.1).mp hu), fun j hj => (mem_usedBands_frame hother hclash.1).mpr (hlow j hj)⟩
        have hview := hmove b hclash hlowest
        refine ⟨?_, (congrArg LegView.request hview).trans (hkeep _), fun hans => ?_, fun hans => ?_⟩
        · refine (congrArg (fun v : LegView => v.slot.slot) hview).trans ?_
          exact congrArg (Option.map fun x : Slot => { x with band := b }) hslot
        · rw [hkept (htold.mpr hans)] at hview
          exact congrArg (fun v : LegView => v.slot.challengers) hview
        · rw [hjoined (fun hyes => hans (htold.mp hyes))] at hview
          refine (congrArg (fun v : LegView => v.slot.challengers) hview).trans ?_
          exact congrArg (List.map fun q : Challenger => { q with told := false }) (challenge_eq ..)
    refine ⟨fun f hok hst hc => ?_, fun f hok hstage hst hc => ?_⟩
    · obtain ⟨t, hexec, h⟩ := bidTaken hl hok hst
      refine ⟨t, hexec, fun hs hlt => hloses h hc ?_, fun hs hlt => hstands h hc ?_, fun hs => hstands h hc ?_⟩
      · rw [answerTo_claim hs rfl]; exact if_pos hlt
      · rw [answerTo_claim hs rfl, if_neg (Bool.eq_false_iff.mp hlt)]; nofun
      · rw [answerTo_past hs]; split <;> nofun
    · obtain ⟨t, hexec, h⟩ := keepTaken hl hok hstage hst
      have hclaim : isClaim (carriedKeep f) = decide (f.stage = 1#2) := claimed_of_stage f.stage hstage
      refine ⟨t, hexec, fun hs h1 hlt => hloses h hc ?_, fun hs h1 hlt => hstands h hc ?_, fun hs h1 hu => hloses h hc ?_,
        fun hs h1 hu => hstands h hc ?_, fun hs => hstands h hc ?_⟩
      · rw [answerTo_claim hs (by rw [hclaim, decide_eq_true h1])]; exact if_pos hlt
      · rw [answerTo_claim hs (by rw [hclaim, decide_eq_true h1]), if_neg (Bool.eq_false_iff.mp hlt)]; nofun
      · rw [answerTo_firm hs (by rw [hclaim, decide_eq_false h1]), hu]; rfl
      · rw [answerTo_firm hs (by rw [hclaim, decide_eq_false h1]), hu]; nofun
      · rw [answerTo_past hs]; split <;> nofun
  · intro t clash foreign other allUsed
    have hcheck : BandCheck l own none s t := checkOwnChange_ends hown ha none
    have hrival (m : LegId) (key : Key) (y : Slot) : (key, y) ∈ rivals t m none ↔ foreign key y ∨ other m key y := mem_rivals_none
    have hall (m : LegId) (x : Slot) (h : ∀ b < 6, b ∈ usedBands t m x none) : allUsed m x := by
      intro b hb
      obtain ⟨⟨key, y⟩, hp, hover, hband⟩ := mem_usedBands.mp (h b hb)
      exact ⟨key, y, (hrival m key y).mp hp, hover, hband⟩
    refine ⟨fun x key y hx hy hclash hlt => ?_, fun x key y hx hy hclash hlt => ?_, hcheck.slots, hcheck.changes⟩
    · exact hall l x (hcheck.own_settled hown ha hx ((hrival l key y).mpr hy) (callsFor_iff.mpr hclash) hlt)
    · obtain ⟨hslot, haid, rfl⟩ := hy
      exact hall _ y (hcheck.other_settled hown ha hx hslot haid (callsFor_iff.mpr hclash) hlt)

end Sys2Proof.Machine
end

section
/-! The aid upgrade of an announced slot (R111, R112): the slot lengthened, the other leg looked at, the KEEP and the band check. -/

namespace Sys2Proof.Machine

/-! ### Steps 1 and 2 of R111 -/

/-- A plain slot made aid: X longer, in the band that R89 gives for its length. -/
def upgradedSlot (s : State) (l : LegId) (x : Slot) : Slot :=
  { x with aid := true, endIn := x.endIn + (legConf s l).ext, band := aidBand s l x.startIn (x.endIn + (legConf s l).ext - x.startIn) }

theorem aidBand_onSlot (l : LegId) (f : Slot → Slot) (s : State) : aidBand (onSlot l f s) l = aidBand s l := by
  cases l <;> rfl

theorem slotOf_onSlot (l : LegId) (f : Slot → Slot) (s : State) : slotOf (onSlot l f s) l = (slotOf s l).map f := by
  simp [slotOf, onSlot]

theorem updSlot_updSlot (l : LegId) (f g : SlotRec → SlotRec) (s : State) : updSlot l g (updSlot l f s) = updSlot l (fun r => g (f r)) s := by
  unfold updSlot Legs.upd
  rw [Legs.get_set_self, Legs.set_set]

def SlotRec.holding (x : Slot) (r : SlotRec) : SlotRec := { r with slot := some x }

theorem upgradeSlot_eq {s : State} {l : LegId} {x : Slot} (h : slotOf s l = some x) :
    upgradeSlot l s = updSlot l (SlotRec.holding (upgradedSlot s l x)) s := by
  have hrec : (s.slots.get l).slot = some x := h
  unfold upgradeSlot
  dsimp only
  rw [slotOf_onSlot, h]
  dsimp only [Option.map_some]
  rw [aidBand_onSlot]
  unfold onSlot
  rw [updSlot_updSlot]
  refine congrArg (fun r => { s with slots := s.slots.set l r }) ?_
  show (_ : SlotRec) = _
  dsimp only
  rw [hrec]
  rfl

theorem viewOf_upgradeSlot {s : State} {l : LegId} {x : Slot} (h : slotOf s l = some x) :
    viewOf (upgradeSlot l s) l = { viewOf s l with slot := (s.slots.get l).holding (upgradedSlot s l x) } ∧
      viewOf (upgradeSlot l s) (otherLeg l) = viewOf s (otherLeg l) := by
  rw [upgradeSlot_eq h, viewOf_updSlot, viewOf_updSlot_other]
  exact ⟨rfl, rfl⟩

/-! ### The rest of R111 -/

/-- The end of an upgrade for a slot that stands: every told mark no, a KEEP, the band check. -/
def announceUpgrade (l : LegId) (s : State) : State := enqueueLeg l .keep (updSlot l SlotRec.untell s)

theorem aidUpgrade_eq {s : State} {l : LegId} {x : Slot} (h : slotOf s l = some x) (ha : x.aid = false) :
    aidUpgrade l s = if (slotOf (checkOther l (upgradeSlot l s)) l).isSome
      then checkOwnChange bandRounds l none (announceUpgrade l (checkOther l (upgradeSlot l s))) else checkOther l (upgradeSlot l s) := by
  unfold aidUpgrade
  rw [h]
  dsimp only
  rw [ha]
  rfl

theorem viewOf_announceUpgrade (l : LegId) (s : State) :
    viewOf (announceUpgrade l s) l =
        { viewOf s l with slot := (s.slots.get l).untell, request := requested s .keep (viewOf s l).request } ∧
      viewOf (announceUpgrade l s) (otherLeg l) = viewOf s (otherLeg l) := by
  rw [announceUpgrade, viewOf_enqueueLeg, viewOf_enqueueLeg_other, viewOf_updSlot, viewOf_updSlot_other]
  exact ⟨rfl, rfl⟩

theorem announceUpgrade_touches (l : LegId) : Touches [.slots, .line] (announceUpgrade l) := fun s =>
  ((updSlot_touches l _).mono (by decide) s).trans ((enqueueLeg_touches l .keep).mono (by decide) _)

/-- A band check moves no slot of a leg that has none. -/
theorem BandCheck.view_none {l : LegId} {own : Slot} {caller : Option Carried} {s t : State} (h : BandCheck l own caller s t)
    (hnone : slotOf s (otherLeg l) = none) : viewOf t (otherLeg l) = viewOf s (otherLeg l) := by
  cases h with
  | stays _ _ => rfl
  | moves _ _ => exact (viewOf_bandMoved l _ s).2
  | otherMoves _ hy _ _ => rw [hnone] at hy; cases hy

/-- An entry of the exclusion list overlaps the slot in its band (R89, R109). -/
def listClash (s : State) (l : LegId) (up : Slot) : Prop :=
  ∃ e ∈ exclusionList s l, e.startIn < up.endIn ∧ up.startIn < e.endIn ∧ e.band = up.band

/-- A slot that calls for the separation of leg l's is in the exclusion list. -/
theorem listClash_of_mustMove {s v : State} {l : LegId} {up : Slot} (htable : v.table = s.table) (hcfg : v.cfg = s.cfg)
    (hother : slotOf v (otherLeg l) = none ∨ slotOf v (otherLeg l) = slotOf s (otherLeg l)) (h : mustMove v l up none = true) :
    listClash s l up := by
  have hconf : conf v = conf s := by unfold conf; rw [hcfg]
  have hacoustic : acoustic v = acoustic s := by funext p q; rw [acoustic, acoustic, distanceTo, distanceTo, hconf]
  obtain ⟨⟨key, y⟩, hp, hcalls, -⟩ := mustMove_iff.mp h
  obtain ⟨hover, hband⟩ := callsFor_iff.mp hcalls
  obtain ⟨hstart, hend⟩ := Bool.and_eq_true_iff.mp hover
  have hspan : y.startIn < up.endIn ∧ up.startIn < y.endIn := ⟨of_decide_eq_true hend, of_decide_eq_true hstart⟩
  have hpos : 0 < y.endIn := Nat.zero_lt_of_lt hspan.2
  obtain ⟨n, hn, hac, hslot, ha, -⟩ | ⟨hslot, ha, -⟩ := mem_rivals_none.mp hp
  · rw [htable] at hn
    rw [hacoustic] at hac
    exact ⟨_, mem_exclusionList.mpr (.inl (mem_foreignExcl.mpr ⟨n, hn, hac, y, hslot, ha, hpos, rfl⟩)), hspan.1, hspan.2, hband.symm⟩
  · obtain hnone | hsame := hother
    · rw [hnone] at hslot; cases hslot
    · rw [hsame] at hslot
      exact ⟨_, mem_exclusionList.mpr (.inr (ownExcl_eq_some.mpr ⟨y, hslot, ha, hpos, rfl⟩)), hspan.1, hspan.2, hband.symm⟩

/-- What an upgrade leaves of a slot that stands (R111). -/
structure UpgradeStands (l : LegId) (up : Slot) (s t : State) : Prop where
  band : ∃ b, slotOf t l = some { up with band := b }
  free : ¬listClash s l up → slotOf t l = some up
  legs : t.legs.get l = s.legs.get l
  contest : (t.slots.get l).contest = (s.slots.get l).contest
  challengers : (t.slots.get l).challengers = (s.slots.get l).challengers.map fun c => { c with told := false }
  bid : (t.slots.get l).bid = (s.slots.get l).bid
  deferred : (t.slots.get l).deferred = (s.slots.get l).deferred
  request : t.line.queue.legs.get l = requested s .keep (s.line.queue.legs.get l)

theorem untell_banded (x : Slot) (b : Nat) (r : SlotRec) :
    (r.holding x).untell.banded b = (r.holding { x with band := b }).untell := by
  simp [SlotRec.banded, SlotRec.untell, SlotRec.holding, List.map_map, Function.comp_def]

theorem requested_requested (s : State) (k : LegReq) (o : Option (Entry LegReq)) : requested s k (requested s k o) = requested s k o := by
  unfold requested; split <;> rfl

/-- What follows for both legs once the other leg has been looked at and the slot stands. -/
theorem aidUpgrade_kept {s w : State} {l : LegId} {x : Slot} (hx : slotOf s l = some x) (ha : x.aid = false)
    (hw : checkOther l (upgradeSlot l s) = w) (hview : viewOf w l = viewOf (upgradeSlot l s) l)
    (hother : slotOf w (otherLeg l) = none ∨ slotOf w (otherLeg l) = slotOf s (otherLeg l)) :
    UpgradeStands l (upgradedSlot s l x) s (aidUpgrade l s) ∧
      (slotOf w (otherLeg l) = none → viewOf (aidUpgrade l s) (otherLeg l) = viewOf w (otherLeg l)) ∧
      (∃ b, viewOf (aidUpgrade l s) (otherLeg l) = viewOf w (otherLeg l) ∨
        viewOf (aidUpgrade l s) (otherLeg l) = (viewOf w (otherLeg l)).banded s b) ∧
      (aidUpgrade l s).port = w.port := by
  have hupgraded : viewOf w l = { viewOf s l with slot := (s.slots.get l).holding (upgradedSlot s l x) } :=
    hview.trans (viewOf_upgradeSlot hx).1
  have hslot : slotOf w l = some (upgradedSlot s l x) := congrArg (fun v : LegView => v.slot.slot) hupgraded
  have hws : ChangesOnly [.legs, .slots, .line, .port] s w :=
    hw ▸ ((upgradeSlot_touches l).mono (by decide) s).trans ((checkOther_touches l).mono (by decide) _)
  let v := announceUpgrade l w
  obtain ⟨hv, hvo⟩ := viewOf_announceUpgrade l w
  have hvw : ChangesOnly [.slots, .line] w v := announceUpgrade_touches l w
  have hvs : ChangesOnly [.legs, .slots, .line, .port] s v := hws.trans (hvw.mono (by decide))
  have hvslot : slotOf v l = some (upgradedSlot s l x) :=
    (congrArg (fun v : LegView => v.slot.slot) hv).trans hslot
  have hend : aidUpgrade l s = checkOwnChange bandRounds l none v := by
    rw [aidUpgrade_eq hx ha, hw, hslot]; rfl
  have hcheck : BandCheck l (upgradedSlot s l x) none v (aidUpgrade l s) := hend ▸ checkOwnChange_ends hvslot rfl none
  have hreqw : requested w = requested s := requested_congr hws rfl
  have hreqv : requested v = requested s := requested_congr hvs rfl
  have hvl : viewOf v l = ⟨s.legs.get l, ((s.slots.get l).holding (upgradedSlot s l x)).untell,
      requested s .keep (s.line.queue.legs.get l)⟩ := by
    rw [hv, hreqw, hupgraded, show w.slots.get l = (viewOf w l).slot from rfl, hupgraded]; rfl
  have hfree (hno : ¬listClash s l (upgradedSlot s l x)) : viewOf (aidUpgrade l s) l = viewOf v l := by
    have hcalm : mustMove v l (upgradedSlot s l x) none = true → False := fun hm =>
      hno (listClash_of_mustMove (hvs .table (by decide)) (hvs .cfg (by decide))
        (by rw [show slotOf v (otherLeg l) = slotOf w (otherLeg l) from congrArg (fun v : LegView => v.slot.slot) hvo]; exact hother) hm)
    generalize aidUpgrade l s = t at hcheck
    cases hcheck with
    | stays _ _ => rfl
    | moves hm _ => exact (hcalm hm).elim
    | @otherMoves y b _ _ _ _ =>
      have h := (viewOf_bandMoved (otherLeg l) b v).2
      rwa [otherLeg_otherLeg] at h
  refine ⟨?_, fun hnone => ?_, ?_, ?_⟩
  · have hboth : ∃ b, viewOf (aidUpgrade l s) l = ⟨s.legs.get l,
        ((s.slots.get l).holding { upgradedSlot s l x with band := b }).untell, requested s .keep (s.line.queue.legs.get l)⟩ := by
      obtain hsame | ⟨b, hb⟩ := hcheck.views l
      · exact ⟨_, hsame.trans hvl⟩
      · refine ⟨b, hb.trans ?_⟩
        rw [hvl, LegView.banded, hreqv, requested_requested]
        exact congrArg (fun r => LegView.mk _ r _) (untell_banded ..)
    obtain ⟨b, hb⟩ := hboth
    exact {
      band := ⟨b, congrArg (fun v : LegView => v.slot.slot) hb⟩
      free := fun hno => (congrArg (fun v : LegView => v.slot.slot) (hfree hno)).trans hvslot
      legs := congrArg LegView.leg hb
      contest := congrArg (fun v : LegView => v.slot.contest) hb
      challengers := congrArg (fun v : LegView => v.slot.challengers) hb
      bid := congrArg (fun v : LegView => v.slot.bid) hb
      deferred := congrArg (fun v : LegView => v.slot.deferred) hb
      request := congrArg LegView.request hb }
  · rw [← hvo]
    exact hcheck.view_none ((congrArg (fun v : LegView => v.slot.slot) hvo).trans hnone)
  · rw [← hvo, ← show LegView.banded v = LegView.banded s by funext b u; rw [LegView.banded, hreqv, LegView.banded]]
    obtain hsame | ⟨b, hb⟩ := hcheck.views (otherLeg l)
    · exact ⟨0, .inl hsame⟩
    · exact ⟨b, .inr hb⟩
  · exact (hcheck.changes .port (by decide)).trans (hvw .port (by decide))

end Sys2Proof.Machine
end

section
/-! What a classified press does (O11). -/

namespace Sys2Proof.Machine

/-! ### The aid upgrade of an announced slot (R111) -/

section
variable {s : State} {l : LegId} {x : Slot} (hx : slotOf s l = some x) (ha : x.aid = false)
include hx

theorem upgradeSlot_slots : slotOf (upgradeSlot l s) l = some (upgradedSlot s l x) ∧
    slotOf (upgradeSlot l s) (otherLeg l) = slotOf s (otherLeg l) ∧
    (upgradeSlot l s).slots.get (otherLeg l) = s.slots.get (otherLeg l) := by
  obtain ⟨hself, hother⟩ := viewOf_upgradeSlot hx
  exact ⟨congrArg (fun v : LegView => v.slot.slot) hself, congrArg (fun v : LegView => v.slot.slot) hother, congrArg LegView.slot hother⟩

/-- While the other leg's BID is on the line the look at its slot is deferred (R107). -/
theorem checkOther_deferred (hb : (s.slots.get (otherLeg l)).bid.isSome = true) : checkOther l (upgradeSlot l s) =
    updSlot (otherLeg l) (fun r => { r with deferred := r.deferred ++ [.upgrade] }) (upgradeSlot l s) := by
  have hbid := (upgradeSlot_slots hx).2.2
  unfold checkOther
  rw [hbid, if_pos hb]

theorem checkOther_looks (hb : (s.slots.get (otherLeg l)).bid = none) : checkOther l (upgradeSlot l s) = sameStation l (upgradeSlot l s) := by
  have hbid := (upgradeSlot_slots hx).2.2
  unfold checkOther
  rw [hbid, hb]
  rfl

include ha

/-- A slot that yields is ceded, and the upgrade ends with that (R104, R112). -/
theorem aidUpgrade_ceded (hw : checkOther l (upgradeSlot l s) = cede l (upgradeSlot l s)) :
    slotOf (aidUpgrade l s) l = none ∧ legState (aidUpgrade l s) l = (if legState s l = .claimed then .called else legState s l) ∧
      (aidUpgrade l s).line.queue.legs.get l = requested s .cede (s.line.queue.legs.get l) ∧
      viewOf (aidUpgrade l s) (otherLeg l) = viewOf s (otherLeg l) ∧ (aidUpgrade l s).port = s.port := by
  obtain ⟨hself, hother⟩ := viewOf_cede l (upgradeSlot l s)
  obtain ⟨huself, huother⟩ := viewOf_upgradeSlot hx
  have hgone : slotOf (cede l (upgradeSlot l s)) l = none := congrArg (fun v : LegView => v.slot.slot) hself
  have hend : aidUpgrade l s = cede l (upgradeSlot l s) := by
    rw [aidUpgrade_eq hx ha, hw, hgone]; rfl
  have hreq : requested (upgradeSlot l s) = requested s := requested_congr (upgradeSlot_touches l s) rfl
  rw [hend]
  refine ⟨hgone, ?_, ?_, hother.trans huother, ?_⟩
  · refine (congrArg (fun v : LegView => v.leg.state) hself).trans ?_
    rw [huself]
    show ((s.legs.get l).ceded).state = _
    rw [LegRec.ceded, show legState s l = (s.legs.get l).state from rfl]
    split <;> rfl
  · refine (congrArg LegView.request hself).trans ?_
    rw [huself, LegView.ceded, hreq]; rfl
  · exact (cede_touches l _ .port (by decide)).trans (upgradeSlot_touches l s .port (by decide))

/-- The other leg's slot stands beside an upgrade, its band apart. -/
theorem aidUpgrade_other {w : State} (hw : checkOther l (upgradeSlot l s) = w) (hview : viewOf w l = viewOf (upgradeSlot l s) l)
    (hother : slotOf w (otherLeg l) = slotOf s (otherLeg l)) {y : Slot} (hy : slotOf s (otherLeg l) = some y) :
    ∃ b, slotOf (aidUpgrade l s) (otherLeg l) = some { y with band := b } := by
  obtain ⟨-, -, ⟨b, hsame | hbanded⟩, -⟩ := aidUpgrade_kept hx ha hw hview (.inr hother)
  · exact ⟨y.band, (congrArg (fun v : LegView => v.slot.slot) hsame).trans (hother.trans hy)⟩
  · refine ⟨b, (congrArg (fun v : LegView => v.slot.slot) hbanded).trans ?_⟩
    exact congrArg (Option.map fun z : Slot => { z with band := b }) (hother.trans hy)

/-- The other leg's slot, ceded to an upgrade (R112). -/
theorem aidUpgrade_otherCeded (hw : checkOther l (upgradeSlot l s) = cede (otherLeg l) (upgradeSlot l s)) :
    slotOf (aidUpgrade l s) (otherLeg l) = none ∧
      legState (aidUpgrade l s) (otherLeg l) = (if legState s (otherLeg l) = .claimed then .called else legState s (otherLeg l)) ∧
      (aidUpgrade l s).line.queue.legs.get (otherLeg l) = requested s .cede (s.line.queue.legs.get (otherLeg l)) ∧
      UpgradeStands l (upgradedSlot s l x) s (aidUpgrade l s) ∧ (aidUpgrade l s).port = s.port := by
  obtain ⟨hself, hother⟩ := viewOf_cede (otherLeg l) (upgradeSlot l s)
  rw [otherLeg_otherLeg] at hother
  have hgone : slotOf (cede (otherLeg l) (upgradeSlot l s)) (otherLeg l) = none := congrArg (fun v : LegView => v.slot.slot) hself
  obtain ⟨hstands, hnone, -, hport⟩ := aidUpgrade_kept hx ha hw hother (.inl hgone)
  have hview := (hnone hgone).trans hself
  have hreq : requested (upgradeSlot l s) = requested s := requested_congr (upgradeSlot_touches l s) rfl
  rw [(viewOf_upgradeSlot hx).2, LegView.ceded, hreq] at hview
  refine ⟨congrArg (fun v : LegView => v.slot.slot) hview, ?_, congrArg LegView.request hview, hstands, ?_⟩
  · refine (congrArg (fun v : LegView => v.leg.state) hview).trans ?_
    show ((s.legs.get (otherLeg l)).ceded).state = _
    rw [LegRec.ceded, show legState s (otherLeg l) = (s.legs.get (otherLeg l)).state from rfl]
    split <;> rfl
  · exact hport.trans ((cede_touches (otherLeg l) _ .port (by decide)).trans (upgradeSlot_touches l s .port (by decide)))

end

/-- The check between the two slots of an upgrade (R112). -/
theorem sameStation_upgraded {s : State} {l : LegId} {x y : Slot} (hx : slotOf s l = some x) (hy : slotOf s (otherLeg l) = some y)
    (hya : y.aid = true) (hc : collideGuard (conf s).guard (upgradedSlot s l x) y = true) :
    sameStation l (upgradeSlot l s) = yieldBetween l (upgradedSlot s l x) y (upgradeSlot l s) := by
  obtain ⟨hself, hother, -⟩ := upgradeSlot_slots hx
  have hconf : conf (upgradeSlot l s) = conf s := conf_congr (upgradeSlot_touches l s .cfg (by decide))
  exact sameStation_collides hself (hother.trans hy) rfl hya (by rw [hconf]; exact hc)

/-- The aid upgrade in O11: who yields, by stage and key, and what the upgrade leaves of each slot. -/
theorem aidUpgrade_outcomes (l : LegId) (x : Slot) (s : State) (hx : slotOf s l = some x) (ha : x.aid = false) :
    let o := otherLeg l
    let t := aidUpgrade l s
    let ends := x.endIn + (legConf s l).ext
    let up : Slot := { x with aid := true, endIn := ends, band := aidBand s l x.startIn (ends - x.startIn) }
    let bandClash := ∃ e ∈ exclusionList s l, e.startIn < ends ∧ x.startIn < e.endIn ∧ e.band = up.band
    let ceded := fun (m : LegId) => slotOf t m = none ∧ legState t m = (if legState s m = .claimed then .called else legState s m) ∧
      (acceptsAny s = true → t.line.queue.legs.get m = some { kind := .cede, stamp := s.clock, sending := false })
    let stands := (∃ band, slotOf t l = some { up with band := band }) ∧ (¬bandClash → slotOf t l = some up) ∧
      t.legs.get l = s.legs.get l ∧ (t.slots.get l).contest = (s.slots.get l).contest ∧
      (t.slots.get l).challengers = (s.slots.get l).challengers.map (fun c => { c with told := false }) ∧
      (acceptsLeg s .keep = true → t.line.queue.legs.get l = some { kind := .keep, stamp := s.clock, sending := false })
    let otherStands := ∀ y, slotOf s o = some y → ∃ band, slotOf t o = some { y with band := band }
    let doubles := flagSet t .doubleCommit
    ((s.slots.get o).bid.isSome = true →
      stands ∧ otherStands ∧ (t.slots.get o).deferred = (s.slots.get o).deferred ++ [.upgrade] ∧ doubles = flagSet s .doubleCommit) ∧
    ((s.slots.get o).bid = none →
      ((∀ y, slotOf s o = some y → y.aid = true → collideGuard (conf s).guard up y = false) →
        stands ∧ otherStands ∧ doubles = flagSet s .doubleCommit) ∧
      (∀ y, slotOf s o = some y → y.aid = true → collideGuard (conf s).guard up y = true →
        (x.stage = .claimed → y.stage = .claimed → doubles = flagSet s .doubleCommit ∧
          (keyLt (ownKey s o y) (ownKey s l x) = true → ceded l ∧ otherStands) ∧
          (keyLt (ownKey s o y) (ownKey s l x) = false → stands ∧ ceded o)) ∧
        (x.stage = .claimed → y.stage ≠ .claimed → doubles = flagSet s .doubleCommit ∧
          (x.urgent = false → ceded l ∧ otherStands) ∧ (x.urgent = true → stands ∧ otherStands)) ∧
        (x.stage ≠ .claimed → y.stage = .claimed → doubles = flagSet s .doubleCommit ∧
          (y.urgent = false → stands ∧ ceded o) ∧ (y.urgent = true → stands ∧ otherStands)) ∧
        (x.stage ≠ .claimed → y.stage ≠ .claimed → stands ∧ otherStands ∧ doubles = true))) := by
  intro o t ends up bandClash ceded stands otherStands doubles
  obtain ⟨huself, huother, huslot⟩ := upgradeSlot_slots hx
  have hflag {u : State} (h : u.port = s.port) : flagSet u .doubleCommit = flagSet s .doubleCommit := by rw [flagSet, h, flagSet]
  have huport : (upgradeSlot l s).port = s.port := upgradeSlot_touches l s .port (by decide)
  have hstands (h : UpgradeStands l (upgradedSlot s l x) s t) : stands :=
    ⟨h.band, h.free, h.legs, h.contest, h.challengers, fun hacc => h.request.trans (if_pos hacc)⟩
  have hboth {w : State} (hw : checkOther l (upgradeSlot l s) = w) (hview : viewOf w l = viewOf (upgradeSlot l s) l)
      (hslot : slotOf w o = slotOf s o) : stands ∧ otherStands :=
    ⟨hstands (aidUpgrade_kept hx ha hw hview (.inr hslot)).1, fun y hy => aidUpgrade_other hx ha hw hview hslot hy⟩
  have hstill (hw : checkOther l (upgradeSlot l s) = upgradeSlot l s) :
      stands ∧ otherStands ∧ doubles = flagSet s .doubleCommit := by
    obtain ⟨-, -, -, hport⟩ := aidUpgrade_kept hx ha hw rfl (.inr huother)
    exact ⟨(hboth hw rfl huother).1, (hboth hw rfl huother).2, hflag (hport.trans huport)⟩
  have hself (hw : checkOther l (upgradeSlot l s) = cede l (upgradeSlot l s)) :
      doubles = flagSet s .doubleCommit ∧ ceded l ∧ otherStands := by
    obtain ⟨hslot, hleg, hreq, hother, hport⟩ := aidUpgrade_ceded hx ha hw
    exact ⟨hflag hport, ⟨hslot, hleg, fun hacc => hreq.trans (if_pos hacc)⟩,
      fun y hy => ⟨y.band, (congrArg (fun v : LegView => v.slot.slot) hother).trans hy⟩⟩
  have hyields (hw : checkOther l (upgradeSlot l s) = cede o (upgradeSlot l s)) :
      doubles = flagSet s .doubleCommit ∧ stands ∧ ceded o := by
    obtain ⟨hslot, hleg, hreq, hup, hport⟩ := aidUpgrade_otherCeded hx ha hw
    exact ⟨hflag hport, hstands hup, hslot, hleg, fun hacc => hreq.trans (if_pos hacc)⟩
  refine ⟨fun hb => ?_, fun hb => ⟨fun hno => ?_, fun y hy hya hc => ?_⟩⟩
  · have hw := checkOther_deferred hx hb
    have hview := viewOf_updSlot_other (otherLeg l) (fun r => { r with deferred := r.deferred ++ [.upgrade] }) (upgradeSlot l s)
    rw [otherLeg_otherLeg] at hview
    have hrec : (updSlot (otherLeg l) (fun r => { r with deferred := r.deferred ++ [.upgrade] }) (upgradeSlot l s)).slots.get (otherLeg l) =
        { s.slots.get o with deferred := (s.slots.get o).deferred ++ [.upgrade] } := by
      rw [updSlot_slots, Legs.get_upd_self, huslot]
    have hslot := congrArg SlotRec.slot hrec
    obtain ⟨-, -, ⟨b, hkept⟩, hport⟩ := aidUpgrade_kept hx ha hw hview (.inr hslot)
    refine ⟨(hboth hw hview hslot).1, (hboth hw hview hslot).2, ?_, hflag (hport.trans huport)⟩
    obtain hsame | hbanded := hkept
    · exact (congrArg (fun v : LegView => v.slot.deferred) hsame).trans (congrArg SlotRec.deferred hrec)
    · exact (congrArg (fun v : LegView => v.slot.deferred) hbanded).trans (congrArg SlotRec.deferred hrec)
  · refine hstill ((checkOther_looks hx hb).trans (sameStation_apart fun z y hz hy _ hya => ?_))
    cases huself.symm.trans hz
    rw [conf_congr (upgradeSlot_touches l s .cfg (by decide))]
    exact hno y (huother.symm.trans hy) hya
  · have hw := (checkOther_looks hx hb).trans (sameStation_upgraded hx hy hya hc)
    have hkey : ownKey (upgradeSlot l s) = ownKey s := ownKey_congr (upgradeSlot_touches l s .cfg (by decide))
    unfold yieldBetween at hw
    rw [hkey] at hw
    refine ⟨fun hxs hys => ?_, fun hxs hys => ?_, fun hxs hys => ?_, fun hxs hys => ?_⟩
    · rw [if_pos (show (upgradedSlot s l x).stage = .claimed from hxs), if_pos hys] at hw
      cases hlt : keyLt (ownKey s o y) (ownKey s l x) with
      | true =>
        have h := hself (hw.trans (if_pos hlt))
        exact ⟨h.1, fun _ => h.2, nofun⟩
      | false =>
        have h := hyields (hw.trans (if_neg (Bool.eq_false_iff.mp hlt)))
        exact ⟨h.1, nofun, fun _ => h.2⟩
    · rw [if_pos (show (upgradedSlot s l x).stage = .claimed from hxs), if_neg hys] at hw
      cases hu : x.urgent with
      | true =>
        have h := hstill (hw.trans (if_pos hu))
        exact ⟨h.2.2, nofun, fun _ => ⟨h.1, h.2.1⟩⟩
      | false =>
        have h := hself (hw.trans (if_neg (Bool.eq_false_iff.mp hu)))
        exact ⟨h.1, fun _ => h.2, nofun⟩
    · rw [if_neg (show (upgradedSlot s l x).stage ≠ .claimed from hxs), if_pos hys] at hw
      cases hu : y.urgent with
      | true =>
        have h := hstill (hw.trans (if_pos hu))
        exact ⟨h.2.2, nofun, fun _ => ⟨h.1, h.2.1⟩⟩
      | false =>
        have h := hyields (hw.trans (if_neg (Bool.eq_false_iff.mp hu)))
        exact ⟨h.1, fun _ => h.2, nofun⟩
    · rw [if_neg (show (upgradedSlot s l x).stage ≠ .claimed from hxs), if_neg hys] at hw
      have hview (m : LegId) : viewOf (setFlag .doubleCommit (upgradeSlot l s)) m = viewOf (upgradeSlot l s) m := rfl
      obtain ⟨-, -, -, hport⟩ := aidUpgrade_kept hx ha hw (hview l) (.inr huother)
      refine ⟨(hboth hw (hview l) huother).1, (hboth hw (hview l) huother).2, ?_⟩
      have hset := flagSet_setFlag_self .doubleCommit (upgradeSlot l s)
      exact (congrArg (fun p : Port => p.flags.getLsbD (flagNumber .doubleCommit)) hport).trans hset

end Sys2Proof.Machine
end

section
/-! What a classified press does by the leg's state, and the request it makes (O11). -/

namespace Sys2Proof.Machine

/-- An aid press upgrades exactly a plain call (R30 to R33). -/
theorem wouldUpgrade_iff (s : State) (l : LegId) (kind : Kind) :
    wouldUpgrade s l kind = true ↔ kind = .aid ∧ ∃ c, (s.calls.get l).call = some c ∧ c.kind = .plain := by
  unfold wouldUpgrade
  rw [Bool.and_eq_true, decide_eq_true_iff, Option.any_eq_true]
  exact and_congr_right fun _ => exists_congr fun c => and_congr_right fun _ => decide_eq_true_iff

/-- The states in which a call is served, its slot announced (R31). -/
theorem takePress_service {l : LegId} {s : State}
    (h : legState s l = .claimed ∨ legState s l = .committed ∨ legState s l = .amber ∨ legState s l = .allRedIn) (k : Side) (kind : Kind) :
    takePress l k kind s = pressInService l k kind s := by
  unfold takePress
  obtain h | h | h | h := h <;> rw [h]

theorem takePress_later {l : LegId} {s : State}
    (h : legState s l = .clearance ∨ legState s l = .allRedOut ∨ legState s l = .held) (k : Side) (kind : Kind) :
    takePress l k kind s = pressInLater l k kind s := by
  unfold takePress
  obtain h | h | h := h <;> rw [h]

theorem takePress_dark {l : LegId} {s : State} (h : legState s l = .start ∨ legState s l = .flash) (k : Side) (kind : Kind) :
    takePress l k kind s = (s, .ignored) := by
  unfold takePress
  obtain h | h := h <;> rw [h]

theorem takePress_rest {l : LegId} {s : State} (h : legState s l = .rest) (k : Side) (kind : Kind) :
    takePress l k kind s = pressInRest l k kind s := by
  unfold takePress; rw [h]

theorem takePress_called {l : LegId} {s : State} (h : legState s l = .called) (k : Side) (kind : Kind) :
    takePress l k kind s = pressInCalled l k kind s := by
  unfold takePress; rw [h]

theorem takePress_walk {l : LegId} {s : State} (h : legState s l = .walk) (k : Side) (kind : Kind) :
    takePress l k kind s = pressInWalk l k kind s := by
  unfold takePress; rw [h]

/-! ### The request for a slot (R29, R30, R94, R95) -/

theorem acceptsLeg_bid (s : State) : acceptsLeg s .bid = (s.cfg.isSome && decide (s.mode = .run)) := rfl

/-- In RUN the leg's request is queued, marked where it renews one (R95; log entry 35). -/
theorem requestSlot_run {s : State} (hrun : s.mode = .run) (hcfg : s.cfg.isSome = true) (l : LegId) :
    ∃ e : Entry LegReq, e.kind = .bid ∧ e.stamp = s.clock ∧ e.sending = false ∧
      requestSlot l s = { s with line := { s.line with queue := { s.line.queue with legs := s.line.queue.legs.set l (some e) } } } := by
  have hacc : acceptsLeg s .bid = true := by rw [acceptsLeg_bid, hcfg, hrun]; rfl
  have hqueued : reportEligible l s = { s with line := { s.line with queue := { s.line.queue with
      legs := s.line.queue.legs.set l (some { kind := .bid, stamp := s.clock, sending := false }) } } } := by
    rw [reportEligible_queues (by rw [hrun]; decide), enqueueLeg_line hacc]
  unfold requestSlot
  dsimp only
  rw [hacc, hqueued, Bool.true_and]
  split
  · refine ⟨{ kind := .bid, stamp := s.clock, sending := false, renews := true }, rfl, rfl, rfl, ?_⟩
    simp [markRenewed, updQueue, updLine, Legs.upd]
  · exact ⟨_, rfl, rfl, rfl, rfl⟩

theorem requestSlot_refused {s : State} (hmode : s.mode ≠ .isolated) (h : s.mode ≠ .run ∨ s.cfg = none) (l : LegId) : requestSlot l s = s := by
  have hacc : acceptsLeg s .bid = false := by
    rw [acceptsLeg_bid]
    obtain h | h := h
    · rw [decide_eq_false h, Bool.and_false]
    · rw [h]; rfl
  unfold requestSlot
  dsimp only
  rw [hacc, reportEligible_queues hmode, enqueueLeg_refused hacc]
  rfl

theorem requestSlot_isolated {s : State} (h : s.mode = .isolated) (l : LegId) : requestSlot l s = placeIsolated l s := by
  have hacc : acceptsLeg s .bid = false := by rw [acceptsLeg_bid, h]; exact Bool.and_false _
  unfold requestSlot
  dsimp only
  rw [hacc, reportEligible_isolated h]
  rfl

/-- Settles O11: a press by the leg's state; then the upgrade, the request and the envelope it leads to. -/
theorem pressOutcomes : Obligations.PressOutcomes := by
  unfold Obligations.PressOutcomes
  refine ⟨fun l k kind s => ?_, aidUpgrade_outcomes, fun l s => ⟨fun hrun hcfg => requestSlot_run hrun hcfg l, ?_, ?_⟩,
    fun l k s => ⟨?_, ?_⟩⟩
  · intro r newCall aidCall latched upgraded upgrades st
    have hup : wouldUpgrade s l kind = true ↔ upgrades := wouldUpgrade_iff s l kind
    refine ⟨fun h => takePress_rest h k kind, fun h => ⟨fun hu => ?_, fun hu => ?_⟩, fun h => ⟨fun hu => ?_, fun hu => ?_⟩,
      fun h => ⟨?_, ?_, ?_, ?_⟩, fun h => ⟨fun hc => ?_, fun hu => ?_, fun hc hu => ?_⟩, fun h => takePress_dark h k kind⟩
    · obtain ⟨rfl, -⟩ := id hu
      exact (takePress_called h k .aid).trans (if_pos (hup.mpr hu))
    · exact (takePress_called h k kind).trans (if_neg (mt hup.mp hu))
    · obtain ⟨rfl, -⟩ := id hu
      exact (takePress_service h k .aid).trans (if_pos (hup.mpr hu))
    · exact (takePress_service h k kind).trans (if_neg (mt hup.mp hu))
    · rintro rfl
      exact takePress_walk h k .plain
    · rintro rfl haid
      exact (takePress_walk h k .aid).trans (if_pos haid)
    · rintro rfl haid hc
      refine (takePress_walk h k .aid).trans ((if_neg (Bool.eq_false_iff.mp haid)).trans (if_neg ?_))
      rw [callOf, show (s.calls.get l).call = none from hc]; nofun
    · rintro rfl haid hc
      exact (takePress_walk h k .aid).trans ((if_neg (Bool.eq_false_iff.mp haid)).trans (if_pos (Option.isSome_iff_ne_none.mpr hc)))
    · exact (takePress_later h k kind).trans (if_pos (Option.isNone_iff_eq_none.mpr hc))
    · obtain ⟨rfl, c, hc, -⟩ := id hu
      refine (takePress_later h k .aid).trans ((if_neg ?_).trans (if_pos (hup.mpr hu)))
      rw [callOf, hc]; nofun
    · refine (takePress_later h k kind).trans ((if_neg ?_).trans (if_neg (mt hup.mp hu)))
      exact fun hn => hc (Option.isNone_iff_eq_none.mp hn)
  · exact fun hmode h => requestSlot_refused hmode h l
  · intro c hm hst hc
    rw [requestSlot_isolated hm, placeIsolated_eq hm hst hc]
    refine ⟨?_, rfl, ?_, rfl, ?_⟩
    · exact congrArg SlotRec.slot (Legs.get_set_self ..)
    · exact Legs.get_set_other ..
    · rw [← placeIsolated_eq hm hst hc]
      exact placeIsolated_touches l s
  · exact fun hp => if_neg hp
  · exact fun hp => if_pos hp

end Sys2Proof.Machine
end

section
/-! The completion of an own frame (O23): the BID that becomes the claimed slot, and the entries deferred while it was on the line. -/

namespace Sys2Proof.Machine

/-! ### The frame and its request go (R45) -/

theorem completeFrame_eq (s : State) : completeFrame (later s) = { later s with
    line := { s.line with tx := none, monitor := .idle, collisions := 0, queue := s.line.queue.dropSent } } := rfl

theorem exec_bidCompleted {s : State} {l : LegId} (hr : s.resetHeld = false) (h : bidInFlight s = some l) :
    exec .bidCompleted s = .next (settle (bidReported l (completeFrame (later s)))) := by
  have ho : occurs .bidCompleted s = true := by simp [occurs, h]
  rw [exec_event (c := .bidCompleted) hr rfl rfl ho]
  show Host.Outcome.next (settle (completed (bidInFlight s) bidReported (later s))) = _
  rw [h]; rfl

theorem exec_keepCompleted {s : State} {l : LegId} (hr : s.resetHeld = false) (h : keepInFlight s = some l) :
    exec .keepCompleted s = .next (settle (keepReported l (completeFrame (later s)))) := by
  have ho : occurs .keepCompleted s = true := by simp [occurs, h]
  rw [exec_event (c := .keepCompleted) hr rfl rfl ho]
  show Host.Outcome.next (settle (completed (keepInFlight s) keepReported (later s))) = _
  rw [h]; rfl

theorem exec_cedeCompleted {s : State} {l : LegId} (hr : s.resetHeld = false) (h : cedeInFlight s = some l) :
    exec .cedeCompleted s = .next (settle (cedeReported l (completeFrame (later s)))) := by
  have ho : occurs .cedeCompleted s = true := by simp [occurs, h]
  rw [exec_event (c := .cedeCompleted) hr rfl rfl ho]
  show Host.Outcome.next (settle (completed (cedeInFlight s) cedeReported (later s))) = _
  rw [h]; rfl

/-- The line once the own frame is completed. -/
def lineDone (s : State) : Line := { s.line with tx := none, monitor := .idle, collisions := 0, queue := s.line.queue.dropSent }

/-! ### A BID becomes the claimed slot (R92, R97) -/

/-- The slot's record right after the BID: claimed, its contest running. -/
def SlotRec.claimed (b : Bid) : SlotRec :=
  { slot := some (slotOfBid b .claimed), bid := none, contest := { running := true, count := 5 }, challengers := [], deferred := [] }

/-- The leg and its slot right after the BID, URGENT set for an urgent one. -/
def bidClaimed (l : LegId) (b : Bid) (s : State) : State :=
  { s with
    legs := s.legs.set l { s.legs.get l with state := .claimed }
    slots := s.slots.set l (.claimed b)
    port := if b.urgent then { s.port with flags := s.port.flags ||| flagBit .urgent } else s.port }

/-- The slot made aid where the call is, and the deferred entries taken, in order. -/
def afterBid (l : LegId) (aidCall : Bool) (ds : List Deferred) (s : State) : State :=
  checkOwnChange bandRounds l none (ds.foldl (fun s d => takeDeferred l d s) (if aidCall then aidUpgrade l s else s))

theorem bidReported_called {s : State} {l : LegId} {b : Bid} {c : Call} (hb : (s.slots.get l).bid = some b)
    (hst : legState s l = .called) (hc : callOf s l = some c) :
    bidReported l s = afterBid l (decide (c.kind = .aid)) (s.slots.get l).deferred (bidClaimed l b s) := by
  have hcall : (callOf (bidClaimed l b s) l).any (fun c => decide (c.kind = .aid)) = decide (c.kind = .aid) := by
    rw [show callOf (bidClaimed l b s) l = callOf s l from rfl, hc]; rfl
  have hclaimed : setFlagIf b.urgent .urgent (updLeg l (fun r => { r with state := .claimed }) (updSlot l (fun r =>
      { r with slot := some (slotOfBid b .claimed), contest := .load contestTime, challengers := [] }) (updSlot l SlotRec.dropBid s))) =
      bidClaimed l b s := by
    rw [updSlot_updSlot]
    unfold setFlagIf
    split
    · next hu => simp only [bidClaimed, hu, if_true]; rfl
    · next hu => simp only [bidClaimed, hu]; rfl
  unfold bidReported
  rw [hb]
  dsimp only
  rw [if_pos (show legState (updSlot l SlotRec.dropBid s) l = .called from hst), hclaimed, hcall]
  rfl

theorem bidReported_left {s : State} {l : LegId} {b : Bid} (hb : (s.slots.get l).bid = some b) (hst : legState s l ≠ .called) :
    bidReported l s = enqueueLeg l .cede (updSlot l SlotRec.dropBid s) := by
  unfold bidReported
  rw [hb]
  exact if_neg hst

section
variable (l : LegId) (b : Bid) (s : State)

theorem viewOf_bidClaimed : viewOf (bidClaimed l b s) l = ⟨{ s.legs.get l with state := .claimed }, .claimed b, s.line.queue.legs.get l⟩ ∧
    viewOf (bidClaimed l b s) (otherLeg l) = viewOf s (otherLeg l) := by
  simp [viewOf, bidClaimed]

theorem slotOf_bidClaimed : slotOf (bidClaimed l b s) l = some (slotOfBid b .claimed) ∧
    slotOf (bidClaimed l b s) (otherLeg l) = slotOf s (otherLeg l) :=
  ⟨congrArg (fun v : LegView => v.slot.slot) (viewOf_bidClaimed l b s).1, congrArg (fun v : LegView => v.slot.slot) (viewOf_bidClaimed l b s).2⟩

end

/-! ### With no foreign crossing -/

/-- Without foreign crossings and without a slot of the other leg no band check finds anything. -/
theorem checkOwnChange_alone {s : State} {l : LegId} (htable : s.table = []) (hother : slotOf s (otherLeg l) = none) (n : Nat) :
    checkOwnChange n l none s = s := by
  have hnone : rivals s l none = [] := by
    rw [rivals, foreignSlots, neighbourSlots, htable, otherAid, hother]; rfl
  cases hown : slotOf s l with
  | none => exact checkOwnChange_none hown none n
  | some own => exact checkOwnChange_calm hown none (fun p hp => by rw [hnone] at hp; cases hp) n

theorem aidUpgrade_aid {s : State} {l : LegId} {x : Slot} (h : slotOf s l = some x) (ha : x.aid = true) : aidUpgrade l s = s := by
  unfold aidUpgrade
  rw [h]
  exact if_pos ha

/-- Without foreign crossings and without a slot or a BID of the other leg an upgrade lengthens the slot, in the preferred band. -/
theorem aidUpgrade_alone {s : State} {l : LegId} {x : Slot} (hx : slotOf s l = some x) (ha : x.aid = false) (htable : s.table = [])
    (hother : slotOf s (otherLeg l) = none) (hbid : (s.slots.get (otherLeg l)).bid = none) :
    aidUpgrade l s = announceUpgrade l (updSlot l (SlotRec.holding
      { x with aid := true, endIn := x.endIn + (legConf s l).ext, band := (legConf s l).band }) s) := by
  obtain ⟨hself, huother, -⟩ := upgradeSlot_slots hx
  have hlook : checkOther l (upgradeSlot l s) = upgradeSlot l s := (checkOther_looks hx hbid).trans
    (sameStation_apart fun z y _ hy _ _ => by rw [huother, hother] at hy; cases hy)
  have hempty : exclusionList s l = [] := by
    rw [exclusionList, foreignExcl, htable, ownExcl, hother]; rfl
  have hband (start len : Nat) : aidBand s l start len = (legConf s l).band :=
    aidBand_preferred (by rw [mem_overlappedBands, hempty]; rintro ⟨e, he, -⟩; cases he)
  have hview := (viewOf_announceUpgrade l (upgradeSlot l s)).2
  rw [aidUpgrade_eq hx ha, hlook, hself, if_pos Option.isSome_some, checkOwnChange_alone, upgradeSlot_eq hx, upgradedSlot, hband]
  · rw [announceUpgrade_touches l _ .table (by decide), upgradeSlot_touches l s .table (by decide), htable]
  · exact (congrArg (fun v : LegView => v.slot.slot) hview).trans (huother.trans hother)

/-! ### Entries deferred while the BID was on the line (R97, R107) -/

section
variable {s : State} {l : LegId} {x : Slot} (hx : slotOf s l = some x) (ha : x.aid = true) (htable : s.table = [])
include hx ha htable

/-- A frame deferred is taken against the new slot, and the band check finds nothing. -/
theorem afterBid_frame (hother : slotOf s (otherLeg l) = none) (c : Carried) : afterBid l true [.frame c] s = react l c s := by
  have htable' : (react l c s).table = [] := (react_touches l c s .table (by decide)).trans htable
  have hother' : slotOf (react l c s) (otherLeg l) = none :=
    (congrArg (fun v : LegView => v.slot.slot) (viewOf_react_other l c s)).trans hother
  unfold afterBid
  rw [if_pos rfl, aidUpgrade_aid hx ha]
  exact checkOwnChange_alone htable' hother' _

omit htable in
/-- An upgrade deferred is the same-station check read from the other leg (R112). -/
theorem afterBid_upgrade {y : Slot} (hxs : x.stage = .claimed) (hy : slotOf s (otherLeg l) = some y) (hya : y.aid = true)
    (hc : collideGuard (conf s).guard y x = true) :
    afterBid l true [.upgrade] s = checkOwnChange bandRounds l none (
      if y.stage = .claimed then (if keyLt (ownKey s l x) (ownKey s (otherLeg l) y) then cede (otherLeg l) s else cede l s)
      else if x.urgent then s else cede l s) := by
  have hx' : slotOf s (otherLeg (otherLeg l)) = some x := by rwa [otherLeg_otherLeg]
  have hcheck := sameStation_collides hy hx' hya ha hc
  unfold yieldBetween at hcheck
  rw [if_pos hxs, if_pos hxs, otherLeg_otherLeg] at hcheck
  unfold afterBid
  rw [if_pos rfl, aidUpgrade_aid hx ha]
  exact congrArg (checkOwnChange bandRounds l none) hcheck

end

/-! ### A BID's completion, without an entry deferred -/

/-- The slot of a plain BID made aid, its call having become aid (R97, R111). -/
def lengthenedSlot (l : LegId) (b : Bid) (s : State) : Slot :=
  { slotOfBid b .claimed with aid := true, endIn := b.endIn + (legConf s l).ext, band := (legConf s l).band }

def bidLengthened (l : LegId) (b : Bid) (s : State) : State := updSlot l (SlotRec.holding (lengthenedSlot l b s)) (bidClaimed l b s)

theorem bidLengthened_touches (l : LegId) (b : Bid) : Touches [.legs, .slots, .port] (bidLengthened l b) := by
  intro s p hp
  cases p <;> first | rfl | exact absurd (by decide) hp

section
variable {s : State} {l : LegId} {b : Bid} {c : Call} (hb : (s.slots.get l).bid = some b) (hst : legState s l = .called)
  (hc : callOf s l = some c) (htable : s.table = []) (hother : slotOf s (otherLeg l) = none)
include hb hst hc htable hother

theorem bidReported_plain (hkind : b.aid = true ↔ c.kind = .aid) (hd : (s.slots.get l).deferred = []) :
    bidReported l s = bidClaimed l b s := by
  obtain ⟨hslot, hrest⟩ := slotOf_bidClaimed l b s
  have hup : (if decide (c.kind = .aid) then aidUpgrade l (bidClaimed l b s) else bidClaimed l b s) = bidClaimed l b s := by
    split
    · next h => exact aidUpgrade_aid hslot (hkind.mpr (of_decide_eq_true h))
    · rfl
  rw [bidReported_called hb hst hc, hd, afterBid, List.foldl_nil, hup]
  exact checkOwnChange_alone (s := bidClaimed l b s) htable (hrest.trans hother) _

/-- The call became aid while its plain BID was on the line (R97, R111). -/
theorem bidReported_upgraded (hba : b.aid = false) (hkind : c.kind = .aid) (hd : (s.slots.get l).deferred = [])
    (hbid : (s.slots.get (otherLeg l)).bid = none) :
    bidReported l s = announceUpgrade l (bidLengthened l b s) := by
  obtain ⟨hslot, hrest⟩ := slotOf_bidClaimed l b s
  have hbid' : ((bidClaimed l b s).slots.get (otherLeg l)).bid = none :=
    (congrArg (fun v : LegView => v.slot.bid) (viewOf_bidClaimed l b s).2).trans hbid
  have hup := aidUpgrade_alone (s := bidClaimed l b s) hslot hba htable (hrest.trans hother) hbid'
  rw [bidReported_called hb hst hc, hd, afterBid, List.foldl_nil, if_pos (decide_eq_true hkind), hup]
  refine checkOwnChange_alone ?_ ?_ _
  · exact (announceUpgrade_touches l _ .table (by decide)).trans htable
  · have hview := (viewOf_announceUpgrade l (bidLengthened l b s)).2
    rw [bidLengthened, viewOf_updSlot_other, (viewOf_bidClaimed l b s).2] at hview
    exact (congrArg (fun v : LegView => v.slot.slot) hview).trans hother

end

theorem announceUpgrade_slots (l : LegId) (s : State) : (announceUpgrade l s).slots = s.slots.upd l SlotRec.untell :=
  enqueueLeg_touches l .keep _ .slots (by decide)

theorem bidLengthened_announced (l : LegId) (b : Bid) (s : State) : (announceUpgrade l (bidLengthened l b s)).slots =
    s.slots.set l { SlotRec.claimed b with slot := some (lengthenedSlot l b s) } := by
  rw [announceUpgrade_slots, bidLengthened, updSlot_slots]
  simp [Legs.upd, bidClaimed, SlotRec.claimed, SlotRec.holding, SlotRec.untell]

theorem announceUpgrade_line {s : State} (h : acceptsLeg s .keep = true) (l : LegId) : (announceUpgrade l s).line =
    { s.line with queue := { s.line.queue with
      legs := s.line.queue.legs.set l (some { kind := .keep, stamp := s.clock, sending := false }) } } := by
  have hacc : acceptsLeg (updSlot l SlotRec.untell s) .keep = true := h
  rw [announceUpgrade, enqueueLeg_line hacc]
  rfl

theorem announceUpgrade_refused {s : State} (h : acceptsLeg s .keep = false) (l : LegId) : (announceUpgrade l s).line = s.line := by
  have hacc : acceptsLeg (updSlot l SlotRec.untell s) .keep = false := h
  rw [announceUpgrade, enqueueLeg_refused hacc]
  rfl

/-! ### A BID's completion, an entry deferred -/

theorem inConflict_iff {s : State} {l : LegId} {own : Slot} {c : Carried} (h : slotOf s l = some own) (ha : own.aid = true) :
    inConflict s l c = true ↔ acoustic s c.position c.radius = true ∧ c.slot.aid = true ∧ 0 < c.slot.endIn ∧
      c.slot.startIn < own.endIn + (conf s).guard ∧ own.startIn < c.slot.endIn + (conf s).guard := by
  unfold inConflict
  rw [h]
  dsimp only
  simp only [ha, collideGuard, Bool.and_eq_true, Bool.and_true, decide_eq_true_iff, and_assoc]

theorem react_apart {s : State} {l : LegId} {c : Carried} (h : inConflict s l c = false) : react l c s = s := by
  unfold react
  split
  · rfl
  · exact if_neg (Bool.eq_false_iff.mp h)

theorem isClaim_iff (c : Carried) : isClaim c = true ↔ c.isBid = true ∨ c.slot.stage = .claimed := by
  rw [isClaim, Bool.or_eq_true, decide_eq_true_iff]

/-- A claimed slot yields to a claim of the lower key, and a normal one to a slot past its contest (R102). -/
theorem answerTo_cede_iff {s : State} {l : LegId} {own : Slot} {c : Carried} (hs : own.stage = .claimed) :
    answerTo s l own c = .cede ↔ (isClaim c = true ∧ keyLt (foreignKey c.station c.leg c.slot) (ownKey s l own) = true) ∨
      (isClaim c = false ∧ own.urgent = false) := by
  cases hc : isClaim c with
  | true => rw [answerTo_claim hs hc]; split <;> simp_all
  | false => rw [answerTo_firm hs hc]; split <;> simp_all

theorem answerTo_keep_of {s : State} {l : LegId} {own : Slot} {c : Carried} (hs : own.stage = .claimed) (h : answerTo s l own c ≠ .cede) :
    answerTo s l own c = .keep := by
  cases hans : answerTo s l own c with
  | cede => exact absurd hans h
  | keep => rfl
  | keepDouble => exact absurd hs (answerTo_double.mp hans).1

/-- A station in RUN whose BID for leg l has just become its claimed slot, of an aid call. -/
structure JustClaimed (l : LegId) (b : Bid) (s z : State) : Prop where
  own : viewOf z l = ⟨{ s.legs.get l with state := .claimed }, .claimed b, s.line.queue.dropSent.legs.get l⟩
  other : (viewOf z (otherLeg l)).leg = s.legs.get (otherLeg l) ∧ (viewOf z (otherLeg l)).slot = s.slots.get (otherLeg l)
  table : z.table = []
  cfg : z.cfg = s.cfg
  requested : ∀ k o, Machine.requested z k o = some { kind := k, stamp := s.clock + 1, sending := false }

theorem justClaimed {l : LegId} {b : Bid} {s : State} (htable : s.table = []) (hrun : s.mode = .run) (hcfg : s.cfg.isSome = true) :
    JustClaimed l b s (bidClaimed l b (completeFrame (later s))) := by
  have hacc (k : LegReq) : acceptsLeg (bidClaimed l b (completeFrame (later s))) k = true := by
    refine (acceptsLeg_congr (s := s) (t := bidClaimed l b (completeFrame (later s))) rfl rfl k).trans ?_
    cases k <;> simp [acceptsLeg, acceptsAny, hcfg, hrun]
  obtain ⟨hself, hother⟩ := viewOf_bidClaimed l b (completeFrame (later s))
  refine ⟨hself, ⟨congrArg LegView.leg hother, congrArg LegView.slot hother⟩, htable, rfl, fun k o => if_pos (hacc k)⟩

section
variable {s z t : State} {l : LegId} {b : Bid}

/-- The new slot ceded again (R104). -/
theorem JustClaimed.ceded (h : JustClaimed l b s z) (ht : viewOf t l = (viewOf z l).ceded z) :
    t.slots.get l = (s.slots.get l).dropBid.removeSlot ∧ legState t l = .called ∧
      t.line.queue.legs.get l = some { kind := .cede, stamp := s.clock + 1, sending := false } := by
  rw [h.own, LegView.ceded, h.requested] at ht
  exact ⟨congrArg LegView.slot ht, congrArg (fun v : LegView => v.leg.state) ht, congrArg LegView.request ht⟩

/-- The other leg's slot ceded to the new one (R112). -/
theorem JustClaimed.otherCeded (h : JustClaimed l b s z) (ht : viewOf t (otherLeg l) = (viewOf z (otherLeg l)).ceded z) :
    t.slots.get (otherLeg l) = (s.slots.get (otherLeg l)).removeSlot ∧
    legState t (otherLeg l) = (if legState s (otherLeg l) = .claimed then .called else legState s (otherLeg l)) ∧
    t.line.queue.legs.get (otherLeg l) = some { kind := .cede, stamp := s.clock + 1, sending := false } := by
  rw [LegView.ceded, h.requested, h.other.1, h.other.2] at ht
  refine ⟨congrArg LegView.slot ht, ?_, congrArg LegView.request ht⟩
  refine (congrArg (fun v : LegView => v.leg.state) ht).trans ?_
  show ((s.legs.get (otherLeg l)).ceded).state = _
  rw [LegRec.ceded, show legState s (otherLeg l) = (s.legs.get (otherLeg l)).state from rfl]
  split <;> rfl

end

/-- A slot ceded leaves the band check nothing to look at. -/
theorem checkOwnChange_cede (l : LegId) (caller : Option Carried) (n : Nat) (s : State) :
    checkOwnChange n l caller (cede l s) = cede l s :=
  checkOwnChange_none (congrArg (fun v : LegView => v.slot.slot) (viewOf_cede l s).1) caller n

/-- Nor, without foreign crossings, does the other leg's slot ceded. -/
theorem checkOwnChange_cede_other {s : State} (htable : s.table = []) (l : LegId) (n : Nat) :
    checkOwnChange n l none (cede (otherLeg l) s) = cede (otherLeg l) s :=
  checkOwnChange_alone ((cede_touches _ s .table (by decide)).trans htable)
    (congrArg (fun v : LegView => v.slot.slot) (viewOf_cede (otherLeg l) s).1) n

/-- Settles O23: each frame's completion; for a BID, what becomes of the new slot by the entries deferred. -/
theorem ownFramesComplete : Obligations.OwnFramesComplete := by
  unfold Obligations.OwnFramesComplete
  intro s hr done
  refine ⟨fun h => ?_, fun l h => exec_keepCompleted hr h, fun l h => ⟨fun hst => ?_, fun hst => ?_⟩, fun l b h hb => ⟨?_, ?_, ?_, ?_⟩⟩
  · exact exec_event (c := .ownFrameCompleted) hr rfl rfl h
  · rw [exec_cedeCompleted hr h, cedeReported, if_neg (show ¬legState (completeFrame (later s)) l = .called from hst)]; rfl
  · rw [exec_cedeCompleted hr h, cedeReported, if_pos (show legState (completeFrame (later s)) l = .called from hst)]; rfl
  · intro hst r
    rw [exec_bidCompleted hr h, bidReported_left (s := completeFrame (later s)) hb hst]; rfl
  · intro c hst hc hkind hd htable hother
    have hexec := exec_bidCompleted hr h
    refine ⟨_, hexec, ?_, ?_, ?_, ?_, exec_changes (c := .bidCompleted) hexec rfl⟩
    all_goals rw [bidReported_plain (s := completeFrame (later s)) hb hst hc htable hother hkind hd]
    · rw [settle_slots]; rfl
    · rw [settle_legs]; rfl
    · rw [settle_line]; rfl
    · rw [settle_port]; rfl
  · intro c hst hc hba hkind hd htable hother hbid
    have hexec := exec_bidCompleted hr h
    have hend := bidReported_upgraded (s := completeFrame (later s)) hb hst hc htable hother hba hkind hd hbid
    refine ⟨_, hexec, ?_, ?_, ?_, ?_, ?_, exec_changes (c := .bidCompleted) hexec rfl⟩
    all_goals rw [hend]
    · rw [settle_slots, bidLengthened_announced]; rfl
    · rw [settle_legs, announceUpgrade_touches l _ .legs (by decide)]; rfl
    · intro hrun hcfg
      have hacc : acceptsLeg s .keep = true := by
        show (s.cfg.isSome && decide (s.mode = .run)) = true
        rw [hcfg, hrun]; rfl
      rw [settle_line, announceUpgrade_line (s := bidLengthened l b (completeFrame (later s))) hacc]; rfl
    · intro hrun
      have hacc : acceptsLeg s .keep = false := by
        show (s.cfg.isSome && decide (s.mode = .run)) = false
        rw [decide_eq_false hrun, Bool.and_false]
      rw [settle_line, announceUpgrade_refused (s := bidLengthened l b (completeFrame (later s))) hacc]; rfl
    · rw [settle_port, announceUpgrade_touches l _ .port (by decide)]; rfl
  · intro call hst hc hkind hba htable hrun hcfg o x queued ceded
    let z := bidClaimed l b (completeFrame (later s))
    have hz : JustClaimed l b s z := justClaimed htable hrun hcfg
    have hx : slotOfBid b .claimed = x := by rw [slotOfBid, hba]
    have hclaimed : SlotRec.claimed b = ⟨some x, none, { running := true, count := 5 }, [], []⟩ := by rw [SlotRec.claimed, hx]
    have hslot : slotOf z l = some x := (congrArg (fun v : LegView => v.slot.slot) hz.own).trans (congrArg some hx)
    have hxa : x.aid = true := rfl
    have hreported : bidReported l (completeFrame (later s)) = afterBid l true (s.slots.get l).deferred z := by
      rw [bidReported_called (s := completeFrame (later s)) hb hst hc, decide_eq_true hkind]; rfl
    have hother : slotOf z o = slotOf s o := congrArg SlotRec.slot hz.other.2
    have hkey : ownKey z = ownKey s := ownKey_congr hz.cfg
    have hcededSelf {t : State} (ht : viewOf t l = (viewOf z l).ceded z) : ceded t l .called := by
      obtain ⟨hrec, hleg, hreq⟩ := hz.ceded ht
      refine ⟨?_, hleg, hreq⟩
      rw [hrec, if_pos rfl, if_pos rfl]; rfl
    have hcededOther {t : State} (ht : viewOf t o = (viewOf z o).ceded z) :
        ceded t o (if legState s o = .claimed then .called else legState s o) := by
      obtain ⟨hrec, hleg, hreq⟩ := hz.otherCeded ht
      have hne : o ≠ l := show otherLeg l ≠ l by cases l <;> decide
      refine ⟨?_, hleg, hreq⟩
      rw [hrec, if_neg hne, if_neg hne]; rfl
    have hexec := exec_bidCompleted hr h
    rw [hreported] at hexec
    refine ⟨fun c hd hnone => ?_, fun y hd hy hya h1 h2 => ?_⟩
    · rw [hd, afterBid_frame hslot hxa hz.table (hother.trans hnone)] at hexec
      refine ⟨_, hexec, ?_⟩
      intro hit claim yields stands
      have hhit : inConflict z l c = true ↔ hit := inConflict_iff hslot hxa
      have hyields : answerTo z l x c = .cede ↔ yields := by
        rw [answerTo_cede_iff rfl, hkey, ← Bool.not_eq_true, isClaim_iff]
      refine ⟨fun hno => ?_, fun hyes hyield => ?_, fun hyes hkeep => ?_⟩
      · have hapart : react l c z = z := react_apart (Bool.eq_false_iff.mpr (mt hhit.mp hno))
        have hview : viewOf (settle (react l c z)) l = viewOf z l := by rw [viewOf_settle, hapart]
        rw [hz.own, hclaimed] at hview
        refine ⟨⟨congrArg (fun v : LegView => v.leg.state) hview, congrArg LegView.slot hview⟩, ?_⟩
        rw [settle_line, hapart]; rfl
      · refine hcededSelf ?_
        rw [viewOf_settle, react_cede hslot (hhit.mpr hyes) (hyields.mpr hyield)]
        exact (viewOf_cede l z).1
      · have hans : answerTo z l x c = .keep := answerTo_keep_of rfl (mt hyields.mp hkeep)
        have htold : alreadyTold (SlotRec.claimed b) c = false := Bool.and_false _
        have hview : viewOf (settle (react l c z)) l = (viewOf z l).answered z c := by
          rw [viewOf_settle, react_keep hslot (hhit.mpr hyes) hans, (viewOf_answerKeep l c z).1]
        rw [hz.own, LegView.answered, htold, hz.requested, hclaimed] at hview
        exact ⟨⟨congrArg (fun v : LegView => v.leg.state) hview, congrArg LegView.slot hview⟩, congrArg LegView.request hview⟩
    · have hcollide : collideGuard (conf z).guard y x = true := by
        rw [collideGuard, Bool.and_eq_true, decide_eq_true_iff, decide_eq_true_iff]; exact ⟨h2, h1⟩
      rw [hd, afterBid_upgrade hslot hxa rfl (hother.trans hy) hya hcollide, hkey] at hexec
      generalize hw : (if y.stage = .claimed then (if keyLt (ownKey s l x) (ownKey s (otherLeg l) y) then cede (otherLeg l) z else cede l z)
        else if x.urgent then z else cede l z) = w at hexec
      refine ⟨_, hexec, ?_⟩
      intro oState stands otherStands
      have hownLeg : legState z l = .claimed := congrArg (fun v : LegView => v.leg.state) hz.own
      have hotherLeg : legState z o = legState s o := congrArg LegRec.state hz.other.1
      have hself (hcede : w = cede l z) : ceded (settle (checkOwnChange bandRounds l none w)) l .called ∧ otherStands := by
        obtain ⟨hview, hrest⟩ := viewOf_cede l z
        have ho : viewOf (settle (cede l z)) o = viewOf z o := (viewOf_settle _ o).trans hrest
        subst hcede
        simp only [otherStands, checkOwnChange_cede]
        exact ⟨hcededSelf ((viewOf_settle _ l).trans hview),
          ⟨y.band, (congrArg (fun v : LegView => v.slot.slot) ho).trans (hother.trans hy)⟩,
          (congrArg (fun v : LegView => v.leg.state) ho).trans hotherLeg⟩
      have hyields (hcede : w = cede o z) : stands ∧ ceded (settle (checkOwnChange bandRounds l none w)) o oState := by
        obtain ⟨hview, hrest⟩ := viewOf_cede o z
        have hl : viewOf (settle (cede o z)) l = viewOf z l := by
          rw [viewOf_settle, ← otherLeg_otherLeg l]; exact hrest
        subst hcede
        simp only [stands, o, checkOwnChange_cede_other hz.table]
        exact ⟨⟨x.band, (congrArg (fun v : LegView => v.slot.slot) hl).trans hslot, (congrArg (fun v : LegView => v.leg.state) hl).trans hownLeg⟩,
          hcededOther ((viewOf_settle _ o).trans hview)⟩
      have hboth (hsame : w = z) : stands ∧ otherStands := by
        have hcheck : BandCheck l x none z (checkOwnChange bandRounds l none w) := hsame ▸ checkOwnChange_ends hslot hxa none
        obtain ⟨⟨band, hband⟩, hleg⟩ := hcheck.keeps hslot
        obtain ⟨hoBand, hoLeg⟩ := hcheck.keeps (hother.trans hy)
        simp only [stands, otherStands, slotOf_settle, legState_settle]
        exact ⟨⟨band, hband, hleg.trans hownLeg⟩, hoBand, hoLeg.trans hotherLeg⟩
      refine ⟨fun hys hlt => hself ?_, fun hys hlt => hyields ?_, fun hys hu => hself ?_, fun hys hu => hboth ?_⟩
      · rw [← hw, if_pos hys, if_neg (Bool.eq_false_iff.mp (keyLt_asymm hlt))]
      · rw [← hw, if_pos hys, if_pos (keyLt_of_not_lt (show otherLeg l ≠ l by cases l <;> decide) hlt)]
      · rw [← hw, if_neg hys, if_neg (Bool.eq_false_iff.mp hu)]
      · rw [← hw, if_neg hys, if_pos hu]

end Sys2Proof.Machine
end

section
/-! The Crossing Table as what is found for each crossing: after a record is put, removed, or moved with its station (R60 to R65). -/

namespace Sys2Proof.Machine

abbrev InOrder (t : List Crossing) : Prop := t.Pairwise (fun a b => crossingKey a < crossingKey b)

/-! ### One record -/

section
variable {t : List Crossing} (ht : InOrder t)
include ht

theorem findCrossing_put (c : Crossing) : findCrossing (putCrossing c t) c.station c.leg = some c :=
  (findCrossing_eq_some (putCrossing_pairwise ht)).mpr ⟨(mem_putCrossing ht).mpr (.inl rfl), rfl, rfl⟩

theorem findCrossing_put_other {c : Crossing} {st : Nat} {l : LegId} (h : ¬(c.station = st ∧ c.leg = l)) :
    findCrossing (putCrossing c t) st l = findCrossing t st l := by
  refine Option.ext fun d => ?_
  rw [findCrossing_eq_some (putCrossing_pairwise ht), findCrossing_eq_some ht, mem_putCrossing ht]
  constructor
  · rintro ⟨rfl | ⟨hd, -⟩, hst, hl⟩
    · exact absurd ⟨hst, hl⟩ h
    · exact ⟨hd, hst, hl⟩
  · rintro ⟨hd, hst, hl⟩
    exact ⟨.inr ⟨hd, fun hk => h ⟨(crossingKey_eq.mp hk).1.symm.trans hst, (crossingKey_eq.mp hk).2.symm.trans hl⟩⟩, hst, hl⟩

theorem putCrossing_length_of_new {c : Crossing} (h : findCrossing t c.station c.leg = none) :
    (putCrossing c t).length = t.length + 1 := by
  induction t with
  | nil => rfl
  | cons d ds ih =>
    obtain ⟨-, hds⟩ := List.pairwise_cons.mp ht
    have hnone := findCrossing_eq_none.mp h
    have hne : crossingKey c ≠ crossingKey d := fun hk =>
      hnone d (List.mem_cons_self ..) ⟨(crossingKey_eq.mp hk).1.symm, (crossingKey_eq.mp hk).2.symm⟩
    have hrest : findCrossing ds c.station c.leg = none :=
      findCrossing_eq_none.mpr fun e he => hnone e (List.mem_cons_of_mem _ he)
    rw [putCrossing, if_neg hne]
    split
    · rfl
    · rw [List.length_cons, ih hds hrest, List.length_cons]

end

theorem findCrossing_map {t : List Crossing} {f : Crossing → Crossing} (hf : ∀ c, (f c).station = c.station ∧ (f c).leg = c.leg)
    (st : Nat) (l : LegId) : findCrossing (t.map f) st l = (findCrossing t st l).map f := by
  rw [findCrossing, List.find?_map, findCrossing]
  refine congrArg (Option.map f) (congrArg (fun p => List.find? p t) (funext fun c => ?_))
  obtain ⟨hst, hl⟩ := hf c
  rw [Function.comp_apply, hst, hl]

theorem findCrossing_filter {t : List Crossing} (ht : InOrder t) (p : Crossing → Bool) (st : Nat) (l : LegId) :
    findCrossing (t.filter p) st l = (findCrossing t st l).filter p := by
  refine Option.ext fun d => ?_
  rw [findCrossing_eq_some (ht.filter p), Option.filter_eq_some_iff, findCrossing_eq_some ht, List.mem_filter]
  constructor
  · rintro ⟨⟨hd, hp⟩, hst, hl⟩; exact ⟨⟨hd, hst, hl⟩, hp⟩
  · rintro ⟨⟨hd, hst, hl⟩, hp⟩; exact ⟨⟨hd, hp⟩, hst, hl⟩

/-- One record removed. -/
theorem findCrossing_removeCrossing {s : State} (ht : InOrder s.table) (n st : Nat) (m l : LegId) :
    findCrossing (removeCrossing n m s).table st l = if st = n ∧ l = m then none else findCrossing s.table st l := by
  show findCrossing (s.table.filter _) st l = _
  rw [findCrossing_filter ht]
  cases hfind : findCrossing s.table st l with
  | none => rw [ite_self]; rfl
  | some c =>
    obtain ⟨-, rfl, rfl⟩ := (findCrossing_eq_some ht).mp hfind
    rw [Option.filter_some]
    by_cases h : c.station = n ∧ c.leg = m
    · rw [if_pos h, if_neg (by simp [h])]
    · rw [if_neg h, if_pos (by simpa [Classical.or_iff_not_imp_left] using h)]

theorem hasRecord_of_find {t : List Crossing} (ht : InOrder t) {st : Nat} {l : LegId} {c : Crossing} (h : findCrossing t st l = some c) :
    hasRecord t st = true := by
  obtain ⟨hm, hst, -⟩ := (findCrossing_eq_some ht).mp h
  exact hasRecord_iff.mpr ⟨c, hm, hst⟩

/-! ### The sender heard (R71) -/

theorem find_putHeard (h : HeardCount) (hs : List HeardCount) :
    (putHeard h hs).find? (fun d => decide (d.station = h.station)) = some h := by
  induction hs with
  | nil => simp [putHeard]
  | cons d ds ih =>
    unfold putHeard
    split
    · simp
    · next hlt =>
      split
      · simp
      · next hne => rw [List.find?_cons_of_neg (by simpa using Ne.symm hne), ih]

theorem heardOf_hearSender {s : State} {st : Nat} (h : hasRecord s.table st = true) : heardOf (hearSender st s) st = 45 := by
  have hheard : (hearSender st s).heard = putHeard { station := st, left := 45 } s.heard := if_pos h
  rw [heardOf, hheard, find_putHeard { station := st, left := 45 } s.heard]

/-! ### A crossing's phase and slot set (R65 to R67) -/

/-- The records of a station stand where its frame says. -/
def StandsAt (st position radius : Nat) (t : List Crossing) : Prop := ∀ c ∈ t, c.station = st → c.position = position ∧ c.radius = radius

/-- What setting a crossing's phase and slot leaves, where there is room for its record. -/
structure CrossingSet (st : Nat) (l : LegId) (c : Crossing) (s t : State) : Prop where
  found : findCrossing t.table st l = some c
  others : ∀ n m, ¬(st = n ∧ l = m) → findCrossing t.table n m = findCrossing s.table n m
  ordered : InOrder t.table
  length : t.table.length ≤ s.table.length + 1
  members : ∀ d ∈ t.table, d = c ∨ d ∈ s.table

theorem crossingSet_put {s t : State} (ht : InOrder s.table) (c : Crossing) (htable : t.table = putCrossing c s.table) :
    CrossingSet c.station c.leg c s t := by
  refine ⟨by rw [htable]; exact findCrossing_put ht c, fun n m h => by rw [htable]; exact findCrossing_put_other ht h,
    by rw [htable]; exact putCrossing_pairwise ht, by rw [htable]; exact putCrossing_length c s.table, fun d hd => ?_⟩
  rw [htable] at hd
  exact ((mem_putCrossing ht).mp hd).imp_right And.left

theorem setCrossing_set {s : State} {st position radius : Nat} (ht : InOrder s.table) (hroom : s.table.length < tableCapacity)
    (hat : StandsAt st position radius s.table) (l : LegId) (phase : Option LegState → LegState) (slot : Option Slot) :
    CrossingSet st l ⟨st, l, position, radius, phase ((findCrossing s.table st l).map Crossing.phase), slot⟩ s
      (setCrossing st l position radius phase slot s) := by
  unfold setCrossing
  cases hfind : findCrossing s.table st l with
  | none =>
    refine crossingSet_put ht { station := st, leg := l, position := position, radius := radius, phase := phase none, slot := slot } ?_
    dsimp only
    rw [makeRecord, if_pos hroom]
  | some c =>
    obtain ⟨hm, hst, hl⟩ := (findCrossing_eq_some ht).mp hfind
    obtain ⟨hp, hr⟩ := hat c hm hst
    have hrec : ({ c with phase := phase (some c.phase), slot := slot } : Crossing) =
        { station := st, leg := l, position := position, radius := radius, phase := phase (some c.phase), slot := slot } := by
      rw [hst, hl, hp, hr]
    refine crossingSet_put ht { station := st, leg := l, position := position, radius := radius, phase := phase (some c.phase), slot := slot } ?_
    dsimp only
    rw [hrec]

/-- A sender in reach: its records move with it (R63 step 1). -/
def placedAt (st position radius : Nat) (s : State) : State :=
  { s with table := s.table.map (fun c => if c.station = st then { c with position := position, radius := radius } else c) }

theorem takePlaced_near {s : State} {st position radius : Nat} (h : relevant s position radius = true) (f : State → State) :
    takePlaced st position radius f s = hearSender st (f (placedAt st position radius s)) := by
  unfold takePlaced placeSender
  rw [if_pos h]
  rfl

theorem takePlaced_far {s : State} {st position radius : Nat} (h : relevant s position radius = false) (f : State → State) :
    takePlaced st position radius f s = removeStation st s := by
  unfold takePlaced placeSender
  rw [if_neg (Bool.eq_false_iff.mp h)]

section
variable (st position radius : Nat) (s : State)

theorem moved_keeps (c : Crossing) :
    (if c.station = st then { c with position := position, radius := radius } else c).station = c.station ∧
      (if c.station = st then { c with position := position, radius := radius } else c).leg = c.leg := by
  split <;> exact ⟨rfl, rfl⟩

theorem findCrossing_placedAt (n : Nat) (l : LegId) : findCrossing (placedAt st position radius s).table n l =
    (findCrossing s.table n l).map fun c => if c.station = st then { c with position := position, radius := radius } else c :=
  findCrossing_map (moved_keeps st position radius) n l

theorem placedAt_standsAt : StandsAt st position radius (placedAt st position radius s).table := by
  intro c hc hst
  obtain ⟨d, -, rfl⟩ := List.mem_map.mp hc
  rw [(moved_keeps st position radius d).1] at hst
  rw [if_pos hst]
  exact ⟨rfl, rfl⟩

theorem placedAt_length : (placedAt st position radius s).table.length = s.table.length := List.length_map _

variable {s} in
theorem placedAt_ordered (ht : InOrder s.table) : InOrder (placedAt st position radius s).table := by
  have hkey (c : Crossing) : crossingKey (if c.station = st then { c with position := position, radius := radius } else c) = crossingKey c :=
    crossingKey_eq.mpr (moved_keeps st position radius c)
  simp only [InOrder, placedAt, List.pairwise_map, hkey]
  exact ht

variable {s} in
/-- Another station's records stay where they are. -/
theorem findCrossing_placedAt_other {n : Nat} (ht : InOrder s.table) (h : n ≠ st) (l : LegId) :
    findCrossing (placedAt st position radius s).table n l = findCrossing s.table n l := by
  rw [findCrossing_placedAt]
  cases hfind : findCrossing s.table n l with
  | none => rfl
  | some c =>
    obtain ⟨-, hst, -⟩ := (findCrossing_eq_some ht).mp hfind
    rw [Option.map_some, if_neg (by rw [hst]; exact h)]

end

end Sys2Proof.Machine
end

section
/-! Frames of neighbours at the Crossing Table, with room and without (O28). -/

namespace Sys2Proof.Machine

/-! ### What a frame carries -/

theorem blockPhase_code : ∀ g : BitVec 4, (phaseOf g.toNat).getD .start =
    [LegState.start, .rest, .called, .claimed, .committed, .amber, .allRedIn, .walk, .clearance, .allRedOut, .held, .flash].getD
      g.toNat .start := by decide

/-- The slot of a stage code (R65 to R67). -/
theorem carriedSlot_code (stage : BitVec 2) (startIn endIn : BitVec 12) (aid : Bool) (band : BitVec 3) (urgent : Bool) (rank : BitVec 5) :
    carriedSlot startIn endIn aid band urgent rank (stageOf stage.toNat) =
      if stage.toNat = 0 ∨ endIn.toNat = 0 then none
      else some { startIn := startIn.toNat, endIn := endIn.toNat, aid := aid, band := band.toNat, urgent := urgent, rank := rank.toNat,
                  stage := if stage.toNat = 1 then .claimed else if stage.toNat = 2 then .committed else .running } := by
  have hlt := stage.isLt
  unfold carriedSlot
  obtain h | h | h | h : stage.toNat = 0 ∨ stage.toNat = 1 ∨ stage.toNat = 2 ∨ stage.toNat = 3 := by omega
  all_goals simp [h, stageOf]

theorem bidSlot_code (f : BidFrame) : bidSlot f =
    if 1 = 0 ∨ f.endIn.toNat = 0 then none
    else some { startIn := f.startIn.toNat, endIn := f.endIn.toNat, aid := f.aid, band := f.band.toNat, urgent := f.urgent,
                rank := f.rank.toNat, stage := if 1 = 1 then .claimed else if 1 = 2 then .committed else .running } := by
  unfold bidSlot carriedSlot
  simp

/-- A slot can stand in the phase (R67). -/
def holdsSlot : LegState → Bool
  | .claimed | .committed | .amber | .allRedIn | .walk | .clearance => true
  | _ => false

/-- The phase that a KEEP leaves (R67): kept where a slot can stand in it, otherwise that of the stage carried. -/
theorem keepPhase_code {g : BitVec 2} (hg : g ≠ 0#2) (before : Option LegState) : keepPhase g.toNat before =
    (before.filter holdsSlot).getD (if g = 1#2 then .claimed else if g = 2#2 then .committed else .walk) := by
  revert g
  cases before with
  | none => decide
  | some st => cases st <;> decide

/-! ### A frame on its way to the table -/

/-- A station's frame at the Crossing Table: the state that the other two blocks leave has the table and the configuration as before. -/
structure AtTable (f : Frame) (s u : State) : Prop where
  table : u.table = s.table
  heard : u.heard = s.heard
  cfg : u.cfg = s.cfg

theorem atTable (f : Frame) (s : State) : AtTable f s (blocksTake f (frameEnded s)) := by
  have h := blocksTake_touches f (frameEnded s)
  exact ⟨h .table (by decide), h .heard (by decide), h .cfg (by decide)⟩

theorem exec_frame {c : Instr} {f : Frame} {s : State} (hl : listening s) (hok : frameOk f = true) (hother : frameStation f ≠ (conf s).station)
    (hexec : exec c s = .next (settle (takeFrame f (later s)))) :
    exec c s = .next (settle (tableTakes f (blocksTake f (frameEnded s)))) := by
  rw [hexec, takeFrame_dispatched hl hok hother]

/-- A sender is in reach within the largest of Ra, Dc and the radius it carries (R61). -/
theorem relevant_iff {s u : State} (hcfg : u.cfg = s.cfg) (position radius : Nat) : relevant u position radius = true ↔
    (position - (conf s).position) + ((conf s).position - position) ≤ max (max (conf s).radius (conf s).coupling) radius := by
  rw [relevant, decide_eq_true_iff, distanceTo, distance, conf_congr hcfg]

/-- One crossing of a sender in reach, set with room in the table. -/
theorem crossing_taken {s u : State} {st position radius : Nat} (htable : u.table = s.table) (ht : InOrder s.table)
    (hroom : s.table.length < tableCapacity) (hnear : relevant u position radius = true) (l : LegId)
    (phase : Option LegState → LegState) (slot : Option Slot) :
    let t := settle (takePlaced st position radius (setCrossing st l position radius phase slot) u)
    findCrossing t.table st l =
        some ⟨st, l, position, radius, phase ((findCrossing s.table st l).map Crossing.phase), slot⟩ ∧ heardOf t st = 45 := by
  intro t
  have hord : InOrder (placedAt st position radius u).table := placedAt_ordered _ _ _ (by rw [htable]; exact ht)
  have hset := setCrossing_set hord (by rw [placedAt_length, htable]; exact hroom) (placedAt_standsAt st position radius u) l phase slot
  have hbefore : (findCrossing (placedAt st position radius u).table st l).map Crossing.phase =
      (findCrossing s.table st l).map Crossing.phase := by
    rw [findCrossing_placedAt, htable, Option.map_map]
    refine congrArg (fun g => Option.map g _) (funext fun c => ?_)
    rw [Function.comp_apply]
    split <;> rfl
  have htaken : t = settle (hearSender st (setCrossing st l position radius phase slot (placedAt st position radius u))) :=
    congrArg settle (takePlaced_near hnear _)
  rw [htaken]
  refine ⟨?_, ?_⟩
  · rw [settle_table, ← hbefore]; exact hset.found
  · rw [heardOf, settle_heard]
    exact heardOf_hearSender (hasRecord_of_find hset.ordered hset.found)

/-- The record of a leg block (R65). -/
def blockRecord (f : BeaconFrame) (l : LegId) (b : LegBlock) : Crossing :=
  ⟨f.station.toNat, l, f.position.toNat, f.radius.toNat, blockPhase b, blockSlot b⟩

/-- The crossings of a BEACON from a sender in reach, with room in the table (R65). -/
theorem takeBeacon_found {v : State} (f : BeaconFrame) (ht : InOrder v.table) (hroom : v.table.length + 2 ≤ tableCapacity)
    (hat : StandsAt f.station.toNat f.position.toNat f.radius.toNat v.table) :
    InOrder (takeBeacon f v).table ∧
      findCrossing (takeBeacon f v).table f.station.toNat .leg0 = some (blockRecord f .leg0 f.block0) ∧
      findCrossing (takeBeacon f v).table f.station.toNat .leg1 = f.block1.map (blockRecord f .leg1) ∧
      ∀ n l, n ≠ f.station.toNat → findCrossing (takeBeacon f v).table n l = findCrossing v.table n l := by
  have h0 := setCrossing_set ht (by omega) hat .leg0 (fun _ => blockPhase f.block0) (blockSlot f.block0)
  have hat1 : StandsAt f.station.toNat f.position.toNat f.radius.toNat
      (setCrossing f.station.toNat .leg0 f.position.toNat f.radius.toNat (fun _ => blockPhase f.block0) (blockSlot f.block0) v).table := by
    intro c hc hst
    obtain rfl | hc := h0.members c hc
    · exact ⟨rfl, rfl⟩
    · exact hat c hc hst
  have hlen := h0.length
  unfold takeBeacon
  extract_lets put s1
  cases hb : f.block1 with
  | some b =>
    have h1 := setCrossing_set h0.ordered (by omega) hat1 .leg1 (fun _ => blockPhase b) (blockSlot b)
    refine ⟨h1.ordered, (h1.others _ _ (by rintro ⟨-, h⟩; cases h)).trans h0.found, h1.found, fun n l hn => ?_⟩
    exact (h1.others n l (fun h => hn h.1.symm)).trans (h0.others n l (fun h => hn h.1.symm))
  | none =>
    have hremove := findCrossing_removeCrossing (s := s1) h0.ordered f.station.toNat
    refine ⟨h0.ordered.filter _, ?_, ?_, fun n l hn => ?_⟩
    · exact (hremove f.station.toNat .leg1 .leg0).trans ((if_neg (by rintro ⟨-, h⟩; cases h)).trans h0.found)
    · exact (hremove f.station.toNat .leg1 .leg1).trans (if_pos ⟨rfl, rfl⟩)
    · exact (hremove n .leg1 l).trans ((if_neg (fun h => hn h.1)).trans (h0.others n l (fun h => hn h.1.symm)))

theorem takeCede_find {u : State} (f : CedeFrame) (ht : InOrder u.table) :
    findCrossing (takeCede f u).table f.station.toNat f.leg =
        (findCrossing u.table f.station.toNat f.leg).map (fun c => { c with slot := none }) ∧
      (hasRecord u.table f.station.toNat = true → hasRecord (takeCede f u).table f.station.toNat = true) := by
  unfold takeCede
  cases hfind : findCrossing u.table f.station.toNat f.leg with
  | none => exact ⟨hfind, id⟩
  | some c =>
    obtain ⟨-, hst, hl⟩ := (findCrossing_eq_some ht).mp hfind
    have hput : findCrossing (putCrossing { c with slot := none } u.table) f.station.toNat f.leg = some { c with slot := none } := by
      rw [← hst, ← hl]
      exact findCrossing_put ht { c with slot := none }
    exact ⟨hput, fun _ => hasRecord_of_find (putCrossing_pairwise ht) hput⟩

/-! ### A full table (R64) -/

/-- Of two records the first is no farther than the second, nor after it where they are equally far. -/
def NoFarther (s : State) (c d : Crossing) : Prop :=
  distanceTo s c.position < distanceTo s d.position ∨
    (distanceTo s c.position = distanceTo s d.position ∧ crossingKey c ≤ crossingKey d)

theorem NoFarther.trans {s : State} {a b c : Crossing} (h : NoFarther s a b) (h' : NoFarther s b c) : NoFarther s a c := by
  unfold NoFarther at *; omega

/-- The farther of two records, the later of two equally far. -/
def farther (s : State) (b c : Crossing) : Crossing := if distanceTo s b.position ≤ distanceTo s c.position then c else b

theorem farthest_cons {s : State} {c : Crossing} {cs : List Crossing} (h : s.table = c :: cs) :
    farthest s = some (cs.foldl (farther s) c) := by
  have hfold (ds : List Crossing) (b : Crossing) : ds.foldl (fun best c =>
      match best with
      | none => some c
      | some b => if distanceTo s b.position ≤ distanceTo s c.position then some c else some b) (some b) =
      some (ds.foldl (farther s) b) := by
    induction ds generalizing b with
    | nil => rfl
    | cons d ds ih =>
      rw [List.foldl_cons, List.foldl_cons, ← ih]
      dsimp only [farther]
      split <;> rfl
  rw [farthest, h, List.foldl_cons]
  exact hfold cs c

/-- In an ordered list the fold ends at a record that none is farther than, the last of those equally far. -/
theorem foldl_farther (s : State) (cs : List Crossing) {b : Crossing} (ho : InOrder (b :: cs)) :
    cs.foldl (farther s) b ∈ b :: cs ∧ ∀ c ∈ b :: cs, NoFarther s c (cs.foldl (farther s) b) := by
  induction cs generalizing b with
  | nil => exact ⟨List.mem_cons_self .., fun c hc => by rw [List.mem_singleton.mp hc]; exact .inr ⟨rfl, Nat.le_refl _⟩⟩
  | cons d ds ih =>
    obtain ⟨hb, hds⟩ := List.pairwise_cons.mp ho
    have hkey := hb d (List.mem_cons_self ..)
    rw [List.foldl_cons]
    by_cases hd : distanceTo s b.position ≤ distanceTo s d.position
    · obtain ⟨hmem, hall⟩ := ih hds
      rw [show farther s b d = d from if_pos hd]
      refine ⟨List.mem_cons_of_mem _ hmem, fun c hc => ?_⟩
      obtain rfl | hc := List.mem_cons.mp hc
      · exact NoFarther.trans (by unfold NoFarther; omega) (hall d (List.mem_cons_self ..))
      · exact hall c hc
    · have hobd : InOrder (b :: ds) :=
        List.pairwise_cons.mpr ⟨fun c hc => hb c (List.mem_cons_of_mem _ hc), (List.pairwise_cons.mp hds).2⟩
      obtain ⟨hmem, hall⟩ := ih hobd
      rw [show farther s b d = b from if_neg hd]
      refine ⟨?_, fun c hc => ?_⟩
      · obtain h | h := List.mem_cons.mp hmem
        · rw [h]; exact List.mem_cons_self ..
        · exact List.mem_cons_of_mem _ (List.mem_cons_of_mem _ h)
      · obtain rfl | hc := List.mem_cons.mp hc
        · exact hall c (List.mem_cons_self ..)
        · obtain rfl | hc := List.mem_cons.mp hc
          · exact NoFarther.trans (by unfold NoFarther; omega) (hall b (List.mem_cons_self ..))
          · exact hall c (List.mem_cons_of_mem _ hc)

theorem eq_of_key {t : List Crossing} (ht : InOrder t) {c d : Crossing} (hc : c ∈ t) (hd : d ∈ t) (hk : crossingKey c = crossingKey d) :
    c = d := by
  obtain ⟨hst, hl⟩ := crossingKey_eq.mp hk
  have h := (findCrossing_eq_some ht).mpr ⟨hc, hst, hl⟩
  rw [(findCrossing_eq_some ht).mpr ⟨hd, rfl, rfl⟩] at h
  exact (Option.some.inj h).symm

/-- The farthest record is the one that none is farther than (R64). -/
theorem farthest_eq {s : State} (ht : InOrder s.table) {far : Crossing} (hm : far ∈ s.table) (hfar : ∀ c ∈ s.table, NoFarther s c far) :
    farthest s = some far := by
  cases htable : s.table with
  | nil => rw [htable] at hm; cases hm
  | cons b cs =>
    rw [htable] at ht hm hfar
    obtain ⟨hmem, hall⟩ := foldl_farther s cs ht
    have h1 := hall far hm
    have h2 := hfar _ hmem
    rw [farthest_cons htable]
    refine congrArg some (eq_of_key ht hmem hm ?_)
    unfold NoFarther at h1 h2
    omega

theorem removeCrossing_length_eq {s : State} (ht : InOrder s.table) {far : Crossing} (hm : far ∈ s.table) :
    (removeCrossing far.station far.leg s).table.length + 1 = s.table.length := by
  have hnodup : s.table.Nodup := ht.imp fun h he => absurd (congrArg crossingKey he) (Nat.ne_of_lt h)
  have hfilter : (removeCrossing far.station far.leg s).table = s.table.erase far := by
    rw [hnodup.erase_eq_filter]
    refine List.filter_congr fun c hc => ?_
    have hiff : (c.station = far.station ∧ c.leg = far.leg) ↔ c = far :=
      ⟨fun h => eq_of_key ht hc hm (crossingKey_eq.mpr h), fun h => by rw [h]; exact ⟨rfl, rfl⟩⟩
    rw [← Bool.decide_and]
    by_cases h : c = far
    · simp [h]
    · rw [decide_eq_false (mt hiff.mp h)]; simp [h]
  have hpos := List.length_pos_of_mem hm
  rw [hfilter, List.length_erase_of_mem hm]
  omega

/-- A station without a record moves none. -/
theorem placedAt_new {u : State} {st : Nat} (h : hasRecord u.table st = false) (position radius : Nat) :
    (placedAt st position radius u).table = u.table := by
  have hnone (c : Crossing) (hc : c ∈ u.table) : c.station ≠ st := fun hst => by
    rw [hasRecord_iff.mpr ⟨c, hc, hst⟩] at h; cases h
  refine (List.map_congr_left fun c hc => ?_).trans (List.map_id _)
  rw [if_neg (hnone c hc)]; rfl

/-- A new station's record reaches a full table (R64): it takes the place of the farthest record where it is nearer, and is dropped where
it is not. -/
theorem setCrossing_full {v : State} {st position radius : Nat} {far : Crossing} (ht : InOrder v.table)
    (hnew : hasRecord v.table st = false) (hfull : v.table.length = tableCapacity) (hm : far ∈ v.table)
    (hfar : ∀ c ∈ v.table, NoFarther v c far) (l : LegId) (phase : Option LegState → LegState) (slot : Option Slot) :
    setCrossing st l position radius phase slot v =
      if distanceTo v position < distanceTo v far.position then
        { removeCrossing far.station far.leg (setFlag .tableFull v) with
          table := putCrossing ⟨st, l, position, radius, phase none, slot⟩ (removeCrossing far.station far.leg v).table }
      else setFlag .tableFull v := by
  have hnone : findCrossing v.table st l = none := findCrossing_eq_none.mpr fun c hc h => by
    rw [hasRecord_iff.mpr ⟨c, hc, h.1⟩] at hnew; cases hnew
  have hfarthest : farthest (setFlag .tableFull v) = some far := farthest_eq (s := setFlag .tableFull v) ht hm hfar
  unfold setCrossing
  rw [hnone]
  dsimp only
  rw [makeRecord, if_neg (by omega)]
  dsimp only
  rw [hfarthest]
  rfl

/-- A new station's frame in reach, at a full table (R64). -/
theorem fullTable_taken {s u : State} {st position radius : Nat} {far : Crossing} (htable : u.table = s.table) (hheard : u.heard = s.heard)
    (hcfg : u.cfg = s.cfg) (ht : InOrder s.table) (hheardOrder : s.heard.Pairwise (fun a b => a.station < b.station))
    (hheardFor : ∀ h ∈ s.heard, ∃ c ∈ s.table, c.station = h.station) (hnear : relevant u position radius = true)
    (hnew : hasRecord s.table st = false) (hfull : s.table.length = tableCapacity) (hm : far ∈ s.table)
    (hfar : ∀ c ∈ s.table, NoFarther s c far) (l : LegId) (phase : Option LegState → LegState) (slot : Option Slot) :
    let t := settle (takePlaced st position radius (setCrossing st l position radius phase slot) u)
    flagSet t .tableFull = true ∧ t.table.length = tableCapacity ∧
      (distanceTo s far.position ≤ distanceTo s position → t.table = s.table ∧ t.heard = s.heard) ∧
      (distanceTo s position < distanceTo s far.position →
        findCrossing t.table st l = some ⟨st, l, position, radius, phase none, slot⟩ ∧ heardOf t st = 45 ∧
        findCrossing t.table far.station far.leg = none ∧
        (∀ n m, n ≠ st → (n ≠ far.station ∨ m ≠ far.leg) → findCrossing t.table n m = findCrossing s.table n m) ∧
        (hasRecord t.table far.station = false → ∀ h ∈ t.heard, h.station ≠ far.station)) := by
  intro t
  let v := placedAt st position radius u
  have hv : v.table = s.table := (placedAt_new (by rw [htable]; exact hnew) position radius).trans htable
  have hdist : distanceTo v = distanceTo s := by funext p; rw [distanceTo, distanceTo, conf_congr (show v.cfg = s.cfg from hcfg)]
  have hnotNew (c : Crossing) (hc : c ∈ s.table) : c.station ≠ st := fun h => by
    rw [hasRecord_iff.mpr ⟨c, hc, h⟩] at hnew; cases hnew
  have hset := setCrossing_full (v := v) (position := position) (radius := radius) (by rw [hv]; exact ht) (by rw [hv]; exact hnew)
    (by rw [hv]; exact hfull) (by rw [hv]; exact hm) (fun c hc => by rw [hv] at hc; unfold NoFarther; rw [hdist]; exact hfar c hc) l phase slot
  rw [hdist] at hset
  have htaken : t = settle (hearSender st (setCrossing st l position radius phase slot v)) := congrArg settle (takePlaced_near hnear _)
  by_cases hcloser : distanceTo s position < distanceTo s far.position
  · rw [if_pos hcloser] at hset
    rw [hset] at htaken
    let r := (removeCrossing far.station far.leg v).table
    have hr : InOrder r := List.Pairwise.filter _ (by rw [hv]; exact ht)
    have hfind (n : Nat) (m : LegId) : findCrossing r n m = if n = far.station ∧ m = far.leg then none else findCrossing s.table n m := by
      rw [← hv]; exact findCrossing_removeCrossing (s := v) (by rw [hv]; exact ht) _ _ _ _
    have hrnew (m : LegId) : findCrossing r st m = none := by
      rw [hfind, findCrossing_eq_none.mpr fun c hc h => hnotNew c hc h.1, ite_self]
    have hput : t.table = putCrossing ⟨st, l, position, radius, phase none, slot⟩ r := by rw [htaken, settle_table]; rfl
    have hown := findCrossing_put hr ⟨st, l, position, radius, phase none, slot⟩
    have hlen : r.length + 1 = s.table.length := by
      rw [← hv]; exact removeCrossing_length_eq (s := v) (by rw [hv]; exact ht) (by rw [hv]; exact hm)
    have hotherFar : far.station ≠ st := hnotNew far hm
    have hrecord : hasRecord (putCrossing ⟨st, l, position, radius, phase none, slot⟩ r) st = true :=
      hasRecord_of_find (putCrossing_pairwise hr) hown
    refine ⟨?_, ?_, fun h => absurd hcloser (Nat.not_lt.mpr h), fun _ => ⟨?_, ?_, ?_, fun n m hn hnm => ?_, fun hno => ?_⟩⟩
    · rw [htaken, flagSet_settle]
      exact flagSet_setFlag_self .tableFull v
    · rw [hput, putCrossing_length_of_new hr (hrnew l), hlen, hfull]
    · rw [hput]; exact hown
    · rw [htaken, heardOf, settle_heard]
      exact heardOf_hearSender hrecord
    · rw [hput, findCrossing_put_other hr (fun h => hotherFar h.1.symm), hfind, if_pos ⟨rfl, rfl⟩]
    · rw [hput, findCrossing_put_other hr (fun h => hn h.1.symm), hfind, if_neg (fun h => hnm.elim (fun e => e h.1) fun e => e h.2)]
    · have hnoneLeft : hasRecord r far.station = false := by
        rw [← Bool.not_eq_true]
        intro hyes
        obtain ⟨d, hd, hdst⟩ := hasRecord_iff.mp hyes
        have hkept : d ∈ t.table := by
          rw [hput]
          exact (mem_putCrossing hr).mpr (.inr ⟨hd, fun hk => hotherFar (hdst.symm.trans (crossingKey_eq.mp hk).1)⟩)
        rw [hasRecord_iff.mpr ⟨d, hkept, hdst⟩] at hno
        cases hno
      have hheards : t.heard = putHeard { station := st, left := 45 } (dropHeard far.station s.heard) := by
        have hdropped : (removeCrossing far.station far.leg (setFlag .tableFull v)).heard = dropHeard far.station s.heard :=
          (if_neg (Bool.eq_false_iff.mp hnoneLeft)).trans (congrArg _ hheard)
        rw [htaken, settle_heard, ← hdropped]
        exact if_pos hrecord
      intro h hh
      rw [hheards, mem_putHeard (dropHeard_pairwise hheardOrder)] at hh
      obtain rfl | ⟨hh, -⟩ := hh
      · exact hotherFar.symm
      · exact (mem_dropHeard.mp hh).2
  · rw [if_neg hcloser] at hset
    rw [hset] at htaken
    have htable' : t.table = s.table := by rw [htaken, settle_table]; exact hv
    refine ⟨?_, by rw [htable', hfull], fun _ => ⟨htable', ?_⟩, fun h => absurd h hcloser⟩
    · rw [htaken, flagSet_settle]
      exact flagSet_setFlag_self .tableFull v
    · have hkeeps : (hearSender st (setFlag .tableFull v)).heard = dropHeard st s.heard := by
        have hno : ¬hasRecord (setFlag .tableFull v).table st = true := by
          rw [show (setFlag .tableFull v).table = s.table from hv, hnew]; nofun
        exact (if_neg hno).trans (congrArg (dropHeard st) hheard)
      rw [htaken, settle_heard, hkeeps, dropHeard_eq, List.filter_eq_self]
      intro h hh
      obtain ⟨c, hc, hst⟩ := hheardFor h hh
      exact decide_eq_true (hst ▸ hnotNew c hc)

/-- Settles O28: the crossings found after each kind of frame, in a table with room; and the farthest record's end in a full one. -/
theorem neighbourFramesReachTheTable : Obligations.NeighbourFramesReachTheTable := by
  unfold Obligations.NeighbourFramesReachTheTable
  intro s hl hok record away inReach carried phaseAt blockSlot' bidSlot' keepSlot' keepPhase'
  obtain ⟨ht, -, hheardOrder, -, hheardFor, -⟩ := hok
  have hreach {u : State} (hcfg : u.cfg = s.cfg) (position radius : Nat) : relevant u position radius = true ↔ inReach position radius :=
    relevant_iff hcfg position radius
  have hblock (b : LegBlock) : blockPhase b = phaseAt b.phase ∧ blockSlot b = blockSlot' b := by
    have hphase : blockPhase b = phaseAt b.phase := blockPhase_code b.phase
    refine ⟨hphase, ?_⟩
    show (if blockPhase b = .held ∨ blockPhase b = .flash then none else carriedSlot _ _ _ _ _ _ (stageOf b.stage.toNat)) = _
    rw [hphase, carriedSlot_code]
  have hbid (f : BidFrame) : bidSlot f = bidSlot' f := bidSlot_code f
  refine ⟨fun hroom => ⟨fun f h0 h1 hst => ?_, fun f hfields hst hin => ?_, fun f hfields hstage hst hin => ?_, fun f hst => ?_⟩,
    fun f far hfields hst hin hnew hfull hm hfar => ?_⟩
  · have hframe : frameOk (.beacon f) = true := by
      rw [frameOk, h0, Bool.true_and]
      cases hb : f.block1 with
      | none => rfl
      | some b => exact h1 b hb
    have hexec := exec_frame (c := .beaconReceived f) hl hframe hst (exec_event (c := .beaconReceived f) hl.1 rfl rfl rfl)
    refine ⟨_, hexec, fun hfarAway => ?_, fun hnear => ?_, ?_, ?_⟩
    · have hgone : tableTakes (.beacon f) (blocksTake (.beacon f) (frameEnded s)) = removeStation f.station.toNat (frameEnded s) :=
        takePlaced_far (s := frameEnded s) (Bool.eq_false_iff.mpr (mt (hreach rfl _ _).mp hfarAway)) _
      rw [hgone, settle_table, settle_heard]
      refine ⟨?_, dropHeard_eq ..⟩
      show s.table.filter _ = _
      simp only [decide_not]
    · have htaken : tableTakes (.beacon f) (blocksTake (.beacon f) (frameEnded s)) = hearSender f.station.toNat
          (takeBeacon f (placedAt f.station.toNat f.position.toNat f.radius.toNat (frameEnded s))) :=
        takePlaced_near (s := frameEnded s) ((hreach rfl _ _).mpr hnear) _
      obtain ⟨hord, hleg0, hleg1, hothers⟩ := takeBeacon_found (v := placedAt f.station.toNat f.position.toNat f.radius.toNat (frameEnded s))
        f (placedAt_ordered (s := frameEnded s) _ _ _ ht) (by rw [placedAt_length]; exact hroom) (placedAt_standsAt _ _ _ _)
      rw [htaken, settle_table]
      refine ⟨hleg0.trans ?_, hleg1.trans ?_, ?_, fun n l hn => (hothers n l hn).trans ?_⟩
      · rw [blockRecord, (hblock f.block0).1, (hblock f.block0).2]
      · refine congrArg (fun g => f.block1.map g) (funext fun b => ?_)
        rw [blockRecord, (hblock b).1, (hblock b).2]
      · rw [heardOf, settle_heard]
        exact heardOf_hearSender (hasRecord_of_find hord hleg0)
      · exact findCrossing_placedAt_other (s := frameEnded s) _ _ _ ht hn l
    · rw [settle_slots, tableTakes_touches _ _ .slots (by decide)]; rfl
    · rw [settle_legs, tableTakes_touches _ _ .legs (by decide)]; rfl
  · have hexec := exec_frame (c := .bidReceived f) (f := .bid f) hl hfields hst (exec_event (c := .bidReceived f) hl.1 rfl rfl rfl)
    have hat := atTable (.bid f) s
    obtain ⟨hfound, hheard⟩ := crossing_taken (st := f.station.toNat) hat.table ht (by omega) ((hreach hat.cfg _ _).mpr hin) f.leg
      (fun _ => .claimed) (bidSlot f)
    exact ⟨_, hexec, by rw [← hbid f]; exact hfound, hheard⟩
  · have hframe : frameOk (.keep f) = true := by
      rw [frameOk, hfields, Bool.true_and, decide_eq_true_iff]
      exact fun h0 => hstage (BitVec.eq_of_toNat_eq h0)
    have hexec := exec_frame (c := .keepReceived f) (f := .keep f) hl hframe hst (exec_event (c := .keepReceived f) hl.1 rfl rfl rfl)
    have hat := atTable (.keep f) s
    have hphase : keepPhase f.stage.toNat ((findCrossing s.table f.station.toNat f.leg).map Crossing.phase) =
        keepPhase' f (findCrossing s.table f.station.toNat f.leg) := by
      rw [keepPhase_code hstage]
      generalize findCrossing s.table f.station.toNat f.leg = before
      cases before with
      | none => rfl
      | some c =>
        obtain ⟨-, -, -, -, phase, -⟩ := c
        cases phase <;> rfl
    have hslot : keepSlot f = keepSlot' f := carriedSlot_code ..
    obtain ⟨hfound, hheard⟩ := crossing_taken (st := f.station.toNat) hat.table ht (by omega) ((hreach hat.cfg _ _).mpr hin) f.leg
      (keepPhase f.stage.toNat) (keepSlot f)
    exact ⟨_, hexec, by rw [← hphase, ← hslot]; exact hfound, hheard⟩
  · have hexec := exec_frame (c := .cedeReceived f) (f := .cede f) hl rfl hst (exec_event (c := .cedeReceived f) hl.1 rfl rfl rfl)
    obtain ⟨hfound, hrecord⟩ := takeCede_find (u := frameEnded s) f ht
    refine ⟨_, hexec, ?_, fun hhas => ?_, ?_, ?_⟩
    · rw [settle_table]; exact hfound
    · rw [heardOf, settle_heard]
      exact heardOf_hearSender (s := takeCede f (frameEnded s)) (hrecord hhas)
    · rw [settle_slots, tableTakes_touches _ _ .slots (by decide)]; rfl
    · rw [settle_legs, tableTakes_touches _ _ .legs (by decide)]; rfl
  · have hexec := exec_frame (c := .bidReceived f) (f := .bid f) hl hfields hst (exec_event (c := .bidReceived f) hl.1 rfl rfl rfl)
    have hat := atTable (.bid f) s
    obtain ⟨hflag, hlen, hdropped, hplaced⟩ := fullTable_taken (st := f.station.toNat) hat.table hat.heard hat.cfg ht hheardOrder hheardFor
      ((hreach hat.cfg _ _).mpr hin) hnew hfull hm (fun c hc => hfar c hc) f.leg (fun _ => .claimed) (bidSlot f)
    refine ⟨_, hexec, hflag, hlen, hdropped, fun hcloser => ?_⟩
    obtain ⟨hfound, hrest⟩ := hplaced hcloser
    exact ⟨by rw [← hbid f]; exact hfound, hrest⟩

end Sys2Proof.Machine
end
